-- ==== Sys2Proof/Word.lean ====
section
/-! DEFINITION. The words of the ER-32 that the manual treats as bits: bytes on the links, sets of
attention flags, sets of channels, and the 32-bit argument of an event record. Everything else the
manual counts or measures (seconds, value codes, sequence numbers) is a natural number or an
integer, as the opening file says ("all quantities inside the part and on its links are integers"). -/

namespace Sys2Proof

/-- One byte on a link (R164). -/
abbrev Byte := BitVec 8

/-- A set of the fourteen attention flags, bit n being flag n of the flag-set row of R181. -/
abbrev FlagSet := BitVec 16

/-- A set of channels, bit n being channel n (the argument of READ LIVE, R183). -/
abbrev ChannelSet := BitVec 32

/-- The argument word of an event record (R184). -/
abbrev Word := BitVec 32

end Sys2Proof
end

