-- ==== Sys2Proof/Config.lean ====
section
/-! DEFINITION. The values the manual leaves open. Each is a constant without a body, so that nothing
proved about the model can depend on what it is. A step that needs a fresh one reads the model's own counter
`State.freeDraws`, applies the constant to it and advances the counter; another is a function of what it depends on. -/

namespace Sys2Proof

/-- The argument of the STORE_FAULT record of a write to the retention area that failed twice.
R139 gives area codes 1 to 5 and none of them is the retention area (log entry 9). -/
opaque Config.retentionFaultArgument : Nat → Word

/-- Which of the two tally images failed when the erase's write of both images fails twice: the
slot number in the STORE_FAULT argument is its parity (R156, R139, log entry 10). -/
opaque Config.eraseFailedImage : Nat → Nat

/-- The interval boundary that the part names as the next one at a second after which the counter reaches
none (R35): the due transfer time of an APPROVED stage and the start boundary of IN SERVICE are unstated there
(R152, R184, R186, log entry 23). -/
opaque Config.boundaryBeyond : Nat → Word

end Sys2Proof
end

