-- ==== Sys2Proof/Machine/Arith.lean ====
section
/-! DEFINITION. Rounding (R1), the reckoning of intervals, days and years (opening file, R36), and
counters that stop at their largest value. -/

namespace Sys2Proof.Machine

/-- Round half up (R1): half the divisor is added to the dividend and the quotient's fraction is
discarded. Both are doubled here, so that half of an odd divisor is exact. -/
def roundHalfUp (dividend divisor : Nat) : Nat := (2 * dividend + divisor) / (2 * divisor)

/-- Round half away from zero (R1): the magnitude is rounded half up and the sign is kept. -/
def roundHalfAway (dividend : Int) (divisor : Nat) : Int :=
  if dividend < 0 then -((roundHalfUp dividend.natAbs divisor : Nat) : Int)
  else ((roundHalfUp dividend.natAbs divisor : Nat) : Int)

/-- A mean rounded half up, absent when nothing was counted (R85, R89, R110). -/
def meanOf (sum count : Nat) : Option Nat :=
  if count = 0 then none else some (roundHalfUp sum count)

/-- A count that rises by `rise` and stops at 65,535 (R99, R128). -/
def saturate16 (n rise : Nat) : Nat := min (n + rise) 65535

/-- The start of the interval that contains a second (R36). -/
def intervalStart (t : Nat) : Nat := t - t % 1800

/-- The day number of a second (R36). -/
def dayOf (t : Nat) : Nat := t / 86400

/-- The number of an interval within its day, 0 to 47 (R105). -/
def intervalOfDay (start : Nat) : Nat := start % 86400 / 1800

/-- The first interval boundary after a second (R152). -/
def nextBoundary (t : Nat) : Nat := (t / 1800 + 1) * 1800

/-- The interval boundary that the part names as the first after a second. DESIGN CHOICE (log entry 23): where
the counter reaches none (R35), it is a free value. -/
def namedBoundary (t : Nat) : Nat :=
  if nextBoundary t ≤ 4294967295 then nextBoundary t else (Config.boundaryBeyond t).toNat

/-- Gregorian leap years (R36). -/
def isLeapYear (y : Nat) : Bool := y % 4 == 0 && (y % 100 != 0 || y % 400 == 0)

/-- The days of a year (R36). -/
def yearLength (y : Nat) : Nat := if isLeapYear y then 366 else 365

/-- Counts years forward from year `y`, whose 1 January lies `d` days back: the year and the day of
that year, 1 January being 0. The first argument bounds the count. -/
def countYears : Nat → Nat → Nat → Nat × Nat
  | 0, y, d => (y, d)
  | fuel + 1, y, d => if d < yearLength y then (y, d) else countYears fuel (y + 1) (d - yearLength y)

/-- The year of a day number and the day of that year (R36). -/
def yearAndDay (day : Nat) : Nat × Nat := countYears (day / 365 + 1) 2000 day

/-- The calendar year of a day number (R36). -/
def yearOfDay (day : Nat) : Nat := (yearAndDay day).1

/-- Whether a day is 1 January. -/
def isFirstOfYear (day : Nat) : Bool := (yearAndDay day).2 == 0

/-- Whether a day is 31 December. -/
def isLastOfYear (day : Nat) : Bool := (yearAndDay day).2 + 1 == yearLength (yearAndDay day).1

/-- The day number of 1 January, `k` years after 2000 (R36). -/
def yearStart : Nat → Nat
  | 0 => 0
  | k + 1 => yearStart k + yearLength (2000 + k)

/-- The days of a month, 1 to 12. -/
def monthLength (y m : Nat) : Nat :=
  if m = 2 then (if isLeapYear y then 29 else 28)
  else if m = 4 ∨ m = 6 ∨ m = 9 ∨ m = 11 then 30 else 31

/-- The days of a year before a month. -/
def daysBeforeMonth (y : Nat) : Nat → Nat
  | 0 => 0
  | 1 => 0
  | m + 1 => daysBeforeMonth y m + monthLength y m

/-- The day number of a calendar date between 2000-01-01 and 2136-02-07 (R36, R114), absent for any
other. -/
def dayNumber (y m d : Nat) : Option Nat :=
  if 2000 ≤ y ∧ y ≤ 2136 ∧ 1 ≤ m ∧ m ≤ 12 ∧ 1 ≤ d ∧ d ≤ monthLength y m then
    let n := yearStart (y - 2000) + daysBeforeMonth y m + (d - 1)
    if n ≤ dayOf 4294967295 then some n else none
  else none

end Sys2Proof.Machine
end

