-- ==== Sys2Proof/Syntax.lean ====
section
/-! DEFINITION. The commands of the ER-32: one constructor of `Instr` for each row of
spec/opcode_table.json. A link request carries the link it arrives on and its argument bytes as the
frame holds them (R183); an event of the part's own carries what the part senses at that moment. -/

namespace Sys2Proof

/-- The three link ports; the port gives the access class (R163, R170). -/
inductive Link where
  | plant
  | operator
  | inspection
  deriving DecidableEq, Repr

/-- Why a received frame is not a command (R167, rows 1 and 3). -/
inductive FrameFailure where
  /-- The check word differs, or the argument length is above 40. -/
  | check
  /-- The check passes and the code is not a command of the part. -/
  | unknownCode (code : Byte)
  deriving DecidableEq, Repr

/-- The link requests, in the order of R183. -/
inductive Command where
  | linkStatus | readTime | readLive | readEvents | acknowledgeEvents | setEventMask
  | submitValue | setStackSignals | readConfig | readTally | openReadout | stop | setTime
  | stageChannel | stageStack | stageDevice | withdrawStage | approve | rejectStage
  | markStart | markEnd | applyAnnotation | commitCollection | commitReport | closeDays
  | inService | withdraw | eraseArchive | restart
  deriving DecidableEq, Repr

/-- How one program-and-verify attempt of a store write ended (R139). `pointersFailed` is the ring
write whose record verified and whose pointers did not (R134). -/
inductive Attempt where
  | verified
  | failed
  | pointersFailed
  deriving DecidableEq, Repr

/-- How the writing of a snapshot ended (R150): the mark verified, VDD fell away before it did, or a
part failed twice. -/
inductive SnapshotEnd where
  | complete
  | cutOff
  | failedTwice
  deriving DecidableEq, Repr

/-- The levels of one stack's FIRE, FEED and ABN (R48, R49). -/
structure Signals where
  fire : Bool
  feed : Bool
  abn  : Bool
  deriving DecidableEq, Repr

/-- All three signals off. -/
def Signals.allOff : Signals := { fire := false, feed := false, abn := false }

/-- The commands and events of the part, in the order of spec/opcode_table.json. -/
inductive Instr where
  | linkStatus (link : Link) (args : List Byte)
  /-- `phase`: the millisecond of the second in progress at which the request is taken. -/
  | readTime (link : Link) (args : List Byte) (phase : Nat)
  | readLive (link : Link) (args : List Byte)
  | readEvents (link : Link) (args : List Byte)
  | acknowledgeEvents (link : Link) (args : List Byte)
  | setEventMask (link : Link) (args : List Byte)
  | submitValue (link : Link) (args : List Byte)
  | setStackSignals (link : Link) (args : List Byte)
  | readConfig (link : Link) (args : List Byte)
  | readTally (link : Link) (args : List Byte)
  | openReadout (link : Link) (args : List Byte)
  | stop (link : Link) (args : List Byte)
  /-- `phase`: the millisecond of the second in progress at which the request is taken. -/
  | setTime (link : Link) (args : List Byte) (phase : Nat)
  | stageChannel (link : Link) (args : List Byte)
  | stageStack (link : Link) (args : List Byte)
  | stageDevice (link : Link) (args : List Byte)
  | withdrawStage (link : Link) (args : List Byte)
  | approve (link : Link) (args : List Byte)
  | rejectStage (link : Link) (args : List Byte)
  | markStart (link : Link) (args : List Byte)
  | markEnd (link : Link) (args : List Byte)
  | applyAnnotation (link : Link) (args : List Byte)
  | commitCollection (link : Link) (args : List Byte)
  | commitReport (link : Link) (args : List Byte)
  | closeDays (link : Link) (args : List Byte)
  | inService (link : Link) (args : List Byte)
  | withdraw (link : Link) (args : List Byte)
  | eraseArchive (link : Link) (args : List Byte)
  /-- `attempts`: how the remaining program attempts of a grant in progress, and those of a pending
  transfer write, turn out (R157); attempts beyond the list verify. -/
  | restart (link : Link) (args : List Byte) (attempts : List Attempt)
  | failedFrame (link : Link) (failure : FrameFailure)
  | selectDeasserted (link : Link)
  | selectAsserted (link : Link)
  | stageCommit
  | withdrawStageCommit
  | rejectStageCommit
  | approveCommit
  | collectionCommit
  | reportCommit
  | closeDaysCommit
  | inServiceCommit
  | withdrawCommit
  | withdrawalWork
  | eraseGrant
  | annotationQueuedWaitEnd
  | annotationReadGrant
  | annotationRewriteGrant
  | annotationRewriteComplete
  | queueWriteGrant
  | writeAttemptComplete (attempt : Attempt)
  | transferWriteGrant
  | protectionWordGrant
  | readoutReadGrant
  | readoutBlockSent (link : Link)
  | internalSecondEdge
  | referenceWindowClose
  /-- `phase`: the millisecond of the second in progress at which the edge of TREF rises. -/
  | trefPulse (phase : Nat)
  /-- `readings`: the loop currents of AIN0 to AIN31 in this slot, in µA. -/
  | scanSlot (slot : Nat) (readings : List Nat)
  | statusLineActive (line : Nat)
  /-- The reference readings of converters A and B, in µA. -/
  | selfCheckEnd (readingA readingB : Nat)
  | lossOfLock
  | acquisitionComplete
  /-- `lines`: the levels of the pins of stacks 0 to 3. -/
  | samplingPoint (lines : List Signals)
  | normaliseSecond
  | accumulateSecond
  | dayClose
  | pfailActive (attempts : List Attempt)
  | rstnActive (attempts : List Attempt)
  | snapshotWriteEnd (outcome : SnapshotEnd)
  /-- `selfTest`: whether the store's self-test passes (R140, R159). -/
  | haltEnd (selfTest : Bool)
  /-- `markCleared`: whether the retention mark's clearing verifies within its two attempts (R162). -/
  | endOfRecovery (markCleared : Bool)
  | replySent (link : Link)
  | backupSupplyLoss
  deriving DecidableEq, Repr

end Sys2Proof
end

