-- ==== Sys2Proof/Machine/Tables.lean ====
section
/-! DEFINITION. The configuration tables (R2, R4, R5) and the stage set (R8), with their factory
values (R4 to R6). -/

namespace Sys2Proof.Machine

/-- The kinds of R2, in the order of the codes of R181: nine pollutants, then four peripheral kinds. -/
inductive Kind where
  | dust | hcl | so2 | nox | co | toc | hf | hg | nh3 | o2 | h2o | flow | temp
  deriving DecidableEq, Repr

/-- Where a channel's per-second value comes from (R2). -/
inductive Source where
  | analog (input : Nat)
  | link
  | constant (value : Int)
  deriving DecidableEq, Repr

/-- One entry of the channel table (R2). -/
structure ChannelEntry where
  inUse         : Bool
  stack         : Nat
  kind          : Kind
  source        : Source
  range         : Option Nat
  offset        : Int
  slope         : Nat
  ceiling       : Nat
  wet           : Bool
  o2Ref         : Option Nat
  ciPercent     : Nat
  intervalLimit : Option Nat
  dayLimit      : Option Nat
  maintLine     : Option Nat
  faultLine     : Option Nat
  deriving DecidableEq, Repr

/-- The factory channel entry (R6). -/
def ChannelEntry.factory : ChannelEntry :=
  { inUse := false, stack := 0, kind := .temp, source := .constant 0, range := none, offset := 0,
    slope := 10000, ceiling := 0, wet := false, o2Ref := none, ciPercent := 0,
    intervalLimit := none, dayLimit := none, maintLine := none, faultLine := none }

/-- Where a stack's signals come from (R4). -/
inductive SignalSource where
  | lines
  | link
  deriving DecidableEq, Repr

/-- One entry of the stack table (R4). -/
structure StackEntry where
  inUse     : Bool
  source    : SignalSource
  debounce  : Nat
  runOut    : Nat
  o2Chan    : Option Nat
  h2oChan   : Option Nat
  flowChan  : Option Nat
  o2Cap     : Nat
  runLimit  : Nat
  yearLimit : Nat
  deriving DecidableEq, Repr

/-- The factory stack entry (R4). -/
def StackEntry.factory : StackEntry :=
  { inUse := false, source := .lines, debounce := 0, runOut := 0, o2Chan := none, h2oChan := none,
    flowChan := none, o2Cap := 1900, runLimit := 14400, yearLimit := 216000 }

/-- Mains rejection (R5). -/
inductive Mains where
  | hz50
  | hz60
  deriving DecidableEq, Repr

/-- Arbiter mode (R5). -/
inductive ArbiterMode where
  | rotate
  | operatorLast
  | inspectionLast
  deriving DecidableEq, Repr

/-- The device settings (R5). `window` is the correction window W. -/
structure DeviceSettings where
  mains         : Mains
  window        : Nat
  dayInvalidMax : Nat
  arbiterMode   : ArbiterMode
  deriving DecidableEq, Repr

/-- The factory device settings (R5). -/
def DeviceSettings.factory : DeviceSettings :=
  { mains := .hz50, window := 3, dayInvalidMax := 5, arbiterMode := .rotate }

/-- One generation of the configuration: 32 channel entries, 4 stack entries, the device settings. -/
structure Tables where
  channels : List ChannelEntry
  stackTab : List StackEntry
  device   : DeviceSettings
  deriving DecidableEq, Repr

/-- The factory configuration (R6). -/
def Tables.factory : Tables :=
  { channels := List.replicate 32 .factory
    stackTab := List.replicate 4 .factory
    device   := .factory }

/-- The stage state (R8). -/
inductive StageState where
  | empty
  | opened
  | approved
  deriving DecidableEq, Repr

/-- The stage set (R8): staged entries in index order, at most one an index. -/
structure StageSet where
  state    : StageState
  channels : List (Nat × ChannelEntry)
  stackTab : List (Nat × StackEntry)
  device   : Option DeviceSettings
  approver : Option Link
  deriving DecidableEq, Repr

/-- The stage set when EMPTY (R6, R8). -/
def StageSet.emptied : StageSet :=
  { state := .empty, channels := [], stackTab := [], device := none, approver := none }

end Sys2Proof.Machine
end

