-- ==== Sys2Proof/Machine/Records.lean ====
section
/-! DEFINITION. The samples, normalised sets, accumulators, records, day entries and tally slots that
pass through the chain (R21 to R34, R56, R74, R81, R96, R104, R105, R111, R125, R184). -/

namespace Sys2Proof.Machine

/-! ### The second -/

/-- The verdicts of R34 and R73. -/
inductive Verdict where
  | good | saturated | dependency | maintenance | analyserFault | converterFault | lineBreak
  | short | stale
  deriving DecidableEq, Repr

/-- The stack states of R48. -/
inductive StackState where
  | off | startup | operating | shutdown | abnormal
  deriving DecidableEq, Repr

/-- The device modes of R151. -/
inductive Mode where
  | commissioning | enteringService | recording | suspended | withdrawn
  deriving DecidableEq, Repr

/-- One channel's sample of a second (R34). `value` is the second mean in µA for an ANALOG source and
the value code otherwise; `conversions` is present for ANALOG. -/
structure Sample where
  channel     : Nat
  verdict     : Verdict
  value       : Option Int
  conversions : Option Nat
  deriving DecidableEq, Repr

/-- The scan unit's sample set of a second (R34), with the mode of that second (R151) and the
configuration in force for it (R14). -/
structure SampleSet where
  second  : Nat
  mode    : Mode
  cfg     : Tables
  samples : List Sample
  deriving DecidableEq, Repr

/-- One stack's entry of a stack state set (R56). -/
structure StackMark where
  inUse : Bool
  state : StackState
  stale : Bool
  deriving DecidableEq, Repr

/-- The stack state unit's set of a second (R56): four entries. -/
structure StackSet where
  second : Nat
  marks  : List StackMark
  deriving DecidableEq, Repr

/-- The fields of R74 that a channel in use has. -/
structure NormValue where
  stack       : Nat
  kind        : Kind
  verdict     : Verdict
  y           : Option Nat
  yDry        : Option Nat
  yRef        : Option Nat
  outOfCal    : Bool
  saturated   : Bool
  conversions : Option Nat
  deriving DecidableEq, Repr

/-- One channel entry of a normalised set (R74): the second, and the fields of a channel in use. -/
structure NormChannel where
  second : Nat
  value  : Option NormValue
  deriving DecidableEq, Repr

/-- One stack entry of a normalised set (R74). -/
structure NormStack where
  second : Nat
  mark   : StackMark
  deriving DecidableEq, Repr

/-- The normalised set of a second (R74): 32 channel entries and 4 stack entries. -/
structure NormSet where
  second   : Nat
  channels : List NormChannel
  marks    : List NormStack
  deriving DecidableEq, Repr

/-! ### The interval -/

/-- One channel's accumulator (R81). -/
structure Accumulator where
  channel     : Nat
  secsRec     : Nat
  secsOp      : Nat
  secsAbn     : Nat
  validReg    : Nat
  sumReg      : Nat
  sumDry      : Nat
  secsMaint   : Nat
  secsOutcal  : Nat
  secsSat     : Nat
  validAll    : Nat
  sumAll      : Nat
  truncated   : Bool
  interrupted : Bool
  deriving DecidableEq, Repr

/-- An accumulator set: one interval, the configuration in force for it, and one accumulator for each
channel in use in that configuration (R79, R80). -/
structure AccSet where
  start : Nat
  cfg   : Tables
  accs  : List Accumulator
  deriving DecidableEq, Repr

/-- Interval classes (R87). -/
inductive IntervalClass where
  | operating | abnormal | notOperating
  deriving DecidableEq, Repr

/-- Validity of an interval or a day (R88, R110). -/
inductive Validity where
  | none | valid | invalid
  deriving DecidableEq, Repr

/-- Annotation kinds (R118). -/
inductive AnnKind where
  | invalidate | startupShutdown | abnormal | restore | remark
  deriving DecidableEq, Repr

/-- An interval record (R96). The flags VALID, SATURATED_SEEN, OUT_OF_CAL_SEEN and LOAD_PRESENT follow
from its other fields. -/
structure IntervalRec where
  start       : Nat
  channel     : Nat
  stack       : Nat
  kind        : Kind
  origClass   : IntervalClass
  origValid   : Validity
  finalClass  : IntervalClass
  finalValid  : Validity
  exceeded    : Bool
  truncated   : Bool
  interrupted : Bool
  annotated   : Bool
  secsRec     : Nat
  secsOp      : Nat
  secsAbn     : Nat
  validReg    : Nat
  secsMaint   : Nat
  secsOutcal  : Nat
  secsSat     : Nat
  validAll    : Nat
  average     : Option Nat
  allAverage  : Option Nat
  validated   : Option Nat
  load        : Option Nat
  annKind     : Option AnnKind
  remark      : Nat
  revision    : Nat
  deriving DecidableEq, Repr

/-! ### The day -/

/-- Slot states of an interval map (R105). -/
inductive MapState where
  | none
  | queued
  | notStored
  | stored (sequence : Nat)
  deriving DecidableEq, Repr

/-- One slot of an interval map (R105), with the copies a slot that is not NONE holds. -/
structure MapSlot where
  state           : MapState
  stack           : Nat
  finalClass      : IntervalClass
  finalValid      : Validity
  validated       : Option Nat
  exceeded        : Bool
  annotated       : Bool
  exceededAtClose : Bool
  deriving DecidableEq, Repr

/-- A slot in state NONE; its copies are not read. -/
def MapSlot.vacant : MapSlot :=
  { state := .none, stack := 0, finalClass := .notOperating, finalValid := .none,
    validated := none, exceeded := false, annotated := false, exceededAtClose := false }

/-- A day entry: one channel's half hours of one provisional day (R104). -/
structure DayEntry where
  channel      : Nat
  recorded     : Nat
  nValid       : Nat
  nInvalid     : Nat
  nAbnormal    : Nat
  nNotOp       : Nat
  sumValidated : Nat
  maximum      : Option (Nat × Nat)
  exceedances  : Nat
  annulled     : Nat
  annotated    : Nat
  loadSum      : Nat
  loadGaps     : Nat
  secsAbn      : Nat
  secsOutcal   : Nat
  secsSat      : Nat
  label        : Option (Nat × Kind)
  map          : List MapSlot
  deriving DecidableEq, Repr

/-- A created day entry (R106). -/
def DayEntry.fresh (channel : Nat) : DayEntry :=
  { channel := channel, recorded := 0, nValid := 0, nInvalid := 0, nAbnormal := 0, nNotOp := 0,
    sumValidated := 0, maximum := none, exceedances := 0, annulled := 0, annotated := 0,
    loadSum := 0, loadGaps := 0, secsAbn := 0, secsOutcal := 0, secsSat := 0, label := none,
    map := List.replicate 48 .vacant }

/-- A provisional day with its entries in ascending channel index (R103). -/
structure ProvDay where
  day     : Nat
  entries : List DayEntry
  deriving DecidableEq, Repr

/-- Close causes (R107). -/
inductive CloseCause where
  | scheduled | commanded | withdrawal
  deriving DecidableEq, Repr

/-- Day classes (R109). -/
inductive DayClass where
  | noOperation | unrecorded | operating
  deriving DecidableEq, Repr

/-- A day record (R111). -/
structure DayRec where
  day           : Nat
  channel       : Nat
  stack         : Nat
  kind          : Kind
  cause         : CloseCause
  dayClass      : DayClass
  validity      : Validity
  exceeded      : Bool
  dayInvalidMax : Nat
  recorded      : Nat
  nValid        : Nat
  nInvalid      : Nat
  nAbnormal     : Nat
  nNotOp        : Nat
  nUnrecorded   : Nat
  average       : Option Nat
  maximum       : Option (Nat × Nat)
  exceedances   : Nat
  annulled      : Nat
  annotated     : Nat
  loadSum       : Nat
  loadGaps      : Nat
  secsAbn       : Nat
  secsOutcal    : Nat
  secsSat       : Nat
  deriving DecidableEq, Repr

/-! ### Events -/

/-- Event kinds, in the order of their codes 1 to 24 (R181). -/
inductive EventKind where
  | powerLoss | restart | snapshotLost | timeStep | referenceLost | referenceRegained
  | scanClockUnlocked | scanClockLocked | converterFaultBegin | converterFaultEnd | lineBreakBegin
  | stageOpened | stageApproved | stageRejected | stageWithdrawn | configTransferred | annotation
  | daysClosedEarly | abnormalRunLimit | abnormalYearLimit | storeFault | yearReportUncollected
  | inService | withdrawn
  deriving DecidableEq, Repr

/-- An event record (R184). -/
structure EventRec where
  time     : Nat
  kind     : EventKind
  stack    : Option Nat
  channel  : Option Nat
  argument : Word
  deriving DecidableEq, Repr

/-! ### The year -/

/-- Tally slot states (R125). -/
inductive TallyState where
  | unused | opened | final | reported
  deriving DecidableEq, Repr

/-- One channel's section of a tally slot (R125). -/
structure ChannelTally where
  label          : Option (Nat × Kind)
  ivValid        : Nat
  ivInvalid      : Nat
  ivAbnormal     : Nat
  ivNotOp        : Nat
  ivUnrecorded   : Nat
  ivExceedances  : Nat
  dayValid       : Nat
  dayInvalid     : Nat
  dayNoOperation : Nat
  dayUnrecorded  : Nat
  dayExceedances : Nat
  maxInterval    : Option (Nat × Nat)
  maxDay         : Option (Nat × Nat)
  load           : Nat
  loadGaps       : Nat
  secsOutcal     : Nat
  secsSat        : Nat
  annotated      : Nat
  annulled       : Nat
  deriving DecidableEq, Repr

/-- A channel section with every count 0 and every maximum absent (R126, R129). -/
def ChannelTally.zero : ChannelTally :=
  { label := none, ivValid := 0, ivInvalid := 0, ivAbnormal := 0, ivNotOp := 0, ivUnrecorded := 0,
    ivExceedances := 0, dayValid := 0, dayInvalid := 0, dayNoOperation := 0, dayUnrecorded := 0,
    dayExceedances := 0, maxInterval := none, maxDay := none, load := 0, loadGaps := 0,
    secsOutcal := 0, secsSat := 0, annotated := 0, annulled := 0 }

/-- A tally slot (R125). -/
structure TallySlot where
  state       : TallyState
  year        : Option Nat
  channels    : List ChannelTally
  stackAbn    : List Nat
  overwritten : Nat
  notStored   : Nat
  steps       : Nat
  restarts    : Nat
  lostReports : Nat
  deriving DecidableEq, Repr

/-- A slot in a given state and year with every count 0 and every maximum absent (R126, R129). -/
def TallySlot.blank (state : TallyState) (year : Option Nat) : TallySlot :=
  { state := state, year := year, channels := List.replicate 32 .zero,
    stackAbn := List.replicate 4 0, overwritten := 0, notStored := 0, steps := 0, restarts := 0,
    lostReports := 0 }

/-! ### The write queue -/

/-- A record waiting in the write queue (R98); a checkpoint names the slot it copies (R126). -/
inductive QueueItem where
  | interval (r : IntervalRec)
  | day (r : DayRec)
  | event (r : EventRec)
  | checkpoint (slot : Nat) (copy : TallySlot)
  deriving DecidableEq, Repr

end Sys2Proof.Machine
end

