-- ==== Sys2Proof/Machine/State.lean ====
section
/-! DEFINITION. The state of the ER-32, block by block as the opening file lists the blocks, the reasons
a step can stop, and the state after reset. Every component is plain data. -/

namespace Sys2Proof.Machine

/-! ### Time base (R35 to R47) -/

/-- The reference state (R39). -/
inductive RefState where
  | noReference
  | tracking
  deriving DecidableEq, Repr

/-- The time base's state (chapter Time of Record, first table). `slewStep` is the step d taken for the
second in progress (R40); `pulseEdge` is the edge whose window already holds its reference pulse, named
by the second that begins there (R38). -/
structure TimeBase where
  counter     : Nat
  phase       : Nat
  clockValid  : Bool
  setMark     : Bool
  reference   : RefState
  missed      : Nat
  badPulses   : Nat
  pendingSlew : Int
  slewStep    : Int
  pulseEdge   : Option Nat
  deriving DecidableEq, Repr

/-! ### Scan unit (R19 to R34) -/

/-- A second accumulator (R21). -/
structure SecondAcc where
  n         : Nat
  sum       : Nat
  lineBreak : Bool
  saturated : Bool
  deriving DecidableEq, Repr

/-- An empty second accumulator (R21). -/
def SecondAcc.empty : SecondAcc := { n := 0, sum := 0, lineBreak := false, saturated := false }

/-- The contents of a value slot (R31). -/
structure ValueSlot where
  value       : Int
  maintenance : Bool
  arrival     : Nat
  deriving DecidableEq, Repr

/-- The scan clock synthesizer's states (R25). -/
inductive Synth where
  | acquiring | locked | stopped
  deriving DecidableEq, Repr

/-- The scan unit's state. `broken` is the line-break state of each input (R22), `faultyA` and `faultyB`
the converters' fault states (R24), `slots` the value slots (R31). `linkStale` holds, for each channel, whether its verdict in
the last processed second was STALE, absent where it had no LINK verdict there (R32). -/
structure ScanUnit where
  accs      : List SecondAcc
  broken    : List Bool
  faultyA   : Bool
  faultyB   : Bool
  synth     : Synth
  latches   : BitVec 16
  slots     : List (Option ValueSlot)
  linkStale : List (Option Bool)
  deriving DecidableEq, Repr

/-- The scan unit with nothing converted, latched, broken or submitted, its synthesizer in a given state
(R28). -/
def ScanUnit.cleared (synth : Synth) : ScanUnit :=
  { accs := List.replicate 32 .empty, broken := List.replicate 32 false, faultyA := false,
    faultyB := false, synth := synth, latches := 0, slots := List.replicate 32 none,
    linkStale := List.replicate 32 none }

/-- A second boundary that has fallen while the write of a committed APPROVE, REJECT STAGE, IN SERVICE or
WITHDRAW is being programmed, and that the write's end decides (R11, R13, R15, R152, R154; log entry 20): an internal
second edge, a forward step from an old second to a millisecond, or a set in COMMISSIONING. -/
inductive HeldBoundary where
  | edge
  | step (old ms : Nat)
  | set
  deriving DecidableEq, Repr

/-- The readings of a self-check, and the lock, the latches and the value slots of its moment, where the check
waits for a held second boundary (log entry 20). -/
structure WaitingCheck where
  lock     : Bool
  readingA : Nat
  readingB : Nat
  latches  : BitVec 16
  slots    : List (Option ValueSlot)
  deriving DecidableEq, Repr

/-! ### Stack state unit (R48 to R62) -/

/-- The link signal slot: levels, and an arrival second that R52 may leave absent. -/
structure LinkSlot where
  levels  : Signals
  arrival : Option Nat
  deriving DecidableEq, Repr

/-- A pending run-out (R55): its remaining count, and whether its held state is ABNORMAL (else
OPERATING). -/
structure RunOut where
  remaining    : Nat
  heldAbnormal : Bool
  deriving DecidableEq, Repr

/-- One stack's state (R48). `wasInUse` and `wasLink` say whether the stack was in use, and was a LINK
stack in use, in the last second evaluated; a transfer that takes it out of use ends the first (R51, R52). -/
structure StackUnit where
  raw         : Signals
  filtered    : Signals
  fireTimer   : Nat
  feedTimer   : Nat
  abnTimer    : Nat
  slot        : Option LinkSlot
  stale       : Bool
  state       : StackState
  runOut      : Option RunOut
  runCounter  : Nat
  runMark     : Bool
  yearCounter : Nat
  counterYear : Nat
  yearMark    : Bool
  wasInUse    : Bool
  wasLink     : Bool
  deriving DecidableEq, Repr

/-- A stack as the part leaves the factory (R48), with a given counter year (R61). -/
def StackUnit.initial (counterYear : Nat) : StackUnit :=
  { raw := .allOff, filtered := .allOff, fireTimer := 0, feedTimer := 0, abnTimer := 0, slot := none,
    stale := false, state := .off, runOut := none, runCounter := 0, runMark := false,
    yearCounter := 0, counterYear := counterYear, yearMark := false, wasInUse := false,
    wasLink := false }

/-! ### Normaliser (R63 to R78) -/

/-- The sets waiting to be paired (R63) and the live value buffer (R75). -/
structure Normaliser where
  samples      : List SampleSet
  stackSets    : List StackSet
  liveChannels : List (Option NormChannel)
  liveStacks   : List (Option NormStack)
  deriving DecidableEq, Repr

/-! ### The second in progress -/

/-- What the self-check of the second in progress found: fault states, line-break states, and LINK verdicts
(R22, R24, R32). -/
structure ScanBefore where
  faultyA   : Bool
  faultyB   : Bool
  broken    : List Bool
  linkStale : List (Option Bool)
  deriving DecidableEq, Repr

/-- What the normalising of the second in progress found in the live value buffer (R75, R85). -/
structure LiveBefore where
  channels : List (Option NormChannel)
  marks    : List (Option NormStack)
  running  : List (Option Nat)
  deriving DecidableEq, Repr

/-- What the work on the second in progress found, block by block, absent where a block has not worked on
it: a step or a set skips that second, and the blocks then stand as they were found (R42, R43, R59). -/
structure SecondBefore where
  scan   : Option ScanBefore
  units  : Option (List StackUnit)
  live   : Option LiveBefore
  sums   : Option AccSet
  deriving DecidableEq, Repr

/-- Before any block has worked on the second in progress. -/
def SecondBefore.nothing : SecondBefore := { scan := none, units := none, live := none, sums := none }

/-- What the part has done with the second in progress: whether it is handed to the blocks (R46), its
mode (R151), the configuration in force for it (R14), whether the synthesizer has been LOCKED since its
start (R20, R23), the next scan slot and the phase before which no slot is taken (R43), whether its
sample set and its stack state set have been formed (R34, R56), its second boundary where that is held, with the
self-check and the sampling point (with the link signal slots of its moment) that wait for it, and what the work on the
second found. -/
structure SecondWork where
  processed    : Bool
  mode         : Mode
  cfg          : Tables
  lockHeld     : Bool
  nextSlot     : Nat
  slotFloor    : Nat
  sampleFormed : Bool
  sampled      : Bool
  held         : Option HeldBoundary
  checkWaits   : Option WaitingCheck
  sampleWaits  : Option (List (Option LinkSlot))
  before       : SecondBefore
  deriving DecidableEq, Repr

/-! ### Recorder (R79 to R131) -/

/-- Which provisional days an occasion closes (R107). -/
inductive DayRange where
  | nothing
  | through (day : Nat)
  | every
  deriving DecidableEq, Repr

/-- A close occasion (R107): its cause, its days, the day that joins when its closes are made (R106),
the configuration of the boundary or the commit that it belongs to (R17, R44), and the days it has closed. -/
structure Occasion where
  cause  : CloseCause
  range  : DayRange
  joins  : Option Nat
  gov    : Tables
  closed : Nat
  deriving DecidableEq, Repr

/-- Recorder work that waits its turn, first in first out (R44, R45, R107): the TRUNCATED close of the
interval a step left, the records of the step that follow it, and close occasions. -/
inductive RecorderWork where
  | closeStepped (start : Nat)
  | record (e : EventRec)
  | occasion (o : Occasion)
  deriving DecidableEq, Repr

/-- A withdrawal under way (R154, R155): the withdrawal point once reached, whether its intervals are
closed, and the days closed so far. -/
structure Withdrawal where
  point   : Option Nat
  started : Bool
  closed  : Nat
  deriving DecidableEq, Repr

/-- The recorder's holdings: normalised sets handed and not yet accumulated (R63, R82), accumulator
sets, running averages, write queue (R79), pending counts (R128), provisional day table (R103), live
tally slots (R125), waiting work and a withdrawal under way. -/
structure Recorder where
  handed      : List NormSet
  accSets     : List AccSet
  running     : List (Option Nat)
  queue       : List QueueItem
  notStored   : Nat
  steps       : Nat
  restarts    : Nat
  overwritten : Nat
  table       : List ProvDay
  tally       : List TallySlot
  work        : List RecorderWork
  withdrawal  : Option Withdrawal
  deriving DecidableEq, Repr

/-! ### Configuration unit (R2 to R18) -/

/-- The active tables, the stage set, whether a transfer's configuration write is pending (R15), and,
for a transfer made in COMMISSIONING, the outgoing tables whose signal side changes over at the next
second boundary (R13, R14, R52). The outgoing generation of R14 is carried by the second in progress, the sample sets
and the accumulator sets worked under it. -/
structure ConfigUnit where
  active          : Tables
  stage           : StageSet
  transferPending : Bool
  changeOver      : Option Tables
  deriving DecidableEq, Repr

/-! ### Record store (R132 to R150) -/

/-- The three rings (R132). -/
inductive RingName where
  | interval | day | event
  deriving DecidableEq, Repr

/-- A ring's pointers (R134). -/
structure Pointers where
  oldest    : Nat
  newest    : Nat
  collected : Nat
  deriving DecidableEq, Repr

/-- The pointers of an empty ring (R133). -/
def Pointers.zero : Pointers := { oldest := 0, newest := 0, collected := 0 }

/-- A ring: its pointers, whether the next fall of the headroom below 3,072 raises the flag (R136), and
its positions, each listed one holding a record with its sequence number. A position not listed is empty (R143). -/
structure Ring (α : Type) where
  ptr   : Pointers
  armed : Bool
  cells : List (Nat × (Nat × α))
  deriving DecidableEq, Repr

/-- An empty ring (R133). -/
def Ring.empty {α : Type} : Ring α := { ptr := .zero, armed := true, cells := [] }

/-- One image of the configuration area (R132, R148). -/
structure ConfigArea where
  tables     : Tables
  stage      : StageSet
  mode       : Mode
  interval   : Pointers
  day        : Pointers
  event      : Pointers
  protection : Option Nat
  deriving DecidableEq, Repr

/-- The configuration area as ERASE ARCHIVE writes it, and as the part leaves the factory (R6, R156). -/
def ConfigArea.factory : ConfigArea :=
  { tables := .factory, stage := .emptied, mode := .commissioning, interval := .zero, day := .zero,
    event := .zero, protection := none }

/-- The causes of a snapshot (R157). -/
inductive SnapCause where
  | pfail | rstn | restart
  deriving DecidableEq, Repr

/-- The busy operations (R169). -/
inductive BusyName where
  | stageChannel | stageStack | stageDevice | withdrawStage | approve | rejectStage
  | applyAnnotation | commitCollection | commitReport | closeDays | inService | withdraw
  | eraseArchive
  deriving DecidableEq, Repr

/-- What a snapshot holds of an operation in flight (R158). -/
structure OpSnapshot where
  command : BusyName
  counts  : List Nat
  deriving DecidableEq, Repr

/-- The retention snapshot (R158). `ops` holds the operations of the plant, operator and inspection
links; `tables` is present when a transfer's configuration write is pending. -/
structure Snapshot where
  second        : Nat
  cause         : SnapCause
  mode          : Mode
  withdrawal    : Option Withdrawal
  accSets       : List AccSet
  table         : List ProvDay
  queue         : List QueueItem
  notStored     : Nat
  steps         : Nat
  restarts      : Nat
  overwritten   : Nat
  tally         : List TallySlot
  closedThrough : Option Nat
  interval      : Pointers
  day           : Pointers
  event         : Pointers
  stackUnits    : List StackUnit
  ops           : List (Option OpSnapshot)
  tables        : Option (Tables × StageSet)
  deriving DecidableEq, Repr

/-- The record store: its state, the rings, the current tally images, the current image of the
configuration area, the retention area's mark and snapshot, and the live closed-through date (R132, R133, R142). The
spare images are the ones a write programs before it makes them current: that of each position of the interval ring
which a rewrite has programmed (R141), those of the tally slots (R149), and the other one of the configuration area
(R148). -/
structure Store where
  fault         : Bool
  interval      : Ring IntervalRec
  day           : Ring DayRec
  event         : Ring EventRec
  intervalSpare : List (Nat × (Nat × IntervalRec))
  tally         : List TallySlot
  tallySpare    : List TallySlot
  area          : ConfigArea
  areaSpare     : ConfigArea
  mark          : Bool
  snapshot      : Option Snapshot
  closedThrough : Option Nat
  deriving DecidableEq, Repr

/-! ### Store arbiter (R144 to R146) -/

/-- The recorder's claims that wait in the order they arose (R145). -/
inductive RecClaim where
  | transfer
  | protection
  deriving DecidableEq, Repr

/-- A claim for one record operation (R144). `op` is the write of a link's busy operation. -/
inductive Claim where
  | queue
  | transfer
  | protection
  | op (link : Link)
  | readout (link : Link)
  | annRead
  | annRewrite
  deriving DecidableEq, Repr

/-- A grant (R144, R145): its claim; whether its operation has begun; whether its first attempt has
failed; which of the writes made within it is being programmed (the pointers after a ring record, R134; the three
writes of an erase, R156); the second of the commit; and whether its claimant has given it up (R146). -/
structure Grant where
  claim      : Claim
  begun      : Bool
  failedOnce : Bool
  part       : Nat
  second     : Nat
  stale      : Bool
  deriving DecidableEq, Repr

/-- The arbiter (R144). -/
structure Arbiter where
  grant     : Option Grant
  rotation  : Link
  recClaims : List RecClaim
  deriving DecidableEq, Repr

/-! ### Link ports (R163 to R173) -/

/-- Frame receiver states (R163). -/
inductive Receiver where
  | idle | receiving | replying | busy | streaming
  deriving DecidableEq, Repr

/-- The four counts of an annotation (R119). -/
structure AnnCounts where
  applied       : Nat
  refusedClosed : Nat
  refusedKind   : Nat
  absent        : Nat
  deriving DecidableEq, Repr

/-- Where an annotation stands with its candidate (R120 to R123): it waits for a QUEUED slot, for a read
grant, or for a rewrite grant, the rewrite is being programmed, or has verified. -/
inductive AnnPhase where
  | examine
  | waitQueued
  | waitRead (sequence : Nat)
  | waitRewrite (sequence : Nat) (old new : IntervalRec)
  | programming (sequence : Nat) (old new : IntervalRec)
  | verified (old new : IntervalRec)
  deriving DecidableEq, Repr

/-- An annotation under way (R118, R119): the marked range, the kind, the interval it has reached and
the candidates of that interval not yet counted, the first being the one at hand. A candidate is a channel, or the
interval alone. -/
structure AnnOp where
  stack    : Nat
  channel  : Option Nat
  first    : Nat
  last     : Nat
  kind     : AnnKind
  remark   : Nat
  interval : Nat
  todo     : List (Option Nat)
  counts   : AnnCounts
  phase    : AnnPhase
  deriving DecidableEq, Repr

/-- A busy operation with its arguments (R169). A COMMIT REPORT that has committed names the slot whose
image it programs (R131, R149). -/
inductive BusyCmd where
  | stageChannel (index : Nat) (entry : ChannelEntry)
  | stageStack (index : Nat) (entry : StackEntry)
  | stageDevice (settings : DeviceSettings)
  | withdrawStage
  | approve
  | rejectStage
  | applyAnnotation (op : AnnOp)
  | commitCollection (ring : RingName) (sequence : Nat)
  | commitReport (year : Nat) (slot : Option Nat)
  | closeDays (day : Nat) (taken : Bool)
  | inService
  | withdraw
  | eraseArchive
  deriving DecidableEq, Repr

/-- The operation in flight of a link, and whether its write claim waits at the arbiter. -/
structure LinkOp where
  cmd     : BusyCmd
  waiting : Bool
  deriving DecidableEq, Repr

/-- Outcomes of a busy operation (R172). -/
inductive OpOutcome where
  | inFlight | done | partly | refused | restart
  deriving DecidableEq, Repr

/-- Reasons of a refused operation (R172). -/
inductive Reason where
  | sequence | argument | storeFault | inputConflict | stackNotInUse | referenceMissing
  deriving DecidableEq, Repr

/-- A last-operation result (R172). -/
structure OpResult where
  command : Option BusyName
  outcome : OpOutcome
  reason  : Option Reason
  index   : Option Nat
  counts  : List Nat
  deriving DecidableEq, Repr

/-- An open readout (R174): ring, next position, walked count, count, filter, forming block (each
record as it is delivered), whether its read claim waits at the arbiter, whether its walk has ended, and whether STOP has
been taken while a block was being sent (R173). -/
structure Readout where
  ring     : RingName
  next     : Nat
  walked   : Nat
  count    : Nat
  match3   : BitVec 24
  mask3    : BitVec 24
  forming  : List (List Byte)
  waiting  : Bool
  ended    : Bool
  stopping : Bool
  deriving DecidableEq, Repr

/-- What a port has to send, in order (R166, R168): a reply byte, the data block of a reply, a block of
a stream (each as its data bytes), or a token. Fill is what a port sends in between. -/
inductive TxItem where
  | reply (bits : Byte)
  | replyBlock (data : List Byte)
  | streamBlock (data : List Byte)
  | dataFault (reason : Byte)
  | endOfStream
  deriving DecidableEq, Repr

/-- A link port (R163). `selected` is the level of its select signal. `leaving` is what an erase has left
to be sent: it goes out before anything else (R156, R174; log entry 14). -/
structure LinkPort where
  selected : Bool
  recv     : Receiver
  frame    : Option (List Byte)
  op       : Option LinkOp
  last     : Option OpResult
  readout  : Option Readout
  tx       : List TxItem
  leaving  : List TxItem
  deriving DecidableEq, Repr

/-- A link port as the part leaves the factory (R163). -/
def LinkPort.initial : LinkPort :=
  { selected := false, recv := .idle, frame := none, op := none, last := none, readout := none,
    tx := [], leaving := [] }

/-- The annotation mark state (R115). -/
inductive Marks where
  | none
  | startMarked (stack : Nat) (channel : Option Nat) (start : Nat)
  | bothMarked (stack : Nat) (channel : Option Nat) (start last : Nat)
  deriving DecidableEq, Repr

/-- The three ports, and the annotation marks of the operator link. -/
structure Links where
  plant      : LinkPort
  operator   : LinkPort
  inspection : LinkPort
  marks      : Marks
  deriving DecidableEq, Repr

/-! ### Attention unit (R179, R180) -/

/-- One link's attention state. -/
structure Attention where
  pending : FlagSet
  seen    : FlagSet
  mask    : FlagSet
  deriving DecidableEq, Repr

/-- Every flag enabled, none pending (R162). -/
def Attention.initial : Attention := { pending := 0, seen := 0, mask := 0x3FFF }

/-- The attention unit; `held` are the flags raised while the part is STARTING (R179). -/
structure AttentionUnit where
  plant      : Attention
  operator   : Attention
  inspection : Attention
  held       : FlagSet
  deriving DecidableEq, Repr

/-! ### Supply monitor (R151 to R162) -/

/-- Whether the part runs, writes a snapshot, is in the halt, or is STARTING. -/
inductive Power where
  | running | snapshotting | halt | starting
  deriving DecidableEq, Repr

/-- The supply monitor: the power phase, the device mode, the mode beneath SUSPENDED, whether PFAIL and
RSTn are active, whether the backup domain reports a loss (R37), the snapshot being written, whether the recovery under
way was resumed from SUSPENDED (R162), and the second whose boundaries recovery has already run (R160). -/
structure Supply where
  power       : Power
  mode        : Mode
  beneath     : Mode
  pfail       : Bool
  rstn        : Bool
  backupLost  : Bool
  taking      : Option Snapshot
  resumed     : Bool
  recoveredTo : Option Nat
  deriving DecidableEq, Repr

/-! ### The whole -/

/-- The state of the part, the queue of commands that wait (`pending`), and the model's own count of
free values drawn (`freeDraws`). `pins` are the levels of the stack signal pins at the last sampling point (R49). -/
structure State where
  time       : TimeBase
  scan       : ScanUnit
  sec        : SecondWork
  stackUnits : List StackUnit
  pins       : List Signals
  norm       : Normaliser
  recorder   : Recorder
  config     : ConfigUnit
  store      : Store
  arbiter    : Arbiter
  links      : Links
  attention  : AttentionUnit
  supply     : Supply
  freeDraws  : Nat
  pending    : List Instr
  deriving DecidableEq, Repr

/-- Faults: none. The spec gives every command and event of the table an effect in every state (often
that nothing changes), and names no condition that stops the part for good, so no step of the model ends in a fault. -/
inductive Fault where
  deriving DecidableEq, Repr

/-- Refusals. -/
inductive Refusal where
  /-- Raised by an arm of `exec` whose command has no meaning yet: safe. No arm is left so. -/
  | notModelled (mnemonic : String)
  deriving DecidableEq, Repr

/-- The part as it leaves the factory, in the halt that precedes its first recovery (R158): every value
is that of the "leaving the factory" columns of R28, R37, R48, R77, R79, R103, R115, R126, R133, R144 and R163. -/
def State.reset : State :=
  { time := { counter := 0, phase := 0, clockValid := false, setMark := false,
              reference := .noReference, missed := 0, badPulses := 0, pendingSlew := 0,
              slewStep := 0, pulseEdge := none }
    scan := .cleared .acquiring
    sec := { processed := false, mode := .commissioning, cfg := .factory, lockHeld := false,
             nextSlot := 0, slotFloor := 0, sampleFormed := false, sampled := false, held := none,
             checkWaits := none, sampleWaits := none, before := .nothing }
    stackUnits := List.replicate 4 (.initial 2000)
    pins := List.replicate 4 .allOff
    norm := { samples := [], stackSets := [], liveChannels := List.replicate 32 none,
              liveStacks := List.replicate 4 none }
    recorder := { handed := [], accSets := [], running := List.replicate 32 none, queue := [],
                  notStored := 0, steps := 0, restarts := 0, overwritten := 0, table := [],
                  tally := List.replicate 2 (.blank .unused none), work := [], withdrawal := none }
    config := { active := .factory, stage := .emptied, transferPending := false,
                changeOver := none }
    store := { fault := false, interval := .empty, day := .empty, event := .empty,
               intervalSpare := [], tally := List.replicate 2 (.blank .unused none),
               tallySpare := List.replicate 2 (.blank .unused none), area := .factory,
               areaSpare := .factory, mark := false, snapshot := none, closedThrough := none }
    arbiter := { grant := none, rotation := .inspection, recClaims := [] }
    links := { plant := .initial, operator := .initial, inspection := .initial, marks := .none }
    attention := { plant := .initial, operator := .initial, inspection := .initial, held := 0 }
    supply := { power := .halt, mode := .commissioning, beneath := .commissioning, pfail := false,
                rstn := false, backupLost := false, taking := none, resumed := false,
                recoveredTo := none }
    freeDraws := 0
    pending := [] }

end Sys2Proof.Machine
end

