-- ==== Sys2Proof/Decode.lean ====
section
/-! DEFINITION. The bytes of the links: byte order (R181), the check word (R167), the codes of R181, command
frames (R183), the argument bytes of the staged entries, read and written (R183, R186), and the host's
reading of a table word. -/

namespace Sys2Proof

open Sys2Proof.Machine

/-- The command a table word spells. No row of spec/opcode_table.json gives bits, so no word spells
one: the link's own decoder is `decodeFrame`. -/
def decodeTableWord (_nbits _w : Nat) : Option Instr := none

/-! ### Bytes, high byte first (R181) -/

/-- One byte. -/
def byte1 (n : Nat) : List Byte := [BitVec.ofNat 8 n]

/-- Two bytes, high byte first. -/
def bytes2 (n : Nat) : List Byte := [BitVec.ofNat 8 (n / 256), BitVec.ofNat 8 n]

/-- Four bytes, high byte first. -/
def bytes4 (n : Nat) : List Byte := bytes2 (n / 65536) ++ bytes2 n

/-- Eight bytes, high byte first. -/
def bytes8 (n : Nat) : List Byte := bytes4 (n / 4294967296) ++ bytes4 n

/-- A signed field of four bytes, in two's complement. -/
def bytesSigned4 (z : Int) : List Byte := bytes4 (BitVec.ofInt 32 z).toNat

/-- A signed field of two bytes, in two's complement. -/
def bytesSigned2 (z : Int) : List Byte := bytes2 (BitVec.ofInt 16 z).toNat

/-- A four-byte value field that may be absent. -/
def bytesOpt4 : Option Nat → List Byte
  | none => bytes4 0xFFFFFFFF
  | some n => bytes4 n

/-- A one-byte field that may be absent. -/
def byteOpt : Option Nat → List Byte
  | none => byte1 0xFF
  | some n => byte1 n

/-- A yes/no field. -/
def byteBool (b : Bool) : List Byte := byte1 (if b then 1 else 0)

/-- The byte at an offset. -/
def u8 (bs : List Byte) (i : Nat) : Nat := (bs.getD i 0).toNat

/-- The two-byte field at an offset. -/
def u16 (bs : List Byte) (i : Nat) : Nat := u8 bs i * 256 + u8 bs (i + 1)

/-- The four-byte field at an offset. -/
def u32 (bs : List Byte) (i : Nat) : Nat := u16 bs i * 65536 + u16 bs (i + 2)

/-- The signed four-byte field at an offset. -/
def s32 (bs : List Byte) (i : Nat) : Int := (BitVec.ofNat 32 (u32 bs i)).toInt

/-! ### The check word (R167) -/

/-- One bit of the division by x^16 + x^12 + x^5 + 1. -/
def crcBit (c : BitVec 16) : BitVec 16 := if c.msb then (c <<< 1) ^^^ 0x1021#16 else c <<< 1

/-- One byte, most significant bit first. -/
def crcByte (c : BitVec 16) (b : Byte) : BitVec 16 :=
  Nat.repeat crcBit 8 (c ^^^ (b.setWidth 16 <<< 8))

/-- The check word: the remainder starts at 0xFFFF, and there is no final inversion. -/
def checkWord (bs : List Byte) : BitVec 16 := bs.foldl crcByte 0xFFFF#16

/-- The bytes of a data block (R168, R183). -/
def blockBytes (data : List Byte) : List Byte :=
  [0xE7#8] ++ bytes2 data.length ++ data ++ bytes2 (checkWord (bytes2 data.length ++ data)).toNat

/-! ### Codes (R181, R183) -/

/-- The code of a command (R183). -/
def commandCode : Command → Nat
  | .linkStatus => 0x01
  | .readTime => 0x02
  | .readLive => 0x03
  | .readEvents => 0x04
  | .acknowledgeEvents => 0x05
  | .setEventMask => 0x06
  | .submitValue => 0x10
  | .setStackSignals => 0x11
  | .readConfig => 0x20
  | .readTally => 0x21
  | .openReadout => 0x22
  | .stop => 0x23
  | .setTime => 0x24
  | .stageChannel => 0x30
  | .stageStack => 0x31
  | .stageDevice => 0x32
  | .withdrawStage => 0x33
  | .approve => 0x34
  | .rejectStage => 0x35
  | .markStart => 0x40
  | .markEnd => 0x41
  | .applyAnnotation => 0x42
  | .commitCollection => 0x50
  | .commitReport => 0x51
  | .closeDays => 0x52
  | .inService => 0x60
  | .withdraw => 0x61
  | .eraseArchive => 0x62
  | .restart => 0x63

/-- The commands of the part (R183). -/
def allCommands : List Command :=
  [.linkStatus, .readTime, .readLive, .readEvents, .acknowledgeEvents, .setEventMask, .submitValue,
   .setStackSignals, .readConfig, .readTally, .openReadout, .stop, .setTime, .stageChannel,
   .stageStack, .stageDevice, .withdrawStage, .approve, .rejectStage, .markStart, .markEnd,
   .applyAnnotation, .commitCollection, .commitReport, .closeDays, .inService, .withdraw,
   .eraseArchive, .restart]

/-- The command of a code, absent for a code that is no command of the part (R183). -/
def commandOfCode (code : Byte) : Option Command :=
  allCommands.find? fun c => commandCode c == code.toNat

/-- The argument length a command takes (R183). -/
def argumentLength : Command → Nat
  | .readLive => 4
  | .acknowledgeEvents => 2
  | .setEventMask => 2
  | .submitValue => 6
  | .setStackSignals => 4
  | .readConfig => 1
  | .readTally => 3
  | .openReadout => 13
  | .setTime => 6
  | .stageChannel => 37
  | .stageStack => 19
  | .stageDevice => 4
  | .markStart => 6
  | .markEnd => 4
  | .applyAnnotation => 2
  | .commitCollection => 5
  | .commitReport => 2
  | .closeDays => 4
  | .linkStatus => 0
  | .readTime => 0
  | .readEvents => 0
  | .stop => 0
  | .withdrawStage => 0
  | .approve => 0
  | .rejectStage => 0
  | .inService => 0
  | .withdraw => 0
  | .eraseArchive => 0
  | .restart => 0

/-- The kinds in the order of their codes (R181). -/
def allKinds : List Kind :=
  [.dust, .hcl, .so2, .nox, .co, .toc, .hf, .hg, .nh3, .o2, .h2o, .flow, .temp]

/-- The code of a kind. -/
def kindCode (k : Kind) : Nat := allKinds.idxOf k

/-- The kind of a code. -/
def kindOfCode (n : Nat) : Option Kind := allKinds[n]?

/-- A yes/no code, a signal level or a submitted status: 0 or 1 (R181). -/
def boolOfCode : Nat → Option Bool
  | 0 => some false
  | 1 => some true
  | _ => none

/-- A ring code (R181). -/
def ringOfCode : Nat → Option RingName
  | 0 => some .interval
  | 1 => some .day
  | 2 => some .event
  | _ => none

/-- The code of a link class (R181). -/
def classCode : Link → Nat
  | .plant => 1
  | .operator => 2
  | .inspection => 3

/-- The code of a device mode (R181). -/
def modeCode : Mode → Nat
  | .commissioning => 0
  | .enteringService => 1
  | .recording => 2
  | .suspended => 3
  | .withdrawn => 4

/-- The code of a stage state (R181). -/
def stageCode : StageState → Nat
  | .empty => 0
  | .opened => 1
  | .approved => 2

/-- The annotation kind of an argument byte of APPLY ANNOTATION (R181). -/
def annKindOfCode : Nat → Option AnnKind
  | 1 => some .invalidate
  | 2 => some .startupShutdown
  | 3 => some .abnormal
  | 4 => some .restore
  | 5 => some .remark
  | _ => none

/-- The code of an annotation kind (R181). -/
def annKindCode : AnnKind → Nat
  | .invalidate => 1
  | .startupShutdown => 2
  | .abnormal => 3
  | .restore => 4
  | .remark => 5

/-- A field in which 0 means absent (R181). -/
def zeroAbsent (n : Nat) : Option Nat := if n = 0 then none else some n

/-- The code of such a field. -/
def zeroCode (v : Option Nat) : Nat := v.getD 0

/-- A one-byte field in which 0xFF means none and any other code up to `limit` is present (R181). -/
def noneByte (limit n : Nat) : Option (Option Nat) :=
  if n = 0xFF then some none else if n ≤ limit then some (some n) else none

/-! ### Staged entries (R183) -/

/-- The source of codes and of the input-or-constant field; absent where the codes of R181 or the LINK row of
R7 do not allow it. -/
def sourceOfCode (bs : List Byte) : Option Source :=
  match u8 bs 4 with
  | 0 => some (.analog (u32 bs 5))
  | 1 => if u32 bs 5 = 0 then some .link else none
  | 2 => some (.constant (s32 bs 5))
  | _ => none

/-- The argument bytes of STAGE CHANNEL, decoded; absent where a code lies outside its table (R181). -/
def decodeChannelEntry (bs : List Byte) : Option (Nat × ChannelEntry) := do
  let inUse ← boolOfCode (u8 bs 1)
  let kind ← kindOfCode (u8 bs 3)
  let source ← sourceOfCode bs
  let wet ← boolOfCode (u8 bs 23)
  let maint ← noneByte 15 (u8 bs 35)
  let fault ← noneByte 15 (u8 bs 36)
  some (u8 bs 0,
    { inUse := inUse, stack := u8 bs 2, kind := kind, source := source,
      range := zeroAbsent (u32 bs 9), offset := s32 bs 13, slope := u16 bs 17,
      ceiling := u32 bs 19, wet := wet, o2Ref := zeroAbsent (u16 bs 24), ciPercent := u8 bs 26,
      intervalLimit := zeroAbsent (u32 bs 27), dayLimit := zeroAbsent (u32 bs 31),
      maintLine := maint, faultLine := fault })

/-- The source code and the input-or-constant field. -/
def encodeSource : Source → List Byte
  | .analog i => byte1 0 ++ bytes4 i
  | .link => byte1 1 ++ bytes4 0
  | .constant v => byte1 2 ++ bytesSigned4 v

/-- A channel entry laid out as the 37 argument bytes of STAGE CHANNEL (R183, R186). -/
def encodeChannelEntry (index : Nat) (e : ChannelEntry) : List Byte :=
  byte1 index ++ byteBool e.inUse ++ byte1 e.stack ++ byte1 (kindCode e.kind)
    ++ encodeSource e.source ++ bytes4 (zeroCode e.range) ++ bytesSigned4 e.offset
    ++ bytes2 e.slope ++ bytes4 e.ceiling ++ byteBool e.wet ++ bytes2 (zeroCode e.o2Ref)
    ++ byte1 e.ciPercent ++ bytes4 (zeroCode e.intervalLimit) ++ bytes4 (zeroCode e.dayLimit)
    ++ byteOpt e.maintLine ++ byteOpt e.faultLine

/-- A signal source code (R183). -/
def signalSourceOfCode : Nat → Option SignalSource
  | 0 => some .lines
  | 1 => some .link
  | _ => none

/-- The code of a signal source. -/
def signalSourceCode : SignalSource → Nat
  | .lines => 0
  | .link => 1

/-- The argument bytes of STAGE STACK, decoded; absent where a code lies outside its table, or a
reference channel index is above 31 (R7, R181). -/
def decodeStackEntry (bs : List Byte) : Option (Nat × StackEntry) := do
  let inUse ← boolOfCode (u8 bs 1)
  let source ← signalSourceOfCode (u8 bs 2)
  let o2 ← noneByte 31 (u8 bs 6)
  let h2o ← noneByte 31 (u8 bs 7)
  let flow ← noneByte 31 (u8 bs 8)
  some (u8 bs 0,
    { inUse := inUse, source := source, debounce := u8 bs 3, runOut := u16 bs 4, o2Chan := o2,
      h2oChan := h2o, flowChan := flow, o2Cap := u16 bs 9, runLimit := u32 bs 11,
      yearLimit := u32 bs 15 })

/-- A stack entry laid out as the 19 argument bytes of STAGE STACK (R183, R186). -/
def encodeStackEntry (index : Nat) (e : StackEntry) : List Byte :=
  byte1 index ++ byteBool e.inUse ++ byte1 (signalSourceCode e.source) ++ byte1 e.debounce
    ++ bytes2 e.runOut ++ byteOpt e.o2Chan ++ byteOpt e.h2oChan ++ byteOpt e.flowChan
    ++ bytes2 e.o2Cap ++ bytes4 e.runLimit ++ bytes4 e.yearLimit

/-- A mains rejection code (R181). -/
def mainsOfCode : Nat → Option Mains
  | 50 => some .hz50
  | 60 => some .hz60
  | _ => none

/-- The code of a mains rejection. -/
def mainsCode : Mains → Nat
  | .hz50 => 50
  | .hz60 => 60

/-- An arbiter mode code (R181). -/
def arbiterModeOfCode : Nat → Option ArbiterMode
  | 0 => some .rotate
  | 1 => some .operatorLast
  | 2 => some .inspectionLast
  | _ => none

/-- The code of an arbiter mode. -/
def arbiterModeCode : ArbiterMode → Nat
  | .rotate => 0
  | .operatorLast => 1
  | .inspectionLast => 2

/-- The argument bytes of STAGE DEVICE, decoded; absent where a code lies outside its table. -/
def decodeDevice (bs : List Byte) : Option DeviceSettings := do
  let mains ← mainsOfCode (u8 bs 0)
  let mode ← arbiterModeOfCode (u8 bs 3)
  some { mains := mains, window := u8 bs 1, dayInvalidMax := u8 bs 2, arbiterMode := mode }

/-- The device settings laid out as the 4 argument bytes of STAGE DEVICE (R183, R186). -/
def encodeDevice (d : DeviceSettings) : List Byte :=
  byte1 (mainsCode d.mains) ++ byte1 d.window ++ byte1 d.dayInvalidMax
    ++ byte1 (arbiterModeCode d.arbiterMode)

/-! ### Frames (R167, R183) -/

/-- The command of a name, with its link, its argument bytes, the millisecond at which it is taken, and
how the store attempts that a RESTART must wait for turn out. -/
def instrOf (link : Link) (args : List Byte) (phase : Nat) (attempts : List Attempt) :
    Command → Instr
  | .linkStatus => .linkStatus link args
  | .readTime => .readTime link args phase
  | .readLive => .readLive link args
  | .readEvents => .readEvents link args
  | .acknowledgeEvents => .acknowledgeEvents link args
  | .setEventMask => .setEventMask link args
  | .submitValue => .submitValue link args
  | .setStackSignals => .setStackSignals link args
  | .readConfig => .readConfig link args
  | .readTally => .readTally link args
  | .openReadout => .openReadout link args
  | .stop => .stop link args
  | .setTime => .setTime link args phase
  | .stageChannel => .stageChannel link args
  | .stageStack => .stageStack link args
  | .stageDevice => .stageDevice link args
  | .withdrawStage => .withdrawStage link args
  | .approve => .approve link args
  | .rejectStage => .rejectStage link args
  | .markStart => .markStart link args
  | .markEnd => .markEnd link args
  | .applyAnnotation => .applyAnnotation link args
  | .commitCollection => .commitCollection link args
  | .commitReport => .commitReport link args
  | .closeDays => .closeDays link args
  | .inService => .inService link args
  | .withdraw => .withdraw link args
  | .eraseArchive => .eraseArchive link args
  | .restart => .restart link args attempts

/-- The lead byte of a frame (R167, R183). -/
def leadByte : Byte := 0xC3

/-- Reads a frame from the bytes that follow its lead byte: the command, or the frame failure, and
absent while the frame is not complete (R167). -/
def decodeBody (link : Link) (phase : Nat) (attempts : List Attempt) :
    List Byte → Option Instr
  | code :: len :: rest =>
    if 40 < len.toNat then some (.failedFrame link .check)
    else if rest.length < len.toNat + 2 then none
    else
      let args := rest.take len.toNat
      if u16 rest len.toNat = (checkWord (code :: len :: args)).toNat then
        match commandOfCode code with
        | none => some (.failedFrame link (.unknownCode code))
        | some c => some (instrOf link args phase attempts c)
      else some (.failedFrame link .check)
  | _ => none

/-- Reads the first frame among bytes received in IDLE or BUSY: every byte before a lead byte is ignored
(R167). -/
def decodeFrame (link : Link) (phase : Nat) (attempts : List Attempt) : List Byte → Option Instr
  | [] => none
  | b :: rest =>
    if b = leadByte then decodeBody link phase attempts rest
    else decodeFrame link phase attempts rest

/-- A command frame as a master sends it (R183). -/
def encodeFrame (c : Command) (args : List Byte) : List Byte :=
  let body := byte1 (commandCode c) ++ byte1 args.length ++ args
  leadByte :: (body ++ bytes2 (checkWord body).toNat)

end Sys2Proof
end

