-- ==== Sys2Proof/Machine/Flags.lean ====
section
/-! DEFINITION. The attention flags (R178, R181), raising them (R179), and the ATN outputs. -/

namespace Sys2Proof.Machine

/-- OPERATION_DONE. -/
def flagOperationDone : FlagSet := 0x0001
/-- INTERVAL_CLOSED. -/
def flagIntervalClosed : FlagSet := 0x0002
/-- EXCEEDANCE. -/
def flagExceedance : FlagSet := 0x0004
/-- DAY_CLOSED. -/
def flagDayClosed : FlagSet := 0x0008
/-- STAGE_CHANGED. -/
def flagStageChanged : FlagSet := 0x0010
/-- ABNORMAL_LIMIT. -/
def flagAbnormalLimit : FlagSet := 0x0020
/-- SIGNALS_STALE. -/
def flagSignalsStale : FlagSet := 0x0040
/-- ACQUISITION. -/
def flagAcquisition : FlagSet := 0x0080
/-- TIME. -/
def flagTime : FlagSet := 0x0100
/-- RESTARTED. -/
def flagRestarted : FlagSet := 0x0200
/-- STORE. -/
def flagStore : FlagSet := 0x0400
/-- COLLECTION_DUE. -/
def flagCollectionDue : FlagSet := 0x0800
/-- ANNOTATION. -/
def flagAnnotation : FlagSet := 0x1000
/-- YEAR. -/
def flagYear : FlagSet := 0x2000

/-- The fourteen flags; bits 14 and 15 are unused (R181). -/
def allFlags : FlagSet := 0x3FFF

/-- Raising flags on one link (R179): each becomes pending and loses its seen mark. -/
def Attention.raise (flags : FlagSet) (a : Attention) : Attention :=
  { a with pending := a.pending ||| flags, seen := a.seen &&& ~~~flags }

/-- One link's attention state. -/
def AttentionUnit.get (u : AttentionUnit) : Link → Attention
  | .plant => u.plant
  | .operator => u.operator
  | .inspection => u.inspection

/-- Replaces one link's attention state. -/
def AttentionUnit.set (u : AttentionUnit) (l : Link) (a : Attention) : AttentionUnit :=
  match l with
  | .plant => { u with plant := a }
  | .operator => { u with operator := a }
  | .inspection => { u with inspection := a }

/-- Raising flags on all three links, as sets (R179). -/
def AttentionUnit.raiseAll (flags : FlagSet) (u : AttentionUnit) : AttentionUnit :=
  { u with
    plant := u.plant.raise flags
    operator := u.operator.raise flags
    inspection := u.inspection.raise flags }

/-- Raises a flag on the link that owns it: OPERATION_DONE (R169, R179). -/
def State.raiseOn (l : Link) (flags : FlagSet) (s : State) : State :=
  { s with attention := s.attention.set l ((s.attention.get l).raise flags) }

/-- Raises a flag on all three links. While the part is STARTING it is held instead, and made pending
when recovery ends (R162, R179). -/
def State.raiseAll (flags : FlagSet) (s : State) : State :=
  if s.supply.power = .starting then
    { s with attention := { s.attention with held := s.attention.held ||| flags } }
  else { s with attention := s.attention.raiseAll flags }

/-- Whether a link's ATN output is asserted: exactly when a pending flag is enabled (R179). -/
def Attention.asserted (a : Attention) : Bool := a.pending &&& a.mask != 0

/-- The level of the ATN output of a link. It is not asserted in the halt (R158). -/
def State.atn (s : State) (l : Link) : Bool :=
  match s.supply.power with
  | .halt => false
  | .snapshotting => false
  | .starting => (s.attention.get l).asserted
  | .running => (s.attention.get l).asserted

end Sys2Proof.Machine
end

