-- ==== Sys2Proof/Machine/Ops.lean ====
section
/-! DEFINITION. The operations that commands share: ports and operations in flight (R163, R169), the write queue
(R98, R99), event records (R184), positions of the rings (R132, R143), the configuration area (R148),
the store's FAULT (R139) and the arbiter (R144, R145). -/

namespace Sys2Proof.Machine

/-! ### Phases of the part -/

/-- Whether the part runs: outside the halt, the writing of a snapshot, and STARTING. -/
def State.running (s : State) : Bool := s.supply.power == .running

/-- Whether the modes hand seconds to the blocks (R34, R46). -/
def Mode.processes : Mode → Bool
  | .commissioning => true
  | .enteringService => true
  | .recording => true
  | .withdrawn => true
  | .suspended => false

/-- Whether the reference discipline runs: VDD is present, outside the halt and STARTING (R39). -/
def State.disciplined (s : State) : Bool :=
  match s.supply.power with
  | .running => true
  | .snapshotting => true
  | .halt => false
  | .starting => false

/-- Whether the part runs in a mode that processes seconds. -/
def State.processing (s : State) : Bool := s.running && s.supply.mode.processes

/-- The configuration in force for the second in progress: the active tables, or in COMMISSIONING the
outgoing ones until the second boundary that follows a transfer (R13, R14). -/
def State.inForce (s : State) : Tables := s.config.changeOver.getD s.config.active

/-! ### What the work on the second in progress found (R43, R59) -/

/-- The second in progress remembers what a block found. -/
def State.remember (b : SecondBefore) (s : State) : State := { s with sec := { s.sec with before := b } }

/-- What a self-check finds. -/
def State.scanFound (s : State) : ScanBefore :=
  { faultyA := s.scan.faultyA, faultyB := s.scan.faultyB, broken := s.scan.broken,
    linkStale := s.scan.linkStale }

/-- What the self-check finds is remembered. -/
def State.rememberScan (s : State) : State := s.remember { s.sec.before with scan := some s.scanFound }

/-- What the sampling point finds is remembered. -/
def State.rememberStacks (s : State) : State :=
  s.remember { s.sec.before with units := some s.stackUnits }

/-- What a normalising finds. -/
def State.liveFound (s : State) : LiveBefore :=
  { channels := s.norm.liveChannels, marks := s.norm.liveStacks, running := s.recorder.running }

/-- Whether the second in progress has handed its sample set to the normaliser. -/
def State.sampleHanded (s : State) : Bool := s.sec.sampleFormed && s.sec.checkWaits.isNone

/-- Whether the second in progress has handed its stack state set to the normaliser. -/
def State.marksHanded (s : State) : Bool := s.sec.sampled && s.sec.sampleWaits.isNone

/-- Whether the sets of the second in progress are the next that the normaliser takes. Sets are taken in the
order they are handed (R34, R63), so they are when both are handed and no others wait. -/
def State.presentIsNext (s : State) : Bool :=
  s.sampleHanded && s.marksHanded && decide (s.norm.samples.length = 1)

/-- What the normalising of the second in progress finds is remembered. -/
def State.rememberLive (s : State) : State :=
  s.remember (if s.presentIsNext then { s.sec.before with live := some s.liveFound }
    else s.sec.before)

/-- The accumulator set that the second in progress is about to join is remembered. -/
def State.rememberSums (second start : Nat) (s : State) : State :=
  s.remember (if second = s.time.counter then
      { s.sec.before with sums := s.recorder.accSets.find? fun a => decide (a.start = start) }
    else s.sec.before)

/-- Draws a free value: the present count, and the state with the count advanced. -/
def State.draw (s : State) : Nat × State := (s.freeDraws, { s with freeDraws := s.freeDraws + 1 })

/-! ### Link ports -/

/-- One link's port. -/
def Links.get (u : Links) : Link → LinkPort
  | .plant => u.plant
  | .operator => u.operator
  | .inspection => u.inspection

/-- Replaces one link's port. -/
def Links.set (u : Links) (l : Link) (p : LinkPort) : Links :=
  match l with
  | .plant => { u with plant := p }
  | .operator => { u with operator := p }
  | .inspection => { u with inspection := p }

/-- One link's port. -/
def State.port (s : State) (l : Link) : LinkPort := s.links.get l

/-- Changes one link's port. -/
def State.modPort (l : Link) (f : LinkPort → LinkPort) (s : State) : State :=
  { s with links := s.links.set l (f (s.links.get l)) }

/-- The name of a busy operation (R169). -/
def BusyCmd.name : BusyCmd → BusyName
  | .stageChannel _ _ => .stageChannel
  | .stageStack _ _ => .stageStack
  | .stageDevice _ => .stageDevice
  | .withdrawStage => .withdrawStage
  | .approve => .approve
  | .rejectStage => .rejectStage
  | .applyAnnotation _ => .applyAnnotation
  | .commitCollection _ _ => .commitCollection
  | .commitReport _ _ => .commitReport
  | .closeDays _ _ => .closeDays
  | .inService => .inService
  | .withdraw => .withdraw
  | .eraseArchive => .eraseArchive

/-- The counts of an annotation in the order of R172. -/
def AnnCounts.list (c : AnnCounts) : List Nat :=
  [c.applied, c.refusedClosed, c.refusedKind, c.absent]

/-- The counts a command's result carries at any end: those of APPLY ANNOTATION (R124, R172). -/
def BusyCmd.counts : BusyCmd → List Nat
  | .applyAnnotation op => op.counts.list
  | _ => []

/-- The command of a link's operation in flight. -/
def State.opCmd (s : State) (l : Link) : Option BusyCmd := (s.port l).op.map LinkOp.cmd

/-- A busy operation is accepted: it becomes the operation in flight and the last-operation result
becomes IN_FLIGHT (R169, R172). -/
def State.beginOp (l : Link) (cmd : BusyCmd) (s : State) : State :=
  s.modPort l fun p =>
    { p with
      op := some { cmd := cmd, waiting := false }
      last := some { command := some cmd.name, outcome := .inFlight, reason := none, index := none,
                     counts := [] } }

/-- The end of a busy operation (R169): the result takes the outcome, no operation is in flight,
OPERATION_DONE is raised on this link, and a receiver in BUSY enters IDLE. -/
def State.endOp (l : Link) (outcome : OpOutcome) (reason : Option Reason) (index : Option Nat)
    (counts : List Nat) (s : State) : State :=
  match (s.port l).op with
  | none => s
  | some o =>
    (s.modPort l fun p =>
      { p with
        op := none
        last := some { command := some o.cmd.name, outcome := outcome, reason := reason,
                       index := index, counts := counts }
        recv := if p.recv = .busy then .idle else p.recv }).raiseOn l flagOperationDone

/-- The end REFUSED with a reason. -/
def State.refuseOp (l : Link) (reason : Reason) (s : State) : State :=
  s.endOp l .refused (some reason) none []

/-- Sets whether the write claim of a link's operation waits at the arbiter. -/
def State.setWaiting (l : Link) (w : Bool) (s : State) : State :=
  s.modPort l fun p => { p with op := p.op.map fun o => { o with waiting := w } }

/-- Replaces the command of a link's operation in flight. -/
def State.setOpCmd (l : Link) (cmd : BusyCmd) (s : State) : State :=
  s.modPort l fun p => { p with op := p.op.map fun o => { o with cmd := cmd } }

/-- An operation that needs a write reaches the arbiter: it waits there, or in FAULT it ends REFUSED
with STORE_FAULT at that moment (R140). -/
def State.claimWrite (l : Link) (s : State) : State :=
  if s.store.fault then s.refuseOp l .storeFault else s.setWaiting l true

/-- The annotation in flight on the operator link. -/
def State.annotation (s : State) : Option AnnOp :=
  match s.opCmd .operator with
  | some (.applyAnnotation op) => some op
  | _ => none

/-- Replaces the annotation in flight. -/
def State.setAnnotation (op : AnnOp) (s : State) : State :=
  s.setOpCmd .operator (.applyAnnotation op)

/-! ### The write queue and event records -/

/-- The write queue's capacity (R98). -/
def queueCapacity : Nat := 96

/-- Whether a record offered now joins the queue (R98). -/
def State.queueOpen (s : State) : Bool := s.recorder.queue.length < queueCapacity

/-- A record is offered to the write queue: it joins its end, or, when the queue holds 96, is not
stored, the pending not-stored count rises and STORE is raised (R98, R99). -/
def State.offer (item : QueueItem) (s : State) : State :=
  if s.queueOpen then
    { s with recorder := { s.recorder with queue := s.recorder.queue ++ [item] } }
  else
    ({ s with recorder := { s.recorder with notStored := saturate16 s.recorder.notStored 1 } }
      : State).raiseAll flagStore

/-- Writes an event record (R98, R184). A TIME_STEP and a RESTART record each raise their pending device
count (R128). -/
def State.writeEvent (e : EventRec) (s : State) : State :=
  let t := s.offer (.event e)
  match e.kind with
  | .timeStep => { t with recorder := { t.recorder with steps := saturate16 t.recorder.steps 1 } }
  | .restart =>
    { t with recorder := { t.recorder with restarts := saturate16 t.recorder.restarts 1 } }
  | _ => t

/-- An event record of the whole part, with no stack and no channel. -/
def EventRec.plain (time : Nat) (kind : EventKind) (argument : Nat) : EventRec :=
  { time := time, kind := kind, stack := none, channel := none,
    argument := BitVec.ofNat 32 argument }

/-- Writes an event record that names no stack and no channel. -/
def State.note (kind : EventKind) (time : Nat) (argument : Nat) (s : State) : State :=
  s.writeEvent (.plain time kind argument)

/-! ### Ring positions (R132, R134, R143) -/

/-- A ring's capacity (R132). -/
def RingName.capacity : RingName → Nat
  | .interval => 65536
  | .day => 16384
  | .event => 4096

/-- The position of a sequence number (R134). -/
def RingName.position (r : RingName) (sequence : Nat) : Nat := (sequence - 1) % r.capacity

/-- What a position holds. -/
def getCell {β : Type} (cells : List (Nat × β)) (p : Nat) : Option β :=
  match cells with
  | [] => none
  | (q, v) :: rest => if q = p then some v else getCell rest p

/-- Stores at a position. -/
def putCell {β : Type} (p : Nat) (v : β) : List (Nat × β) → List (Nat × β)
  | [] => [(p, v)]
  | (q, w) :: rest =>
    if p < q then (p, v) :: (q, w) :: rest
    else if p = q then (p, v) :: rest
    else (q, w) :: putCell p v rest

/-- Empties a position. -/
def dropCell {β : Type} (p : Nat) : List (Nat × β) → List (Nat × β)
  | [] => []
  | (q, w) :: rest => if q = p then rest else (q, w) :: dropCell p rest

/-- The canonical form of a ring's positions: strictly rising. -/
def cellsWf {β : Type} : List (Nat × β) → Bool
  | [] => true
  | [_] => true
  | (p, _) :: (q, w) :: rest => decide (p < q) && cellsWf ((q, w) :: rest)

/-- What a read of a sequence number returns (R143): the record numbered so, the number of another record
that holds the position, or nothing. -/
inductive ReadResult (α : Type) where
  | record (value : α)
  | other (sequence : Nat)
  | empty
  deriving DecidableEq, Repr

/-- The record that a read returned, where it is the one asked for. -/
def ReadResult.record? {α : Type} : ReadResult α → Option α
  | .record v => some v
  | .other _ => none
  | .empty => none

/-- A read whose record is looked at through a function. -/
def ReadResult.map {α β : Type} (f : α → β) : ReadResult α → ReadResult β
  | .record v => .record (f v)
  | .other q => .other q
  | .empty => .empty

/-- A read of a sequence number (R143). -/
def Ring.read {α : Type} (r : Ring α) (name : RingName) (sequence : Nat) : ReadResult α :=
  match getCell r.cells (name.position sequence) with
  | some (q, v) => if q = sequence then .record v else .other q
  | none => .empty

/-- The number of records that can still be written before an uncollected one is overwritten (R136). -/
def Pointers.headroom (p : Pointers) (name : RingName) : Nat :=
  name.capacity - (p.newest - p.collected)

/-- The headroom below which COLLECTION_DUE is raised (R136). -/
def headroomMark : Nat := 3072

/-- The pointers of a ring. -/
def Store.pointers (st : Store) : RingName → Pointers
  | .interval => st.interval.ptr
  | .day => st.day.ptr
  | .event => st.event.ptr

/-- Replaces the pointers of a ring. -/
def Store.setPointers (st : Store) (r : RingName) (p : Pointers) : Store :=
  match r with
  | .interval => { st with interval := { st.interval with ptr := p } }
  | .day => { st with day := { st.day with ptr := p } }
  | .event => { st with event := { st.event with ptr := p } }

/-! ### The configuration area (R148, R151) -/

/-- The live device mode, or in SUSPENDED the mode beneath it (R151). -/
def State.liveMode (s : State) : Mode :=
  if s.supply.mode = .suspended then s.supply.beneath else s.supply.mode

/-- The stored mode that the next configuration-area write carries: the change from ENTERING_SERVICE to
RECORDING reaches it with any write (R151). -/
def State.carriedMode (s : State) : Mode :=
  if s.liveMode = .recording ∧ s.store.area.mode = .enteringService then .recording
  else s.store.area.mode

/-- What a configuration-area write programs: the whole area as it stands, with the present pointers and
mode, and the change the write is made for (R148). -/
def State.areaImage (f : ConfigArea → ConfigArea) (s : State) : ConfigArea :=
  f { s.store.area with
    mode := s.carriedMode
    interval := s.store.interval.ptr
    day := s.store.day.ptr
    event := s.store.event.ptr }

/-- A configuration-area write begins: the other image is programmed (R148). -/
def State.programArea (f : ConfigArea → ConfigArea) (s : State) : State :=
  { s with store := { s.store with areaSpare := s.areaImage f } }

/-- A configuration-area write verifies: the image it programmed is current, and the former one is spare
(R148). -/
def State.swapArea (s : State) : State :=
  { s with store := { s.store with area := s.store.areaSpare, areaSpare := s.store.area } }

/-- Replaces the pointers of a ring in an image of the configuration area. -/
def ConfigArea.setPointers (r : RingName) (p : Pointers) (a : ConfigArea) : ConfigArea :=
  match r with
  | .interval => { a with interval := p }
  | .day => { a with day := p }
  | .event => { a with event := p }

/-! ### Tally images (R149) -/

/-- A tally image is replaced, and the former one is spare (R149). -/
def State.putImage (i : Nat) (t : TallySlot) (s : State) : State :=
  { s with store := { s.store with
      tally := s.store.tally.set i t
      tallySpare := s.store.tallySpare.set i (s.store.tally.getD i (.blank .unused none)) } }

/-- The spare image of a slot is programmed (R149). -/
def State.programImage (i : Nat) (t : TallySlot) (s : State) : State :=
  { s with store := { s.store with tallySpare := s.store.tallySpare.set i t } }

/-! ### The arbiter (R144, R145) -/

/-- The recorder's claim that is served first, in a READY store (R138, R142, R145). In SUSPENDED the
recorder makes no claim (R159). -/
def State.recorderClaim (s : State) : Option Claim :=
  if s.store.fault ∨ s.supply.mode = .suspended then none
  else
    match s.arbiter.recClaims with
    | .transfer :: _ => some .transfer
    | .protection :: _ => some .protection
    | [] => if s.recorder.queue = [] then none else some .queue

/-- The claim of a waiting operation: an annotation's read or rewrite, else the write of the operation. -/
def opClaim (l : Link) : BusyCmd → Claim
  | .applyAnnotation op =>
    match op.phase with
    | .waitRewrite _ _ _ => .annRewrite
    | _ => .annRead
  | _ => .op l

/-- A link's waiting claim: that of its operation, else that of its readout. -/
def LinkPort.claim (l : Link) (p : LinkPort) : Option Claim :=
  match p.op with
  | some o =>
    if o.waiting then some (opClaim l o.cmd)
    else p.readout.bind fun r => if r.waiting then some (.readout l) else none
  | none => p.readout.bind fun r => if r.waiting then some (.readout l) else none

/-- The link that the arbiter prefers when both links' claims wait, by the mode in force (R145, rows 3 to 5). -/
def State.preferredLink (s : State) : Link :=
  match s.inForce.device.arbiterMode with
  | .rotate => if s.arbiter.rotation = .operator then .inspection else .operator
  | .operatorLast => .inspection
  | .inspectionLast => .operator

/-- The claim the arbiter chooses among those waiting, with the link it belongs to (R145). -/
def State.chooseClaim (s : State) : Option (Claim × Option Link) :=
  match s.recorderClaim with
  | some c => some (c, none)
  | none =>
    match s.links.operator.claim .operator, s.links.inspection.claim .inspection with
    | none, none => none
    | some c, none => some (c, some .operator)
    | none, some c => some (c, some .inspection)
    | some c, some d =>
      if s.preferredLink = .operator then some (c, some .operator) else some (d, some .inspection)

/-- A claim leaves the waiting claims. -/
def State.takeClaim (c : Claim) (s : State) : State :=
  match c with
  | .queue => s
  | .transfer =>
    { s with arbiter := { s.arbiter with recClaims := s.arbiter.recClaims.erase .transfer } }
  | .protection =>
    { s with arbiter := { s.arbiter with recClaims := s.arbiter.recClaims.erase .protection } }
  | .op l => s.setWaiting l false
  | .annRead => s.setWaiting .operator false
  | .annRewrite => s.setWaiting .operator false
  | .readout l =>
    s.modPort l fun p => { p with readout := p.readout.map fun r => { r with waiting := false } }

/-- A grant is made (R145): the claim is served, and a grant to a link sets the rotation pointer. -/
def State.makeGrant (c : Claim) (owner : Option Link) (s : State) : State :=
  let t := s.takeClaim c
  { t with arbiter := { t.arbiter with
      grant := some { claim := c, begun := false, failedOnce := false, part := 0,
                      second := s.time.counter, stale := false }
      rotation := owner.getD t.arbiter.rotation } }

/-- An IDLE arbiter of a running part grants the claim it chooses (R145). Each step that may add a claim
or end a grant finishes with this. -/
def State.settle (s : State) : State :=
  if s.running = true ∧ s.arbiter.grant = none then
    match s.chooseClaim with
    | none => s
    | some (c, owner) => s.makeGrant c owner
  else s

/-- A grant ends. -/
def State.dropGrant (s : State) : State := { s with arbiter := { s.arbiter with grant := none } }

/-- The operation of a grant begins: the first attempt is being programmed (R139). -/
def State.startGrant (g : Grant) (s : State) : State :=
  { s with arbiter := { s.arbiter with
      grant := some { g with begun := true, second := s.time.counter } } }

/-- The grant, made and not yet begun, of a given claim, in a running part. -/
def State.grantOf (s : State) (c : Claim) : Option Grant :=
  if s.running then
    match s.arbiter.grant with
    | some g => if g.claim = c ∧ g.begun = false then some g else none
    | none => none
  else none

/-- The command of a link whose committed write is being programmed. -/
def State.committed (s : State) : Option BusyCmd :=
  match s.arbiter.grant with
  | none => none
  | some g =>
    match g.claim with
    | .op l => if g.begun then s.opCmd l else none
    | _ => none

/-- Whether requests that need RECORDING find it: not from the commit of WITHDRAW on (R154). -/
def State.recordingOpen (s : State) : Bool :=
  decide (s.supply.mode = .recording) && decide (s.committed ≠ some .withdraw)

/-- The readout's read claim waits again. -/
def LinkPort.reclaim (p : LinkPort) : LinkPort :=
  { p with readout := p.readout.map fun r => { r with waiting := true } }

/-- The grant in progress is given back and its claim, unless its claimant has given it up, waits again. -/
def State.returnGrant (s : State) : State :=
  match s.arbiter.grant with
  | none => s
  | some g =>
    match g.claim with
    | .op l => (s.setWaiting l true).dropGrant
    | .readout l => if g.stale then s.dropGrant else (s.modPort l LinkPort.reclaim).dropGrant
    | _ => s.dropGrant

/-! ### The end of an annotation (R124) -/

/-- An annotation ends: an ANNOTATION event record is written, ANNOTATION is raised on all three links,
and the operation ends with its counts (R124). -/
def State.endAnnotation (op : AnnOp) (outcome : OpOutcome) (reason : Option Reason) (s : State) :
    State :=
  ((s.writeEvent { time := s.time.counter, kind := .annotation, stack := some op.stack,
                   channel := op.channel, argument := BitVec.ofNat 32 op.counts.applied }).raiseAll
    flagAnnotation).endOp .operator outcome reason none op.counts.list

/-! ### Entering FAULT (R139, R140) -/

/-- The argument of a STORE_FAULT record: the area in the upper 8 bits, the place in the lower 24. -/
def faultArgument (area place : Nat) : Word := BitVec.ofNat 32 (area * 16777216 + place)

/-- A link write claim that waits when the store enters FAULT is refused (R140), and an annotation that
waits or rewrites ends (R124). -/
def State.refuseWaiting (l : Link) (s : State) : State :=
  match (s.port l).op with
  | none => s
  | some o =>
    match o.cmd with
    | .applyAnnotation op =>
      match op.phase with
      | .verified _ _ => s
      | _ => s.endAnnotation op .refused (some .storeFault)
    | _ => if o.waiting then s.refuseOp l .storeFault else s

/-- The store enters FAULT (R139): a STORE_FAULT record is written, STORE is raised, the grant ends, and
the waiting link writes are refused. -/
def State.enterFault (argument : Word) (s : State) : State :=
  let s := { s with store := { s.store with fault := true } }
  let s := s.writeEvent { time := s.time.counter, kind := .storeFault, stack := none,
                          channel := none, argument := argument }
  let s := (s.raiseAll flagStore).dropGrant
  (s.refuseWaiting .operator).refuseWaiting .inspection

end Sys2Proof.Machine
end

