-- ==== Sys2Proof/Machine/Operands.lean ====
section
/-! DEFINITION. What commands carry: the ranges of staged entries (R2, R4, R5, R7), flag sets (R181), the
entries of a configuration, and the millisecond at which a command or a pulse is taken. -/

namespace Sys2Proof.Machine

/-- The peripheral kinds (opening file). -/
def Kind.peripheral : Kind → Bool
  | .o2 => true
  | .h2o => true
  | .flow => true
  | .temp => true
  | .dust => false
  | .hcl => false
  | .so2 => false
  | .nox => false
  | .co => false
  | .toc => false
  | .hf => false
  | .hg => false
  | .nh3 => false

/-- The largest value code (R2). -/
def maxCode : Nat := 2147483647

/-- A value that is absent or lies between two bounds. -/
def absentOr (lo hi : Nat) : Option Nat → Bool
  | none => true
  | some n => decide (lo ≤ n) && decide (n ≤ hi)

/-- The source, range, offset and slope of a channel entry (R2, R3, R7). -/
def ChannelEntry.sourceFits (e : ChannelEntry) : Bool :=
  match e.source with
  | .analog input =>
    decide (input ≤ 31) &&
      (match e.range with
       | none => false
       | some r => decide (e.offset.natAbs ≤ r))
  | .link => decide (e.range = none) && decide (e.offset = 0) && decide (e.slope = 10000)
  | .constant v =>
    decide (e.range = none) && decide (e.offset = 0) && decide (e.slope = 10000) &&
      decide (-2147483648 ≤ v) && decide (v ≤ 2147483647)

/-- The fields that a peripheral kind does not use (R3, R7). -/
def ChannelEntry.kindFits (e : ChannelEntry) : Bool :=
  !e.kind.peripheral ||
    (!e.wet && decide (e.o2Ref = none) && decide (e.ciPercent = 0) &&
      decide (e.intervalLimit = none) && decide (e.dayLimit = none))

/-- The checks of a channel entry at receipt (R7). -/
def ChannelEntry.admissible (e : ChannelEntry) : Bool :=
  decide (e.stack ≤ 3) && absentOr 1 1000000 e.range && decide (1 ≤ e.slope) &&
    decide (e.slope ≤ 40000) && decide (e.ceiling ≤ maxCode) && absentOr 300 1700 e.o2Ref &&
    decide (e.ciPercent ≤ 40) && absentOr 1 maxCode e.intervalLimit &&
    absentOr 1 maxCode e.dayLimit && absentOr 0 15 e.maintLine && absentOr 0 15 e.faultLine &&
    e.sourceFits && e.kindFits

/-- The checks of a stack entry at receipt (R4, R7). -/
def StackEntry.admissible (e : StackEntry) : Bool :=
  decide (e.debounce ≤ 30) && decide (e.runOut ≤ 7200) && absentOr 0 31 e.o2Chan &&
    absentOr 0 31 e.h2oChan && absentOr 0 31 e.flowChan && decide (1000 ≤ e.o2Cap) &&
    decide (e.o2Cap ≤ 2000) && decide (60 ≤ e.runLimit) && decide (e.runLimit ≤ 86400) &&
    decide (3600 ≤ e.yearLimit) && decide (e.yearLimit ≤ 31622400)

/-- The checks of the device settings at receipt (R5, R7). -/
def DeviceSettings.admissible (d : DeviceSettings) : Bool :=
  decide (1 ≤ d.window) && decide (d.window ≤ 7) && decide (d.dayInvalidMax ≤ 48)

/-- STAGE CHANNEL's arguments, checked (R7). -/
def readStageChannel (args : List Byte) : Option (Nat × ChannelEntry) :=
  (decodeChannelEntry args).filter fun p => decide (p.1 ≤ 31) && p.2.admissible

/-- STAGE STACK's arguments, checked (R7). -/
def readStageStack (args : List Byte) : Option (Nat × StackEntry) :=
  (decodeStackEntry args).filter fun p => decide (p.1 ≤ 3) && p.2.admissible

/-- STAGE DEVICE's arguments, checked (R7). -/
def readStageDevice (args : List Byte) : Option DeviceSettings :=
  (decodeDevice args).filter fun d => d.admissible

/-- A flag set of two bytes; absent when an unused bit is set (R181). -/
def readFlagSet (args : List Byte) : Option FlagSet :=
  if u16 args 0 < 16384 then some (BitVec.ofNat 16 (u16 args 0)) else none

/-- The entry of a channel in a configuration. -/
def Tables.channel (t : Tables) (c : Nat) : ChannelEntry := t.channels.getD c .factory

/-- The entry of a stack in a configuration. -/
def Tables.stack (t : Tables) (k : Nat) : StackEntry := t.stackTab.getD k .factory

/-- The indices of the channels in use, ascending. -/
def Tables.inUse (t : Tables) : List Nat := (List.range 32).filter fun c => (t.channel c).inUse

/-- The millisecond at which a command is taken: not before the phase that earlier events of the second
have reached, and within 0 to 999 (R35). -/
def State.phaseNow (s : State) (phase : Nat) : Nat := max s.time.phase (min phase 999)

/-- The millisecond of a reference pulse: like that of a command, but up to the very end of the second in
progress, whose length is 1,000 ms less its slew step (R38, R40). -/
def State.pulseNow (s : State) (phase : Nat) : Nat :=
  max s.time.phase (min phase (1000 - s.time.slewStep).toNat)

/-- The phase moves on to a millisecond of the second in progress. -/
def State.reachPhase (phase : Nat) (s : State) : State :=
  { s with time := { s.time with phase := s.phaseNow phase } }

/-- The recovery floor (R41): the snapshot's time when its mark is present, and otherwise the later of
the newest event record's time and the end of the newest interval record. DESIGN CHOICE (log entry 17): a ring
that holds no such record gives 0. -/
def State.recoveryFloor (s : State) : Nat :=
  match (if s.store.mark then s.store.snapshot else none) with
  | some p => p.second
  | none =>
    max (((s.store.event.read .event s.store.event.ptr.newest).record?.map EventRec.time).getD 0)
      (((s.store.interval.read .interval s.store.interval.ptr.newest).record?.map
        fun r => r.start + 1800).getD 0)

end Sys2Proof.Machine
end

