-- ==== Sys2Proof/Machine/Scan.lean ====
section
/-! DEFINITION. The scan unit: scan slots and second accumulators (R19 to R21), line breaks (R22), the
self-check (R23, R24), the scan clock synthesizer (R25 to R27), status lines (R29) and the sample set of a second
(R30 to R34). -/

namespace Sys2Proof.Machine

/-- The channel whose input is listed: the in-use ANALOG channel of a configuration that names it (R19). -/
def Tables.channelOfInput (t : Tables) (input : Nat) : Option Nat :=
  t.inUse.find? fun c => decide ((t.channel c).source = .analog input)

/-- The largest reading of an input or of a reference source (opening file, R21). -/
def maxReading : Nat := 25000

/-- One conversion of a taken slot enters its accumulator (R21). -/
def SecondAcc.add (a : SecondAcc) (reading : Nat) : SecondAcc :=
  let r := min reading maxReading
  if r < 3600 then { a with n := a.n + 1, sum := a.sum + r, lineBreak := true }
  else if 20500 < r then { a with n := a.n + 1, sum := a.sum + 20500, saturated := true }
  else { a with n := a.n + 1, sum := a.sum + r }

/-- The conversions of a taken slot: every listed input gives one (R19, R20). -/
def convert (cfg : Tables) (readings : List Nat) (accs : List SecondAcc) : List SecondAcc :=
  accs.mapIdx fun i a => if (cfg.channelOfInput i).isSome then a.add (readings.getD i 0) else a

/-- Whether the scan unit is at work on the second in progress (R34). -/
def State.scanning (s : State) : Bool := s.running && s.sec.processed && !s.sec.sampleFormed

/-- Whether a slot of the second in progress is taken when it ends: LOCKED held from the start of the
second, or from the step onto it, and the slot began at or after the step's phase (R20, R43). -/
def State.slotTaken (s : State) (slot : Nat) : Bool :=
  s.sec.lockHeld && decide (s.sec.slotFloor ≤ 90 * slot)

/-- The end of a scan slot. -/
def State.endSlot (slot : Nat) (readings : List Nat) (s : State) : State :=
  let t := s.reachPhase (90 * (slot + 1))
  { t with
    sec := { t.sec with nextSlot := slot + 1 }
    scan := { t.scan with
      accs := if s.slotTaken slot then convert s.sec.cfg readings t.scan.accs else t.scan.accs } }

/-- SCAN_SLOT (R20, R21). -/
def execScanSlot (slot : Nat) (readings : List Nat) (s : State) :
    Host.Outcome State Fault Refusal :=
  .next (if s.scanning = true ∧ s.sec.nextSlot ≤ slot ∧ slot ≤ 9 then s.endSlot slot readings
    else s)

/-- STATUS_LINE_ACTIVE (R29): the line's latch is set. -/
def execStatusLineActive (line : Nat) (s : State) : Host.Outcome State Fault Refusal :=
  .next (if s.running = true ∧ line ≤ 15 then
    { s with scan := { s.scan with latches := s.scan.latches ||| BitVec.twoPow 16 line } }
  else s)

/-! ### The synthesizer (R25 to R27) -/

/-- The synthesizer leaves LOCKED for ACQUIRING with a cause; `write` says how its record goes to the
queue (R25). -/
def State.unlock (write : EventRec → State → State) (cause : Nat) (s : State) : State :=
  (write (.plain s.time.counter .scanClockUnlocked cause)
    { s with
      scan := { s.scan with synth := .acquiring }
      sec := { s.sec with lockHeld := false } }).raiseAll flagAcquisition

/-- A change of mains rejection takes effect (R25): from LOCKED the synthesizer enters ACQUIRING, and in
ACQUIRING it starts its search again, which shows nowhere. -/
def State.mainsChanged (write : EventRec → State → State) (s : State) : State :=
  match s.scan.synth with
  | .locked => s.unlock write 2
  | .acquiring => s
  | .stopped => s

/-- LOSS_OF_LOCK (R26). -/
def execLossOfLock (s : State) : Host.Outcome State Fault Refusal :=
  .next (if s.running = true ∧ s.scan.synth = .locked then (s.unlock State.writeEvent 1).settle else s)

/-- The synthesizer enters LOCKED (R27). -/
def State.lock (s : State) : State :=
  (({ s with scan := { s.scan with synth := .locked } } : State).note .scanClockLocked
    s.time.counter (mainsCode s.config.active.device.mains)).raiseAll flagAcquisition

/-- ACQUISITION_COMPLETE (R27). -/
def execAcquisitionComplete (s : State) : Host.Outcome State Fault Refusal :=
  .next (if s.running = true ∧ s.scan.synth = .acquiring then s.lock.settle else s)

/-! ### The self-check (R23, R24) -/

/-- Results of a second's self-check (R23). -/
inductive Check where
  | passed | failed | none
  deriving DecidableEq, Repr

/-- The check of a reference reading, made when LOCKED held to the end of its period (R23). -/
def checkOf (lockHeld : Bool) (reading : Nat) : Check :=
  if lockHeld then if 11940 ≤ reading ∧ reading ≤ 12060 then .passed else .failed
  else .none

/-- The fault state a check leaves (R24). -/
def faultAfter (before : Bool) : Check → Bool
  | .passed => false
  | .failed => true
  | .none => before

/-- The record of a change of a converter's fault state, with the ACQUISITION flag (R24). -/
def State.noteFault (converter reading : Nat) (before after : Bool) (s : State) : State :=
  if before = after then s
  else
    (s.note (if after then .converterFaultBegin else .converterFaultEnd) s.time.counter
      (converter * 65536 + min reading maxReading)).raiseAll flagAcquisition

/-- Both converters' fault states take the checks of the second, A before B (R24). -/
def State.updateFaults (readingA readingB : Nat) (a b : Check) (s : State) : State :=
  let t := { s with scan := { s.scan with
    faultyA := faultAfter s.scan.faultyA a
    faultyB := faultAfter s.scan.faultyB b } }
  (t.noteFault 0 readingA s.scan.faultyA (faultAfter s.scan.faultyA a)).noteFault 1 readingB
    s.scan.faultyB (faultAfter s.scan.faultyB b)

/-! ### Line breaks (R22) -/

/-- The line-break state of one input at the end of a second (R22). -/
def breakAfter (before : Bool) (listed : Bool) (a : SecondAcc) : Bool :=
  if listed then if a.lineBreak then true else if 1 ≤ a.n then false else before
  else before

/-- One input's line-break state is updated, with the record and the flag of a break that begins (R22). -/
def State.updateBreak (s : State) (input : Nat) : State :=
  match s.sec.cfg.channelOfInput input with
  | none => s
  | some c =>
    let before := s.scan.broken.getD input false
    let after := breakAfter before true (s.scan.accs.getD input .empty)
    let t := { s with scan := { s.scan with broken := s.scan.broken.set input after } }
    if before = false ∧ after = true then
      (t.writeEvent { time := s.time.counter, kind := .lineBreakBegin,
                      stack := some (s.sec.cfg.channel c).stack, channel := some c,
                      argument := BitVec.ofNat 32 input }).raiseAll flagAcquisition
    else t

/-! ### First verdicts (R30, R32, R33) -/

/-- Whether a channel's line is named and its latch set (R29). -/
def latched (latches : BitVec 16) : Option Nat → Bool
  | none => false
  | some line => latches.getLsbD line

/-- The first verdict of an ANALOG channel (R30). -/
def analogVerdict (latches : BitVec 16) (e : ChannelEntry) (check : Check) (a : SecondAcc) :
    Verdict :=
  if latched latches e.maintLine then .maintenance
  else if latched latches e.faultLine then .analyserFault
  else if check = .failed then .converterFault
  else if a.lineBreak then .lineBreak
  else if a.n < 5 then .short
  else if a.saturated then .saturated
  else .good

/-- The first verdict of a LINK channel in second `t` (R32). -/
def linkVerdict (latches : BitVec 16) (e : ChannelEntry) (slot : Option ValueSlot) (t : Nat) :
    Verdict :=
  if latched latches e.maintLine then .maintenance
  else if latched latches e.faultLine then .analyserFault
  else
    match slot with
    | none => .stale
    | some v =>
      if v.arrival + 2 < t then .stale else if v.maintenance then .maintenance else .good

/-- Whether a first verdict carries a value (R30, R32). -/
def Verdict.valid : Verdict → Bool
  | .good => true
  | .saturated => true
  | .dependency => false
  | .maintenance => false
  | .analyserFault => false
  | .converterFault => false
  | .lineBreak => false
  | .short => false
  | .stale => false

/-- The check of the converter that serves an input (opening of the chapter Acquisition). -/
def checkFor (a b : Check) (input : Nat) : Check := if input ≤ 15 then a else b

/-- The sample of one in-use channel at the end of the second in progress (R30, R32, R33). -/
def State.sampleOf (s : State) (a b : Check) (c : Nat) : Sample :=
  let e := s.sec.cfg.channel c
  match e.source with
  | .analog input =>
    let acc := s.scan.accs.getD input .empty
    let v := analogVerdict s.scan.latches e (checkFor a b input) acc
    { channel := c, verdict := v,
      value := if v.valid then some (roundHalfUp acc.sum acc.n : Nat) else none,
      conversions := some acc.n }
  | .link =>
    let slot := s.scan.slots.getD c none
    let v := linkVerdict s.scan.latches e slot s.time.counter
    { channel := c, verdict := v,
      value := if v.valid then slot.map ValueSlot.value else none, conversions := none }
  | .constant value =>
    { channel := c, verdict := .good, value := some value, conversions := none }

/-- Each channel's LINK verdict of the second: whether it is STALE, absent where the channel is not in
use with source LINK (R32). -/
def State.staleNow (s : State) : List (Option Bool) :=
  (List.range 32).map fun c =>
    if (s.sec.cfg.channel c).inUse = true ∧ (s.sec.cfg.channel c).source = .link then
      some (linkVerdict s.scan.latches (s.sec.cfg.channel c) (s.scan.slots.getD c none)
        s.time.counter == .stale)
    else none

/-- Whether some channel is STALE that was not STALE in the previous processed second (R32). -/
def staleBegins (before now : List (Option Bool)) : Bool :=
  (List.range 32).any fun c =>
    now.getD c none == some true && before.getD c none == some false

/-- The sample set of the second in progress (R34). -/
def State.sampleSet (s : State) (a b : Check) : SampleSet :=
  { second := s.time.counter, mode := s.sec.mode, cfg := s.sec.cfg,
    samples := s.sec.cfg.inUse.map (s.sampleOf a b) }

/-- The sample set is formed and handed on, and SIGNALS_STALE is raised where a value goes stale (R32,
R34). DESIGN CHOICE (log entry 18): it is formed here, at the end of the self-check period, so a status line active only
after it enters no sample of this second, and a value submitted after it is used from the next second on. -/
def State.formSamples (a b : Check) (s : State) : State :=
  let t := { s with
    sec := { s.sec with sampleFormed := true, nextSlot := 10 }
    scan := { s.scan with linkStale := s.staleNow }
    norm := { s.norm with samples := s.norm.samples ++ [s.sampleSet a b] } }
  if staleBegins s.scan.linkStale s.staleNow then t.raiseAll flagSignalsStale else t

/-- The line-break states of all inputs are updated, in ascending order (R22). -/
def State.updateBreaks (s : State) : State := (List.range 32).foldl State.updateBreak s

/-- The end of the self-check period, for a lock that held or not: fault states, line breaks and the sample
set, in this order. -/
def State.endSelfCheck (lock : Bool) (readingA readingB : Nat) (s : State) : State :=
  let a := checkOf lock readingA
  let b := checkOf lock readingB
  ((s.rememberScan.updateFaults readingA readingB a b).updateBreaks).formSamples a b

/-- A self-check that ends while a second boundary is held waits for it (log entry 20). -/
def State.deferCheck (readingA readingB : Nat) (s : State) : State :=
  { s with sec := { s.sec with
      sampleFormed := true, nextSlot := 10,
      checkWaits := some {
        lock := s.sec.lockHeld, readingA := readingA, readingB := readingB
        latches := s.scan.latches, slots := s.scan.slots } } }

/-- SELF_CHECK_END (R23, R24, R22, R34). -/
def execSelfCheckEnd (readingA readingB : Nat) (s : State) : Host.Outcome State Fault Refusal :=
  .next (if s.scanning then
    if s.sec.held.isSome then (s.reachPhase 960).deferCheck readingA readingB
    else ((s.reachPhase 960).endSelfCheck s.sec.lockHeld readingA readingB).settle
  else s)

end Sys2Proof.Machine
end

