-- ==== Sys2Proof/Machine/Normalise.lean ====
section
/-! DEFINITION. The normaliser's chain: scaling (R65), calibration (R66, R67), dry basis (R69), oxygen
reference (R70), the final verdict (R72, R73) and the normalised set of a second (R74). -/

namespace Sys2Proof.Machine

/-- S1, scaling (R65). -/
def scale (m : Int) (range : Nat) : Int := roundHalfAway ((m - 4000) * range) 16000

/-- S2 before its clamps for an ANALOG channel (R66). -/
def calibrate (e : ChannelEntry) (x : Int) : Int :=
  e.offset + roundHalfAway ((e.slope : Int) * x) 10000

/-- The chain ceiling (R66). -/
def chainCeiling : Nat := 5125000

/-- The value that enters S2's clamps: scaled and calibrated for ANALOG, the sample's code otherwise
(R64, R66). -/
def enteringValue (e : ChannelEntry) (value : Int) : Int :=
  match e.source with
  | .analog _ => calibrate e (scale value (e.range.getD 0))
  | .link => value
  | .constant _ => value

/-- The clamps of S2 (R66). -/
def clampValue (v : Int) : Nat := min v.toNat chainCeiling

/-- Whether the chain ceiling clamped a value (R66). -/
def aboveCeiling (v : Int) : Bool := decide ((chainCeiling : Int) < v)

/-- What S1 and S2 make of a sample: verdict, y, and the two marks (R64 to R68, R73). -/
structure Calibrated where
  verdict   : Verdict
  y         : Option Nat
  outOfCal  : Bool
  saturated : Bool
  deriving DecidableEq, Repr

/-- A sample through S1 and S2 (R64 to R68). -/
def calibrated (e : ChannelEntry) (p : Sample) : Calibrated :=
  if p.verdict.valid then
    let v := enteringValue e (p.value.getD 0)
    let y := clampValue v
    let w := if aboveCeiling v then .saturated else p.verdict
    { verdict := w, y := some y, outOfCal := decide (e.ceiling ≠ 0) && decide (e.ceiling < y),
      saturated := decide (w = .saturated) }
  else { verdict := p.verdict, y := none, outOfCal := false, saturated := false }

/-- The sample of a channel in a sample set. -/
def SampleSet.sampleOf (set : SampleSet) (c : Nat) : Option Sample :=
  set.samples.find? fun p => decide (p.channel = c)

/-- The value that a reference channel gives in the second: its y when its final verdict is valid (R69,
R70). -/
def SampleSet.reference (set : SampleSet) (channel : Option Nat) : Option Nat :=
  match channel.bind set.sampleOf with
  | none => none
  | some p =>
    let c := calibrated (set.cfg.channel p.channel) p
    if c.verdict.valid then c.y else none

/-- S3, dry basis (R69). -/
def dryValue (y h : Nat) : Nat := roundHalfUp (y * 10000) (10000 - min h 3000)

/-- S4, oxygen reference (R70). -/
def referenceValue (yDry o2Ref o2Cap o : Nat) : Nat :=
  roundHalfUp (yDry * (2100 - o2Ref)) (2100 - min o o2Cap)

/-- The dry value of a pollutant (R69); absent where its H2O value is invalid. -/
def dryOf (e : ChannelEntry) (y h : Option Nat) : Option Nat :=
  if e.wet then y.bind fun v => h.map (dryValue v) else y

/-- The reference value of a pollutant (R70); absent where its dry value or its O2 value is. -/
def refOf (e : ChannelEntry) (cap : Nat) (yDry o : Option Nat) : Option Nat :=
  match e.o2Ref with
  | none => yDry
  | some r => yDry.bind fun v => o.map (referenceValue v r cap)

/-- Whether a reference that a pollutant needs is invalid in the second (R72). -/
def dependencyFails (e : ChannelEntry) (h o : Option Nat) : Bool :=
  (e.wet && h.isNone) || (e.o2Ref.isSome && o.isNone)

/-- A channel's fields of the normalised set (R68, R73, R74). -/
def SampleSet.normalise (set : SampleSet) (p : Sample) : NormValue :=
  let e := set.cfg.channel p.channel
  let k := set.cfg.stack e.stack
  let c := calibrated e p
  if e.kind.peripheral then
    { stack := e.stack, kind := e.kind, verdict := c.verdict, y := c.y, yDry := c.y, yRef := c.y,
      outOfCal := c.outOfCal, saturated := c.saturated, conversions := p.conversions }
  else
    let h := set.reference k.h2oChan
    let o := set.reference k.o2Chan
    let d := c.verdict.valid && dependencyFails e h o
    { stack := e.stack, kind := e.kind, verdict := if d then .dependency else c.verdict, y := c.y,
      yDry := dryOf e c.y h, yRef := if d then none else refOf e k.o2Cap (dryOf e c.y h) o,
      outOfCal := c.outOfCal, saturated := c.saturated, conversions := p.conversions }

/-- The normalised set of a second (R74). -/
def normalSet (set : SampleSet) (marks : StackSet) : NormSet :=
  { second := set.second
    channels := (List.range 32).map fun c =>
      { second := set.second, value := (set.sampleOf c).map set.normalise }
    marks := (List.range 4).map fun k =>
      { second := set.second
        mark := marks.marks.getD k { inUse := false, state := .off, stale := false } } }

end Sys2Proof.Machine
end

