-- ==== Sys2Proof/Machine/Interval.lean ====
section
/-! DEFINITION. Interval work of the recorder: accumulators (R80 to R84), running averages (R85), the close
of an interval (R86 to R97), and its contribution to the provisional day (R101, R105, R106). -/

namespace Sys2Proof.Machine

/-! ### Accumulation (R80 to R85) -/

/-- A new accumulator (R80). -/
def Accumulator.fresh (truncated interrupted : Bool) (channel : Nat) : Accumulator :=
  { channel := channel, secsRec := 0, secsOp := 0, secsAbn := 0, validReg := 0, sumReg := 0,
    sumDry := 0, secsMaint := 0, secsOutcal := 0, secsSat := 0, validAll := 0, sumAll := 0,
    truncated := truncated, interrupted := interrupted }

/-- A new accumulator set: an accumulator for each channel in use (R80). -/
def AccSet.opened (start : Nat) (cfg : Tables) (truncated interrupted : Bool) : AccSet :=
  { start := start, cfg := cfg, accs := cfg.inUse.map (Accumulator.fresh truncated interrupted) }

/-- Adds one where a condition holds. -/
def tick (b : Bool) (n : Nat) : Nat := if b then n + 1 else n

/-- Whether a second is regulated (R83). -/
def StackState.regulated : StackState → Bool
  | .operating => true
  | .abnormal => true
  | .off => false
  | .startup => false
  | .shutdown => false

/-- One second is added to one accumulator (R83, R84). -/
def Accumulator.add (a : Accumulator) (v : NormValue) (state : StackState) : Accumulator :=
  { a with
    secsRec := a.secsRec + 1
    secsOp := tick (decide (state = .operating)) a.secsOp
    secsAbn := tick (decide (state = .abnormal)) a.secsAbn
    validReg := tick (state.regulated && v.verdict.valid) a.validReg
    sumReg := if state.regulated && v.verdict.valid then a.sumReg + v.yRef.getD 0 else a.sumReg
    sumDry := if state.regulated && v.verdict.valid then a.sumDry + v.yDry.getD 0 else a.sumDry
    secsMaint := tick (state.regulated && decide (v.verdict = .maintenance)) a.secsMaint
    secsOutcal := tick v.outOfCal a.secsOutcal
    secsSat := tick v.saturated a.secsSat
    validAll := tick v.verdict.valid a.validAll
    sumAll := if v.verdict.valid then a.sumAll + v.yRef.getD 0 else a.sumAll }

/-- A second's fields of a channel, where the channel was in use. -/
def NormSet.value (n : NormSet) (c : Nat) : Option NormValue := (n.channels[c]?).bind NormChannel.value

/-- A second's state of a stack. -/
def NormSet.state (n : NormSet) (k : Nat) : StackState :=
  ((n.marks[k]?).map fun m => m.mark.state).getD .off

/-- One second is added to every accumulator of its interval's set (R82). The stack is that of the
configuration in force for the interval. -/
def AccSet.add (a : AccSet) (n : NormSet) : AccSet :=
  { a with accs := a.accs.map fun c =>
      match n.value c.channel with
      | none => c
      | some v => c.add v (n.state (a.cfg.channel c.channel).stack) }

/-- A second is added to the set of the interval that contains it; without one it is not accumulated
(R82). -/
def addSecond (sets : List AccSet) (n : NormSet) : List AccSet :=
  sets.map fun a => if a.start = intervalStart n.second then a.add n else a

/-- The running averages after a second (R85). -/
def runningAverages (sets : List AccSet) (second : Nat) : List (Option Nat) :=
  match sets.find? fun a => decide (a.start = intervalStart second) with
  | none => List.replicate 32 none
  | some a => (List.range 32).map fun c =>
      (a.accs.find? fun x => decide (x.channel = c)).bind fun x => meanOf x.sumReg x.validReg

/-! ### Judging a close (R87 to R92) -/

/-- The class of a closed interval (R87). -/
def Accumulator.intervalClass (a : Accumulator) : IntervalClass :=
  if a.secsOp + a.secsAbn = 0 then .notOperating
  else if 1 ≤ a.secsAbn then .abnormal
  else .operating

/-- The validity of a closed interval (R88). -/
def Accumulator.validity (a : Accumulator) : Validity :=
  if a.secsOp + a.secsAbn = 0 then .none
  else if (a.secsOp + a.secsAbn) * 2 ≤ a.validReg * 3 then .valid
  else .invalid

/-- The confidence interval of a channel (R90). -/
def ChannelEntry.confidence (e : ChannelEntry) : Nat :=
  match e.dayLimit with
  | none => 0
  | some d => roundHalfUp (d * e.ciPercent) 100

/-- The validated value of a closed interval (R90). -/
def Accumulator.validated (a : Accumulator) (e : ChannelEntry) : Option Nat :=
  (meanOf a.sumReg a.validReg).map fun v => v - e.confidence

/-- Whether an interval carries EXCEEDED (R91). -/
def exceeds (c : IntervalClass) (v : Validity) (limit validated : Option Nat) : Bool :=
  decide (c = .operating) && decide (v = .valid) &&
    match limit, validated with
    | some l, some x => decide (l < x)
    | _, _ => false

/-- The divisor of the load: HG's codes are a thousandth of the others' (R92). -/
def loadDivisor (k : Kind) : Nat := if k = .hg then 360000000 else 360000

/-- The average of a stack's flow channel in this close, where its interval is valid (R92, R93). -/
def AccSet.flowAverage (a : AccSet) (stack : Nat) : Option Nat :=
  match (a.cfg.stack stack).flowChan with
  | none => none
  | some f =>
    (a.accs.find? fun x => decide (x.channel = f)).bind fun x =>
      if x.validity = .valid then meanOf x.sumReg x.validReg else none

/-- The load of a closed interval (R92). -/
def AccSet.load (a : AccSet) (x : Accumulator) : Option Nat :=
  let e := a.cfg.channel x.channel
  if e.kind.peripheral = false ∧ x.validity = .valid then
    match meanOf x.sumDry x.validReg, a.flowAverage e.stack with
    | some dry, some flow =>
      some (roundHalfUp (dry * flow * (x.secsOp + x.secsAbn)) (loadDivisor e.kind))
    | _, _ => none
  else none

/-- The record of one closed interval (R96). -/
def AccSet.record (a : AccSet) (x : Accumulator) : IntervalRec :=
  let e := a.cfg.channel x.channel
  { start := a.start, channel := x.channel, stack := e.stack, kind := e.kind,
    origClass := x.intervalClass, origValid := x.validity, finalClass := x.intervalClass,
    finalValid := x.validity,
    exceeded := exceeds x.intervalClass x.validity e.intervalLimit (x.validated e),
    truncated := x.truncated, interrupted := x.interrupted, annotated := false,
    secsRec := x.secsRec, secsOp := x.secsOp, secsAbn := x.secsAbn, validReg := x.validReg,
    secsMaint := x.secsMaint, secsOutcal := x.secsOutcal, secsSat := x.secsSat,
    validAll := x.validAll, average := meanOf x.sumReg x.validReg,
    allAverage := meanOf x.sumAll x.validAll, validated := x.validated e, load := a.load x,
    annKind := none, remark := 0, revision := 0 }

/-- Whether an interval record has a load gap (R92). The class that decides is the one of the close. -/
def IntervalRec.loadGap (r : IntervalRec) : Bool :=
  !r.kind.peripheral && decide (r.origClass ≠ .notOperating) && r.load.isNone

/-! ### The provisional day table (R101 to R106) -/

/-- A day joins the table, in date order, if it is not already there (R103, R106). -/
def joinDay (day : Nat) : List ProvDay → List ProvDay
  | [] => [{ day := day, entries := [] }]
  | p :: rest =>
    if day < p.day then { day := day, entries := [] } :: p :: rest
    else if day = p.day then p :: rest
    else p :: joinDay day rest

/-- The provisional day of a date. -/
def findDay (table : List ProvDay) (day : Nat) : Option ProvDay :=
  table.find? fun p => decide (p.day = day)

/-- A channel's entry of a day. -/
def ProvDay.entry (p : ProvDay) (c : Nat) : Option DayEntry :=
  p.entries.find? fun e => decide (e.channel = c)

/-- Changes a channel's entry, creating it in channel order where there is none (R101, R103, R106). -/
def putEntry (c : Nat) (f : DayEntry → DayEntry) : List DayEntry → List DayEntry
  | [] => [f (.fresh c)]
  | e :: rest =>
    if c < e.channel then f (.fresh c) :: e :: rest
    else if c = e.channel then f e :: rest
    else e :: putEntry c f rest

/-- Changes the entry of a day and channel of the table, where the day is there. -/
def modEntry (day c : Nat) (f : DayEntry → DayEntry) (table : List ProvDay) : List ProvDay :=
  table.map fun p => if p.day = day then { p with entries := putEntry c f p.entries } else p

/-- The slot of an interval map that a record fills at its close (R105). -/
def MapSlot.filled (r : IntervalRec) (state : MapState) : MapSlot :=
  { state := state, stack := r.stack, finalClass := r.finalClass, finalValid := r.finalValid,
    validated := r.validated, exceeded := r.exceeded, annotated := r.annotated,
    exceededAtClose := r.exceeded }

/-- Whether a final class and validity are those of a valid OPERATING interval. -/
def countsValid (c : IntervalClass) (v : Validity) : Bool := decide (c = .operating) && decide (v = .valid)

/-- Whether a final class and validity are those of an invalid OPERATING interval. -/
def countsInvalid (c : IntervalClass) (v : Validity) : Bool :=
  decide (c = .operating) && decide (v = .invalid)

/-- A maximum with its place, after another value: replaced only by a greater one (R101, R127). -/
def raiseMax (held : Option (Nat × Nat)) (value place : Nat) : Option (Nat × Nat) :=
  match held with
  | none => some (value, place)
  | some (m, p) => if m < value then some (value, place) else some (m, p)

/-- A record's contribution to its day entry (R101, R105). -/
def DayEntry.contribute (r : IntervalRec) (state : MapState) (e : DayEntry) : DayEntry :=
  { e with
    recorded := e.recorded + 1
    nValid := tick (countsValid r.finalClass r.finalValid) e.nValid
    nInvalid := tick (countsInvalid r.finalClass r.finalValid) e.nInvalid
    nAbnormal := tick (decide (r.finalClass = .abnormal)) e.nAbnormal
    nNotOp := tick (decide (r.finalClass = .notOperating)) e.nNotOp
    sumValidated :=
      if countsValid r.finalClass r.finalValid then e.sumValidated + r.validated.getD 0
      else e.sumValidated
    maximum :=
      if countsValid r.finalClass r.finalValid then raiseMax e.maximum (r.validated.getD 0) r.start
      else e.maximum
    exceedances := tick r.exceeded e.exceedances
    loadSum := e.loadSum + r.load.getD 0
    loadGaps := tick r.loadGap e.loadGaps
    secsAbn := if r.finalClass = .abnormal then e.secsAbn + r.secsAbn else e.secsAbn
    secsOutcal := e.secsOutcal + r.secsOutcal
    secsSat := e.secsSat + r.secsSat
    label := some (r.stack, r.kind)
    map := e.map.set (intervalOfDay r.start) (.filled r state) }

/-! ### Handing on (R97) -/

/-- One record of a close is offered to the queue and contributes to its day, whose day joins the table
if it is not there (R97, R101, R105, R106). -/
def State.handOn (s : State) (r : IntervalRec) : State :=
  let t := s.offer (.interval r)
  { t with recorder := { t.recorder with
      table := modEntry (dayOf r.start) r.channel
        (DayEntry.contribute r (if s.queueOpen then .queued else .notStored))
        (joinDay (dayOf r.start) t.recorder.table) } }

/-- The records of a closing set, in ascending channel index (R86, R97). -/
def AccSet.records (a : AccSet) : List IntervalRec := a.accs.map a.record

/-- The records of a close are handed on, and its flags raised (R97). -/
def State.handOnAll (records : List IntervalRec) (s : State) : State :=
  let t := (records.foldl State.handOn s).raiseAll flagIntervalClosed
  if records.any IntervalRec.exceeded then t.raiseAll flagExceedance else t

/-- An accumulator set closes and is released (R86). -/
def State.closeSet (start : Nat) (s : State) : State :=
  match s.recorder.accSets.find? fun a => decide (a.start = start) with
  | none => s
  | some a =>
    ({ s with recorder := { s.recorder with
        accSets := s.recorder.accSets.filter fun b => decide (b.start ≠ start) } }
      : State).handOnAll a.records

/-- Flags on every accumulator of the set of an interval (R94, R95). -/
def markSet (start : Nat) (truncated interrupted : Bool) (sets : List AccSet) : List AccSet :=
  sets.map fun a =>
    if a.start = start then
      { a with accs := a.accs.map fun x =>
          { x with truncated := x.truncated || truncated
                   interrupted := x.interrupted || interrupted } }
    else a

/-- A set closes flagged TRUNCATED or INTERRUPTED (R86, R94, R95). -/
def State.closeSetFlagged (start : Nat) (truncated interrupted : Bool) (s : State) : State :=
  ({ s with recorder := { s.recorder with
      accSets := markSet start truncated interrupted s.recorder.accSets } } : State).closeSet start

/-- An accumulator set is opened (R80). -/
def State.openSet (a : AccSet) (s : State) : State :=
  { s with recorder := { s.recorder with accSets := s.recorder.accSets ++ [a] } }

/-- The recorder adds one handed second, and closes the interval that it completes (R82, R86). -/
def State.addHanded (n : NormSet) (s : State) : State :=
  let t := { s with recorder := { s.recorder with accSets := addSecond s.recorder.accSets n } }
  if n.second % 1800 = 1799 then t.closeSet (intervalStart n.second) else t

/-- A day joins the provisional day table (R106). -/
def State.joinDay (day : Nat) (s : State) : State :=
  { s with recorder := { s.recorder with table := Machine.joinDay day s.recorder.table } }

end Sys2Proof.Machine
end

