-- ==== Sys2Proof/Machine/Stacks.lean ====
section
/-! DEFINITION. The stack state unit: sampling (R49, R51), debounce (R53), the state of each second (R54,
R55), the abnormal counters (R57, R58), and the stack state set (R56). -/

namespace Sys2Proof.Machine

/-- One signal's filtered level and timer after a second (R53). -/
def debounce (d : Nat) (raw filtered : Bool) (timer : Nat) : Bool × Nat :=
  if raw = filtered then (filtered, 0)
  else if timer + 1 ≤ d then (filtered, timer + 1)
  else (raw, 0)

/-- A stack's signals of a second and its STALE mark (R49, R51): raw levels from the pins or the link slot. -/
def StackUnit.sample (u : StackUnit) (e : StackEntry) (pins : Signals) (t : Nat) : StackUnit :=
  match e.source with
  | .lines => { u with raw := pins, stale := false }
  | .link =>
    match u.slot with
    | none => { u with raw := .allOff, stale := true }
    | some v =>
      { u with
        raw := v.levels
        stale := match v.arrival with
          | none => true
          | some a => decide (a + 9 < t) }

/-- Whether SIGNALS_STALE is raised for a stack (R51): STALE now, and fresh in the previous second, which
it spent as a LINK stack in use. -/
def StackUnit.goesStale (u : StackUnit) (e : StackEntry) (pins : Signals) (t : Nat) : Bool :=
  e.inUse && u.wasInUse && u.wasLink && !u.stale && (u.sample e pins t).stale &&
    decide (e.source = .link)

/-- The filtered signals and timers of a second: debounced, or taken directly by a stack entering use
(R52, R53). -/
def StackUnit.filter (u : StackUnit) (d : Nat) : StackUnit :=
  if u.wasInUse then
    let f := debounce d u.raw.fire u.filtered.fire u.fireTimer
    let g := debounce d u.raw.feed u.filtered.feed u.feedTimer
    let h := debounce d u.raw.abn u.filtered.abn u.abnTimer
    { u with
      filtered := { fire := f.1, feed := g.1, abn := h.1 }
      fireTimer := f.2
      feedTimer := g.2
      abnTimer := h.2 }
  else
    { u with filtered := u.raw, fireTimer := 0, feedTimer := 0, abnTimer := 0, state := .off,
             runOut := none }

/-- A run-out in a FEED-off second (R55). -/
def RunOut.advance (r : RunOut) (f : Signals) : StackState × Option RunOut :=
  let held := r.heldAbnormal || f.abn
  if 1 ≤ r.remaining then
    (if held then .abnormal else .operating,
      some { remaining := r.remaining - 1, heldAbnormal := held })
  else (if f.fire then .shutdown else .off, none)

/-- The run-out that is pending or begins in a FEED-off second (R54, R55). -/
def RunOut.current (before : StackState) (r : Option RunOut) (time : Nat) : Option RunOut :=
  match r with
  | some p => some p
  | none =>
    match before with
    | .operating => some { remaining := time, heldAbnormal := false }
    | .abnormal => some { remaining := time, heldAbnormal := true }
    | .off => none
    | .startup => none
    | .shutdown => none

/-- The state of a second of a stack in use, and its run-out afterwards (R54). -/
def decideState (f : Signals) (before : StackState) (r : Option RunOut) (time : Nat) :
    StackState × Option RunOut :=
  if f.feed then (if f.abn then .abnormal else .operating, none)
  else
    match RunOut.current before r time with
    | some p => p.advance f
    | none =>
      if f.fire then (if before = .shutdown then .shutdown else .startup, none) else (.off, none)

/-- A stack's signals, state and run-out in a processed second (R51 to R55, R62). -/
def StackUnit.evaluate (u : StackUnit) (e : StackEntry) (pins : Signals) (t : Nat) : StackUnit :=
  if e.inUse then
    let v := (u.sample e pins t).filter e.debounce
    let r := decideState v.filtered v.state v.runOut e.runOut
    { v with state := r.1, runOut := r.2, wasInUse := true, wasLink := decide (e.source = .link) }
  else
    { u with
      state := .off
      runOut := none
      wasInUse := false
      wasLink := false
      stale := match e.source with
        | .lines => false
        | .link => u.stale }

/-- The year counter, its mark and its year start again (R58). -/
def StackUnit.newYear (u : StackUnit) (year : Nat) : StackUnit :=
  { u with yearCounter := 0, yearMark := false, counterYear := year }

/-- The counters of a processed second, its state having been decided (R57, R58). -/
def StackUnit.countSecond (u : StackUnit) (mode : Mode) (year : Nat) : StackUnit :=
  let v := if u.counterYear = year then u else u.newYear year
  if mode = .recording then
    if v.state = .abnormal then
      { v with runCounter := min (v.runCounter + 1) 4294967295, yearCounter := v.yearCounter + 1 }
    else { v with runCounter := 0, runMark := false }
  else { v with runCounter := 0, runMark := false }

/-- Whether a run limit event is due (R57). -/
def StackUnit.runDue (u : StackUnit) (e : StackEntry) (mode : Mode) : Bool :=
  decide (mode = .recording) && decide (e.runLimit ≤ u.runCounter) && !u.runMark

/-- Whether a year limit event is due (R58). -/
def StackUnit.yearDue (u : StackUnit) (e : StackEntry) (mode : Mode) : Bool :=
  decide (mode = .recording) && decide (e.yearLimit ≤ u.yearCounter) && !u.yearMark

/-- One stack after a processed second. -/
def StackUnit.next (u : StackUnit) (e : StackEntry) (pins : Signals) (mode : Mode) (t : Nat) :
    StackUnit :=
  let v := (u.evaluate e pins t).countSecond mode (yearOfDay (dayOf t))
  { v with
    runMark := v.runMark || v.runDue e mode
    yearMark := v.yearMark || v.yearDue e mode }

/-- Writes a limit event of a stack and raises ABNORMAL_LIMIT (R57, R58). -/
def State.noteLimit (kind : EventKind) (k counter : Nat) (s : State) : State :=
  (s.writeEvent { time := s.time.counter, kind := kind, stack := some k, channel := none,
                  argument := BitVec.ofNat 32 counter }).raiseAll flagAbnormalLimit

/-- Replaces one stack's state. -/
def State.setStackUnit (k : Nat) (u : StackUnit) (s : State) : State :=
  { s with stackUnits := s.stackUnits.set k u }

/-- One stack is evaluated in the second in progress (R49 to R58). DESIGN CHOICE (log entry 18): where both limits
are reached in one second, the run limit's record is offered before the year limit's. -/
def State.evaluateStack (s : State) (k : Nat) : State :=
  let u := s.stackUnits.getD k (.initial 2000)
  let e := s.sec.cfg.stack k
  let pins := s.pins.getD k .allOff
  let v := (u.evaluate e pins s.time.counter).countSecond s.sec.mode
    (yearOfDay (dayOf s.time.counter))
  let s0 := s.setStackUnit k (u.next e pins s.sec.mode s.time.counter)
  let s1 := if u.goesStale e pins s.time.counter then s0.raiseAll flagSignalsStale else s0
  let s2 := if v.runDue e s.sec.mode then s1.noteLimit .abnormalRunLimit k v.runCounter else s1
  if v.yearDue e s.sec.mode then s2.noteLimit .abnormalYearLimit k v.yearCounter else s2

/-- The stack state set of the second in progress (R56). -/
def State.stackSet (s : State) : StackSet :=
  { second := s.time.counter
    marks := (List.range 4).map fun k =>
      { inUse := (s.sec.cfg.stack k).inUse
        state := (s.stackUnits.getD k (.initial 2000)).state
        stale := (s.stackUnits.getD k (.initial 2000)).stale } }

/-- The stack state set is handed on (R56). -/
def State.handStackSet (s : State) : State :=
  { s with
    sec := { s.sec with sampled := true }
    norm := { s.norm with stackSets := s.norm.stackSets ++ [s.stackSet] } }

/-- The pins take the levels read at the sampling point. -/
def State.readPins (lines : List Signals) (s : State) : State :=
  { s with pins := (List.range 4).map fun k => lines.getD k .allOff }

/-- The four stacks are evaluated, in ascending order. DESIGN CHOICE (log entry 18): so are the records of the
limits that several of them reach in one second. -/
def State.evaluateStacks (s : State) : State := (List.range 4).foldl State.evaluateStack s

/-- The stacks are evaluated on the pins that have been read, and the set is handed on. -/
def State.sampleStacks (s : State) : State := s.rememberStacks.evaluateStacks.handStackSet

/-- The link signal slots of the stacks. -/
def State.linkSlots (s : State) : List (Option LinkSlot) := s.stackUnits.map StackUnit.slot

/-- A sampling point that falls while a second boundary is held: the pins have been read, the link signal
slots of this moment are kept (R51), and the stacks wait for the boundary (log entry 20). -/
def State.deferSample (s : State) : State :=
  { s with sec := { s.sec with sampled := true, sampleWaits := some s.linkSlots } }

/-- SAMPLING_POINT (R49). -/
def execSamplingPoint (lines : List Signals) (s : State) : Host.Outcome State Fault Refusal :=
  .next (if s.running = true ∧ s.sec.processed = true ∧ s.sec.sampled = false then
    let t := (s.reachPhase 960).readPins lines
    if s.sec.held.isSome then t.deferSample else t.sampleStacks.settle
  else s)

end Sys2Proof.Machine
end

