-- ==== Sys2Proof/Machine/Days.lean ====
section
/-! DEFINITION. Day closes (R107 to R112), the year tally (R125 to R130), and the recorder's work that waits
its turn (R44, R45, R107, R155). -/

namespace Sys2Proof.Machine

/-! ### The day record (R108 to R111) -/

/-- An entry's label, taken from the governing configuration where no record has given one (R108). -/
def DayEntry.labelled (gov : Tables) (e : DayEntry) : DayEntry :=
  match e.label with
  | some _ => e
  | none => { e with label := some ((gov.channel e.channel).stack, (gov.channel e.channel).kind) }

/-- The entries that take part in a close: those of the day, and one for each channel in use in the
governing configuration that has none (R108). -/
def ProvDay.closing (p : ProvDay) (gov : Tables) : List DayEntry :=
  gov.inUse.foldl (fun es c => putEntry c (DayEntry.labelled gov) es) p.entries

/-- The unrecorded intervals of an entry (R109). -/
def DayEntry.unrecorded (e : DayEntry) : Nat := 48 - e.recorded

/-- The day class of an entry (R109). -/
def DayEntry.dayClass (e : DayEntry) : DayClass :=
  if e.nValid + e.nInvalid + e.nAbnormal = 0 then
    if e.unrecorded = 0 then .noOperation else .unrecorded
  else .operating

/-- The validity of a day (R110). -/
def DayEntry.validity (e : DayEntry) (invalidMax : Nat) : Validity :=
  match e.dayClass with
  | .operating =>
    if 1 ≤ e.nValid ∧ e.nInvalid + e.unrecorded ≤ invalidMax then .valid else .invalid
  | .noOperation => .none
  | .unrecorded => .none

/-- The day average (R110). -/
def DayEntry.average (e : DayEntry) : Option Nat := meanOf e.sumValidated e.nValid

/-- Whether a day carries EXCEEDED (R110). -/
def dayExceeds (v : Validity) (limit average : Option Nat) : Bool :=
  decide (v = .valid) &&
    match limit, average with
    | some l, some a => decide (l < a)
    | _, _ => false

/-- The day record of an entry (R111). -/
def DayEntry.record (e : DayEntry) (gov : Tables) (cause : CloseCause) (day : Nat) : DayRec :=
  { day := day, channel := e.channel, stack := (e.label.map Prod.fst).getD 0,
    kind := (e.label.map Prod.snd).getD .temp, cause := cause, dayClass := e.dayClass,
    validity := e.validity gov.device.dayInvalidMax,
    exceeded := dayExceeds (e.validity gov.device.dayInvalidMax) (gov.channel e.channel).dayLimit
      e.average,
    dayInvalidMax := gov.device.dayInvalidMax, recorded := e.recorded, nValid := e.nValid,
    nInvalid := e.nInvalid, nAbnormal := e.nAbnormal, nNotOp := e.nNotOp,
    nUnrecorded := e.unrecorded, average := e.average, maximum := e.maximum,
    exceedances := e.exceedances, annulled := e.annulled, annotated := e.annotated,
    loadSum := e.loadSum, loadGaps := e.loadGaps, secsAbn := e.secsAbn,
    secsOutcal := e.secsOutcal, secsSat := e.secsSat }

/-! ### The tally (R127 to R130) -/

/-- A day record adds to the section of its channel (R127). -/
def ChannelTally.add (t : ChannelTally) (r : DayRec) : ChannelTally :=
  { label := some (r.stack, r.kind)
    ivValid := t.ivValid + r.nValid
    ivInvalid := t.ivInvalid + r.nInvalid
    ivAbnormal := t.ivAbnormal + r.nAbnormal
    ivNotOp := t.ivNotOp + r.nNotOp
    ivUnrecorded := t.ivUnrecorded + r.nUnrecorded
    ivExceedances := t.ivExceedances + r.exceedances
    dayValid := tick (decide (r.validity = .valid)) t.dayValid
    dayInvalid := tick (decide (r.validity = .invalid)) t.dayInvalid
    dayNoOperation := tick (decide (r.dayClass = .noOperation)) t.dayNoOperation
    dayUnrecorded := tick (decide (r.dayClass = .unrecorded)) t.dayUnrecorded
    dayExceedances := tick r.exceeded t.dayExceedances
    maxInterval := match r.maximum with
      | none => t.maxInterval
      | some m => raiseMax t.maxInterval m.1 m.2
    maxDay := match r.validity, r.average with
      | .valid, some a => raiseMax t.maxDay a r.day
      | _, _ => t.maxDay
    load := t.load + r.loadSum
    loadGaps := t.loadGaps + r.loadGaps
    secsOutcal := t.secsOutcal + r.secsOutcal
    secsSat := t.secsSat + r.secsSat
    annotated := t.annotated + r.annotated
    annulled := t.annulled + r.annulled }

/-- A day record adds to a slot (R127). -/
def TallySlot.add (t : TallySlot) (r : DayRec) : TallySlot :=
  { t with channels := t.channels.modify r.channel fun c => c.add r }

/-- The largest secs_abn sum among the day records of a stack (R127). -/
def largestAbn (records : List DayRec) (k : Nat) : Nat :=
  records.foldl (fun m r => if r.stack = k then max m r.secsAbn else m) 0

/-- A day's abnormal seconds enter a slot, stack by stack (R127). -/
def TallySlot.addAbn (t : TallySlot) (records : List DayRec) : TallySlot :=
  { t with stackAbn := t.stackAbn.mapIdx fun k n => n + largestAbn records k }

/-- The slot named by a year (R129). -/
def slotOfYear (tally : List TallySlot) (year : Nat) : Option Nat :=
  (List.range tally.length).find? fun i =>
    match tally[i]? with
    | some t => decide (t.state ≠ .unused) && decide (t.year = some year)
    | none => false

/-- The slot a new year takes when neither is named by it: the lower-numbered UNUSED one, else the one
with the lower year (R129). -/
def slotToTake (tally : List TallySlot) : Nat :=
  match tally with
  | [a, b] =>
    if a.state = .unused then 0
    else if b.state = .unused then 1
    else if a.year.getD 0 ≤ b.year.getD 0 then 0 else 1
  | _ => 0

/-- Changes one live slot. -/
def State.modSlot (i : Nat) (f : TallySlot → TallySlot) (s : State) : State :=
  { s with recorder := { s.recorder with tally := s.recorder.tally.modify i f } }

/-- A live slot. -/
def State.slot (s : State) (i : Nat) : TallySlot := s.recorder.tally.getD i (.blank .unused none)

/-- Whether a COMMIT REPORT of a year has committed and its write is being programmed: its commit came
first, so a reuse of the slot finds it REPORTED (R131). -/
def State.reporting (s : State) (year : Option Nat) : Bool :=
  match s.committed with
  | some (.commitReport y (some _)) => decide (year = some y)
  | _ => false

/-- A slot is taken for a year; an uncollected report is discarded with its record and flag (R129). -/
def State.takeSlot (year i : Nat) (s : State) : State :=
  let old := s.slot i
  if old.state = .unused ∨ old.state = .reported ∨ s.reporting old.year = true then
    s.modSlot i fun _ => .blank .opened (some year)
  else
    ((s.note .yearReportUncollected s.time.counter (old.year.getD 0)).raiseAll flagYear).modSlot i
      fun _ => { (TallySlot.blank .opened (some year)) with lostReports := 1 }

/-- The slot of a year is selected, being taken if neither is named by it (R129). -/
def State.selectSlot (year : Nat) (s : State) : State × Nat :=
  match slotOfYear s.recorder.tally year with
  | some i => (s, i)
  | none => (s.takeSlot year (slotToTake s.recorder.tally), slotToTake s.recorder.tally)

/-- One day record of a close is offered to the queue and added to the slot (R112, step 2). -/
def State.closeRecord (i : Nat) (s : State) (r : DayRec) : State :=
  (s.offer (.day r)).modSlot i fun t => t.add r

/-- The pending counts enter a slot and start again (R100, R112 step 3, R128). -/
def State.bringToAccount (i : Nat) (s : State) : State :=
  let r := s.recorder
  let t := s.modSlot i fun t =>
    { t with
      notStored := t.notStored + r.notStored
      steps := t.steps + r.steps
      restarts := t.restarts + r.restarts
      overwritten := t.overwritten + r.overwritten }
  { t with recorder := { t.recorder with notStored := 0, steps := 0, restarts := 0,
                                         overwritten := 0 } }

/-- A slot turns FINAL, with its flag (R130). -/
def State.finalSlot (i : Nat) (s : State) : State :=
  (s.modSlot i fun t => { t with state := .final }).raiseAll flagYear

/-- A checkpoint of a slot is offered to the queue (R112 step 5, R126). -/
def State.checkpoint (i : Nat) (s : State) : State := s.offer (.checkpoint i (s.slot i))

/-- Steps 1 to 3 of a close with records, after the slot's selection (R112). -/
def State.closeRecords (i : Nat) (records : List DayRec) (s : State) : State :=
  ((records.foldl (State.closeRecord i) s).modSlot i fun t => t.addAbn records).bringToAccount i

/-- Steps 1 to 5 of a close (R112). -/
def State.closeIntoTally (day : Nat) (records : List DayRec) (s : State) : State :=
  if records = [] then
    match slotOfYear s.recorder.tally (yearOfDay day) with
    | some i =>
      if isLastOfYear day = true ∧ (s.slot i).state = .opened then
        (s.finalSlot i).checkpoint i
      else s
    | none => s
  else
    let p := s.selectSlot (yearOfDay day)
    let t := p.1.closeRecords p.2 records
    if isLastOfYear day = true ∧ (t.slot p.2).state = .opened then
      (t.finalSlot p.2).checkpoint p.2
    else t.checkpoint p.2

/-- Whether the protection claim has been granted and its write not yet begun: the write will carry the
date that stands when it begins (R142). -/
def State.protectionGranted (s : State) : Bool :=
  s.arbiter.grant.any fun g => decide (g.claim = .protection) && !g.begun

/-- The recorder's protection claim arises, if it does not wait already (R142). -/
def State.claimProtection (s : State) : State :=
  if s.arbiter.recClaims.contains .protection || s.protectionGranted then s
  else { s with arbiter := { s.arbiter with recClaims := s.arbiter.recClaims ++ [.protection] } }

/-- The closed-through date becomes a day, and its protection word waits to be written (R112, R142). -/
def State.closeThrough (day : Nat) (s : State) : State :=
  ({ s with store := { s.store with closedThrough := some day } } : State).claimProtection

/-- A day leaves the provisional day table (R112). -/
def State.forgetDay (day : Nat) (s : State) : State :=
  { s with recorder := { s.recorder with
      table := s.recorder.table.filter fun q => decide (q.day ≠ day) } }

/-- The records of a day's close (R108, R111). -/
def ProvDay.records (p : ProvDay) (gov : Tables) (cause : CloseCause) : List DayRec :=
  (p.closing gov).map fun e => e.record gov cause p.day

/-- The close of one day (R112). -/
def State.closeDay (gov : Tables) (cause : CloseCause) (p : ProvDay) (s : State) : State :=
  let t := (((s.closeIntoTally p.day (p.records gov cause)).closeThrough p.day).forgetDay
    p.day).raiseAll flagDayClosed
  if (p.records gov cause).any DayRec.exceeded then t.raiseAll flagExceedance else t

/-! ### Close occasions (R107) -/

/-- Whether an occasion's range holds a day. -/
def DayRange.holds (r : DayRange) (day : Nat) : Bool :=
  match r with
  | .nothing => false
  | .through d => decide (day ≤ d)
  | .every => true

/-- The day that an occasion closes next: the oldest of its range (R107). -/
def Occasion.due (o : Occasion) (table : List ProvDay) : Option ProvDay :=
  table.find? fun p => o.range.holds p.day

/-- The range of the scheduled closes of the boundary that begins a day (R107). -/
def scheduledRange (day window : Nat) : DayRange :=
  if window + 1 ≤ day then .through (day - window - 1) else .nothing

/-- Work joins the recorder's waiting work. -/
def State.addWork (w : RecorderWork) (s : State) : State :=
  { s with recorder := { s.recorder with work := s.recorder.work ++ [w] } }

/-- Turns an OPEN slot FINAL (R130). -/
def State.finalIfOpen (s : State) (i : Nat) : State :=
  if (s.slot i).state = .opened then s.finalSlot i else s

/-- A checkpoint of each slot of a list (R155 step 4). -/
def State.checkpointAll (slots : List Nat) (s : State) : State :=
  slots.foldl (fun t i => t.checkpoint i) s

/-- The slots that are OPEN. -/
def State.openSlots (s : State) : List Nat :=
  (List.range s.recorder.tally.length).filter fun i => decide ((s.slot i).state = .opened)

/-- Every OPEN slot turns FINAL, and a checkpoint of each follows (R130, R155 step 4). -/
def State.finalSlots (s : State) : State :=
  (s.openSlots.foldl State.finalIfOpen s).checkpointAll s.openSlots

/-- A withdrawal is over, and the running averages are absent (R79). -/
def State.releaseWithdrawal (s : State) : State :=
  { s with recorder := { s.recorder with
      withdrawal := none, running := List.replicate 32 none } }

/-- The end of a withdrawal: its record, the tally, and the operation (R155, steps 3 and 4; R79). -/
def State.finishWithdrawal (point count : Nat) (s : State) : State :=
  let t := (s.note .withdrawn point count).finalSlots.releaseWithdrawal
  match t.opCmd .inspection with
  | some .withdraw => t.endOp .inspection .done none none [count]
  | _ => t

/-- The end of an occasion: its day joins; a CLOSE DAYS ends DONE with its count, and a withdrawal is
finished (R106, R114, R155). -/
def State.endOccasion (o : Occasion) (s : State) : State :=
  let s := match o.joins with
    | none => s
    | some day => s.joinDay day
  match o.cause with
  | .scheduled => s
  | .commanded => s.endOp .inspection .done none none [o.closed]
  | .withdrawal =>
    match s.recorder.withdrawal with
    | none => s
    | some w => s.finishWithdrawal (w.point.getD s.time.counter) w.closed

/-- Whether a set of an interval or of one before it is still on its way to the recorder: handed and not
accumulated, or held by the normaliser (R44, R101). -/
def State.onItsWay (s : State) (start : Nat) : Bool :=
  (s.recorder.handed.any fun n => decide (intervalStart n.second ≤ start)) ||
    (s.norm.samples.any fun p =>
      decide (intervalStart p.second ≤ start) && decide (p.mode = .recording))

/-- The first piece of waiting work that nothing holds up is made, if there is one. The close of a stepped
interval waits for the seconds on their way, and all that follows it waits with it; occasions take turns, and one
with days still to close is left in its place. `kept` are the pieces passed over. -/
def State.workAmong (s : State) (kept : List RecorderWork) : List RecorderWork → Option State
  | [] => none
  | w :: rest =>
    let t := { s with recorder := { s.recorder with work := kept ++ rest } }
    match w with
    | .closeStepped start =>
      if s.onItsWay start then none else some (t.closeSetFlagged start true false)
    | .record e => some (t.writeEvent e)
    | .occasion o =>
      if kept = [] ∧ o.due s.recorder.table = none then some (t.endOccasion o)
      else s.workAmong (kept ++ [w]) rest

/-- One piece of waiting work (R44, R45, R107). -/
def State.workOnce (s : State) : Option State := s.workAmong [] s.recorder.work

/-- Waiting work runs until it must wait; the bound is the number of pieces. -/
def State.runWorkFor : Nat → State → State
  | 0, s => s
  | fuel + 1, s =>
    match s.workOnce with
    | none => s
    | some t => t.runWorkFor fuel

/-- Waiting work runs until it must wait. -/
def State.runWork (s : State) : State := s.runWorkFor (s.recorder.work.length + 1)

/-- Whether an accumulator set of a day is still open (R101). -/
def State.openOn (s : State) (day : Nat) : Bool :=
  s.recorder.accSets.any fun a => decide (dayOf a.start = day)

/-- Whether the rewrite that has been granted concerns a record of a day (R113). -/
def State.rewritingOn (s : State) (day : Nat) : Bool :=
  match s.annotation with
  | none => false
  | some op =>
    match op.phase with
    | .programming _ old _ => decide (dayOf old.start = day)
    | .verified old _ => decide (dayOf old.start = day)
    | .examine => false
    | .waitQueued => false
    | .waitRead _ => false
    | .waitRewrite _ _ _ => false

/-- Whether the close of a day must wait (R101, R113). -/
def State.closeWaits (s : State) (cause : CloseCause) (day : Nat) : Bool :=
  s.rewritingOn day ||
    match cause with
    | .scheduled => false
    | .commanded => s.openOn day
    | .withdrawal => s.openOn day

/-- The day that the recorder can close now, with its occasion and the work behind it. -/
def State.dueClose (s : State) : Option (Occasion × ProvDay × List RecorderWork) :=
  match s.recorder.work with
  | .occasion o :: rest =>
    match o.due s.recorder.table with
    | some p => if s.closeWaits o.cause p.day then none else some (o, p, rest)
    | none => none
  | _ => none

/-- The withdrawal's count of closed days rises (R155). -/
def State.countWithdrawn (cause : CloseCause) (s : State) : State :=
  match cause with
  | .withdrawal =>
    { s with recorder := { s.recorder with
        withdrawal := s.recorder.withdrawal.map fun w => { w with closed := w.closed + 1 } } }
  | .scheduled => s
  | .commanded => s

/-- The tables that govern the next close of an occasion: those in force for the interval that contains the
close, but for CLOSE DAYS, a boundary and a step those that the occasion holds (R17, R44, R107). -/
def State.governs (s : State) (o : Occasion) : Tables :=
  match o.cause with
  | .withdrawal => s.config.active
  | .scheduled => o.gov
  | .commanded => o.gov

/-- One day close of the occasion at the front of the waiting work. -/
def State.closeNextDay (o : Occasion) (p : ProvDay) (rest : List RecorderWork) (s : State) : State :=
  let t := (s.closeDay (s.governs o) o.cause p).countWithdrawn o.cause
  { t with recorder := { t.recorder with
      work := .occasion { o with closed := o.closed + 1 } :: rest } }

/-- Every close that need not wait is made, oldest first; the first argument bounds their number. -/
def State.drainCloses : Nat → State → State
  | 0, s => s.runWork
  | fuel + 1, s =>
    match s.runWork.dueClose with
    | none => s.runWork
    | some (o, p, rest) => (s.runWork.closeNextDay o p rest).drainCloses fuel

/-! ### Boundaries (R45, R46, R58, R153) -/

/-- A year boundary clears the year counter of every stack (R58). -/
def State.clearYear (year : Nat) (s : State) : State :=
  { s with stackUnits := s.stackUnits.map fun u => u.newYear year }

/-- The day boundary that begins a day, in RECORDING: its scheduled closes wait their turn, its day joins
after them, and on 1 January it is a year boundary too (R45, R46, R106, R107). -/
def State.dayBoundary (gov : Tables) (day : Nat) (s : State) : State :=
  let t := s.addWork (.occasion
    { cause := .scheduled, range := scheduledRange day gov.device.window, joins := some day,
      gov := gov, closed := 0 })
  if isFirstOfYear day then t.clearYear (yearOfDay day) else t

/-- The day boundaries of `n` days from a day on, in date order (R45). -/
def State.dayBoundaries (gov : Tables) (day : Nat) : Nat → State → State
  | 0, s => s
  | n + 1, s => (s.dayBoundary gov day).dayBoundaries gov (day + 1) n

end Sys2Proof.Machine
end

