-- ==== Sys2Proof/Machine/LinkPorts.lean ====
section
/-! DEFINITION. The link ports: deciding a frame (R167), access classes (R170), the reply (R168), the
notice of cleared marks (R117), failed frames, selection (R165), and the end of a reply or stream. -/

namespace Sys2Proof.Machine

/-! ### Reply bits (R168, R183) -/

/-- STARTING. -/
def bitStarting : Byte := 0x01
/-- BUSY. -/
def bitBusy : Byte := 0x02
/-- NOT_PERMITTED. -/
def bitNotPermitted : Byte := 0x04
/-- UNKNOWN. -/
def bitUnknown : Byte := 0x08
/-- FRAME_CHECK. -/
def bitFrameCheck : Byte := 0x10
/-- ARGUMENT. -/
def bitArgument : Byte := 0x20
/-- SEQUENCE. -/
def bitSequence : Byte := 0x40

/-! ### Access classes (R170) -/

/-- Whether a command is permitted to a link's class in the present mode. -/
def permitted (c : Command) (l : Link) (mode : Mode) : Bool :=
  match c with
  | .linkStatus => true
  | .readTime => true
  | .readLive => true
  | .readEvents => true
  | .acknowledgeEvents => true
  | .setEventMask => true
  | .submitValue => l == .plant
  | .setStackSignals => l == .plant
  | .readConfig => l != .plant
  | .readTally => l != .plant
  | .openReadout => l != .plant
  | .stop => l != .plant
  | .setTime => l != .plant
  | .stageChannel => l == .operator
  | .stageStack => l == .operator
  | .stageDevice => l == .operator
  | .withdrawStage => l == .operator
  | .markStart => l == .operator
  | .markEnd => l == .operator
  | .applyAnnotation => l == .operator
  | .commitCollection => l == .operator
  | .commitReport => l != .plant
  | .approve => l == .inspection || (l == .operator && mode == .commissioning)
  | .rejectStage => l == .inspection
  | .closeDays => l == .inspection
  | .inService => l == .inspection
  | .withdraw => l == .inspection
  | .eraseArchive => l == .inspection
  | .restart => l == .inspection

/-! ### The reply (R168) -/

/-- Whether the ports respond: not during a snapshot and the halt (R163). -/
def State.linksRespond (s : State) : Bool :=
  match s.supply.power with
  | .running => true
  | .starting => true
  | .snapshotting => false
  | .halt => false

/-- The reply bits decided while the part is as given: in STARTING the STARTING bit is set on every reply
(R167). -/
def State.replyBits (s : State) (bits : Byte) : Byte :=
  if s.supply.power = .starting then bits ||| bitStarting else bits

/-- The receiver enters REPLYING with a reply byte, and a data block where there is one (R168). What the
command itself has to send, the tokens of a readout, follows. -/
def State.reply (l : Link) (bits : Byte) (data : Option (List Byte)) (s : State) : State :=
  s.modPort l fun p =>
    { p with
      selected := true
      recv := .replying
      frame := none
      tx := .reply bits :: ((data.map TxItem.replyBlock).toList ++ p.tx) }

/-- A frame is refused with reply bits (R167, R168). -/
def State.refuse (l : Link) (bits : Byte) (s : State) : State := s.reply l (s.replyBits bits) none

/-- What a command's own rule makes of its frame (R167, rows 7 and 8): refused with ARGUMENT or SEQUENCE,
or executed, with its data block if it has one and the SEQUENCE notice if it carries it. -/
inductive Ruling where
  | argument
  | sequence
  | answered (s : State) (data : Option (List Byte)) (notice : Bool)

/-- Rows 2 and 4 to 6 of R167: the reply bits of a frame refused by one of them. -/
def State.screen (s : State) (c : Command) (l : Link) (args : List Byte) : Option Byte :=
  if s.supply.power = .starting ∧ c ≠ .linkStatus then some bitStarting
  else if permitted c l s.supply.mode = false then some bitNotPermitted
  else if (s.port l).op.isSome = true ∧ c ≠ .linkStatus then some bitBusy
  else if args.length ≠ argumentLength c then some bitArgument
  else none

/-- Rows 7 and 8 of R167: the reply to a frame by its command's own ruling. -/
def State.answer (l : Link) (r : Ruling) (s : State) : State :=
  match r with
  | .argument => s.refuse l bitArgument
  | .sequence => s.refuse l bitSequence
  | .answered t data notice => t.reply l (s.replyBits (if notice then bitSequence else 0)) data

/-- A frame that has passed its check, decided (R167). A port that does not respond takes none; one that
is REPLYING ignores its bytes (R166); one that is STREAMING discards any frame but STOP (R173). DESIGN CHOICE (log
entry 2): a frame at a port held deselected is decided, and the receiver it finds, which LINK STATUS reports, is IDLE also
with an operation in flight. -/
def State.serve (c : Command) (l : Link) (args : List Byte) (rule : State → Ruling) (s : State) :
    State :=
  if s.linksRespond then
    match (s.port l).recv with
    | .replying => s
    | .streaming => s
    | .idle =>
      match s.screen c l args with
      | some bits => s.refuse l bits
      | none => s.answer l (rule s)
    | .receiving =>
      match s.screen c l args with
      | some bits => s.refuse l bits
      | none => s.answer l (rule s)
    | .busy =>
      match s.screen c l args with
      | some bits => s.refuse l bits
      | none => s.answer l (rule s)
  else s

/-- Whether an accepted command on this link carries the notice that it clears the marks (R117). -/
def State.clearsMarks (s : State) (l : Link) : Bool :=
  decide (l = .operator) && decide (s.links.marks ≠ .none)

/-- An accepted command other than MARK START, MARK END and APPLY ANNOTATION: on the operator link it
clears the annotation marks, with the notice where there were any (R117). -/
def State.accept (before : State) (l : Link) (t : State) (data : Option (List Byte)) : Ruling :=
  .answered (if l = .operator then { t with links := { t.links with marks := .none } } else t)
    data (before.clearsMarks l)

/-! ### FAILED FRAME -/

/-- A frame that fails its check, or whose code is no command, is refused unexecuted (R167, rows 1 to 3). -/
def State.failFrame (l : Link) (failure : FrameFailure) (s : State) : State :=
  if s.linksRespond then
    match (s.port l).recv with
    | .replying => s
    | .streaming => s
    | _ =>
      match failure with
      | .check => s.refuse l bitFrameCheck
      | .unknownCode _ =>
        if s.supply.power = .starting then s.refuse l bitStarting else s.refuse l bitUnknown
  else s

/-- FAILED_FRAME (R167). -/
def execFailedFrame (l : Link) (failure : FrameFailure) (s : State) :
    Host.Outcome State Fault Refusal :=
  .next (s.failFrame l failure)

/-! ### Selection (R165) -/

/-- The grant in progress of a readout that closes completes, and its result is discarded (R146). -/
def State.abandonReadoutGrant (l : Link) (s : State) : State :=
  match s.arbiter.grant with
  | some g =>
    if g.claim = .readout l then
      { s with arbiter := { s.arbiter with grant := some { g with stale := true } } }
    else s
  | none => s

/-- SELECT_DEASSERTED (R165): a frame in reception and a reply or block not yet sent are discarded, an
open readout closes and gives up its claim, and the receiver becomes IDLE. -/
def execSelectDeasserted (l : Link) (s : State) : Host.Outcome State Fault Refusal :=
  .next (if s.linksRespond then
    (s.modPort l fun p =>
      { p with selected := false, recv := .idle, frame := none, readout := none, tx := [],
               leaving := [] }).abandonReadoutGrant l
  else s.modPort l fun p => { p with selected := false })

/-- SELECT_ASSERTED (R165): the receiver becomes BUSY if an operation of the link is in flight, and
stays IDLE otherwise. -/
def execSelectAsserted (l : Link) (s : State) : Host.Outcome State Fault Refusal :=
  .next (if (s.port l).selected then s
  else if s.linksRespond then
    s.modPort l fun p =>
      { p with selected := true, recv := if p.op.isSome then .busy else .idle }
  else s.modPort l fun p => { p with selected := true })

/-! ### REPLY SENT (R166, R168, R173, R176) -/

/-- What is left to send once the reply byte and its data block have been sent. -/
def afterReply : List TxItem → List TxItem
  | [] => []
  | .reply _ :: .replyBlock _ :: rest => rest
  | .reply _ :: rest => rest
  | _ :: rest => afterReply rest

/-- The receiver state entered on leaving REPLYING (R168): STREAMING for an accepted OPEN READOUT, BUSY
while an operation of the link is in flight, IDLE otherwise. -/
def LinkPort.afterReplying (p : LinkPort) : Receiver :=
  if p.readout.isSome then .streaming
  else if p.op.isSome then .busy
  else .idle

/-- The last byte of a reply, or of a stream's closing token, has been sent. -/
def LinkPort.ownSent (p : LinkPort) : LinkPort :=
  match p.recv with
  | .replying => { p with recv := p.afterReplying, tx := afterReply p.tx }
  | .streaming =>
    match p.tx with
    | .dataFault _ :: _ => { p with recv := .idle, tx := [], readout := none }
    | .endOfStream :: _ => { p with recv := .idle, tx := [], readout := none }
    | _ => p
  | .idle => p
  | .busy => p
  | .receiving => p

/-- What is left of the things that an erase left, once a reply or a token of them has been sent; a block
ends with its own event. -/
def afterLeft : List TxItem → List TxItem
  | [] => []
  | .reply _ :: .replyBlock _ :: rest => rest
  | .reply _ :: rest => rest
  | .replyBlock _ :: rest => rest
  | .dataFault _ :: rest => rest
  | .endOfStream :: rest => rest
  | .streamBlock d :: rest => .streamBlock d :: rest

/-- The last byte of a reply or of a token has been sent: of what an erase left, as long as there is any, and
else of the port's own reply or stream. -/
def LinkPort.sent (p : LinkPort) : LinkPort :=
  match p.leaving with
  | [] => p.ownSent
  | x :: rest => { p with leaving := afterLeft (x :: rest) }

/-- REPLY_SENT (R168, R176). -/
def execReplySent (l : Link) (s : State) : Host.Outcome State Fault Refusal :=
  .next (if s.linksRespond then s.modPort l LinkPort.sent else s)

/-! ### The fill of a byte slot (R166) -/

/-- The fill byte a port sends while it has nothing to send: busy fill 0x00 while an operation is in
flight and the receiver is BUSY or RECEIVING, and 0xFF otherwise. -/
def LinkPort.fillByte (p : LinkPort) : Byte :=
  match p.recv with
  | .idle => 0xFF
  | .busy => 0x00
  | .receiving => if p.op.isSome then 0x00 else 0xFF
  | .replying => 0xFF
  | .streaming => 0xFF

/-- Fill bytes. -/
def fillBytes (n : Nat) : List Byte := List.replicate n 0xFF

/-- The bytes of one thing to send (R168, R183). Before a reply byte go one to eight fill bytes, before the data
block of a reply none to eight; which number is left open, and `fill` stands for it (log entry 21). -/
def TxItem.bytes (fill : Nat) : TxItem → List Byte
  | .reply bits => fillBytes (fill % 8 + 1) ++ [bits]
  | .replyBlock data => fillBytes (fill % 9) ++ blockBytes data
  | .streamBlock data => blockBytes data
  | .dataFault reason => [0xE1#8, reason]
  | .endOfStream => [0xE5#8]

end Sys2Proof.Machine
end

