-- ==== Sys2Proof/Machine/Annotation.lean ====
section
/-! DEFINITION. Annotations: the marks (R115 to R117), APPLY ANNOTATION and the walk of its range (R118 to
R120), its reads and rewrites (R121, R122), and the move of a contribution (R123). -/

namespace Sys2Proof.Machine

/-! ### Marks (R115, R116) -/

/-- Replaces the annotation marks. -/
def State.putMarks (m : Marks) (s : State) : State := { s with links := { s.links with marks := m } }

/-- MARK START's own decision (R115). -/
def State.markStartRuling (s : State) (args : List Byte) : Ruling :=
  if 3 < u8 args 0 ∨ u32 args 2 % 1800 ≠ 0 then .argument
  else
    match noneByte 31 (u8 args 1) with
    | none => .argument
    | some c =>
      if s.recordingOpen then
        .answered (s.putMarks (.startMarked (u8 args 0) c (u32 args 2))) none
          (decide (s.links.marks ≠ .none))
      else .sequence

/-- MARK_START (R115). -/
def execMarkStart (l : Link) (args : List Byte) (s : State) : Host.Outcome State Fault Refusal :=
  .next (s.serve .markStart l args fun t => t.markStartRuling args)

/-- The most intervals of a range (R116). -/
def rangeLimit : Nat := 336

/-- An end mark for a start mark (R116). -/
def State.endMark (s : State) (stack : Nat) (channel : Option Nat) (start last : Nat) : Ruling :=
  if last < start then .sequence
  else if rangeLimit < (last - start) / 1800 + 1 then .argument
  else .answered (s.putMarks (.bothMarked stack channel start last)) none false

/-- MARK END's own decision (R116). -/
def State.markEndRuling (s : State) (args : List Byte) : Ruling :=
  if u32 args 0 % 1800 ≠ 0 then .argument
  else if s.recordingOpen = false then .sequence
  else
    match s.links.marks with
    | .none => .sequence
    | .startMarked stack channel start => s.endMark stack channel start (u32 args 0)
    | .bothMarked stack channel start _ => s.endMark stack channel start (u32 args 0)

/-- MARK_END (R116). -/
def execMarkEnd (l : Link) (args : List Byte) (s : State) : Host.Outcome State Fault Refusal :=
  .next (s.serve .markEnd l args fun t => t.markEndRuling args)

/-! ### The walk (R119, R120) -/

/-- The map slot of an interval and a channel, where the table holds the day and the entry. -/
def slotAt (table : List ProvDay) (start c : Nat) : Option MapSlot :=
  ((findDay table (dayOf start)).bind fun p => p.entry c).bind fun e => e.map[intervalOfDay start]?

/-- Whether a channel is a candidate of an interval for ALL channels of a stack (R119). -/
def isCandidate (table : List ProvDay) (stack start c : Nat) : Bool :=
  match slotAt table start c with
  | none => false
  | some m => decide (m.state ≠ .none) && decide (m.stack = stack)

/-- The candidates of an interval (R119); an absent channel is the interval alone. -/
def candidates (table : List ProvDay) (stack : Nat) (channel : Option Nat) (start : Nat) :
    List (Option Nat) :=
  match channel with
  | some c => [some c]
  | none =>
    match (List.range 32).filter (isCandidate table stack start) with
    | [] => [none]
    | c :: rest => (c :: rest).map some

/-- What the walk finds at a candidate (R120). -/
inductive Finding where
  | refusedClosed
  | absent
  | queued
  | stored (sequence : Nat)
  deriving DecidableEq, Repr

/-- The finding of a map slot (R120). -/
def findingOf (stack : Nat) (m : MapSlot) : Finding :=
  match m.state with
  | .none => .absent
  | .notStored => .absent
  | .queued => if m.stack = stack then .queued else .absent
  | .stored q => if m.stack = stack then .stored q else .absent

/-- Whether a day is on or before the closed-through date. -/
def closedBy (closedThrough : Option Nat) (day : Nat) : Bool :=
  match closedThrough with
  | none => false
  | some d => decide (day ≤ d)

/-- What the walk finds at a candidate of an interval (R120). -/
def State.finding (s : State) (stack start : Nat) (candidate : Option Nat) : Finding :=
  if closedBy s.store.closedThrough (dayOf start) then .refusedClosed
  else
    match candidate with
    | none => .absent
    | some c =>
      match slotAt s.recorder.table start c with
      | none => .absent
      | some m => findingOf stack m

/-- The four ends of a candidate (R119). -/
inductive Count where
  | applied | refusedClosed | refusedKind | absent
  deriving DecidableEq, Repr

/-- A candidate is counted. -/
def AnnCounts.count (c : AnnCounts) : Count → AnnCounts
  | .applied => { c with applied := c.applied + 1 }
  | .refusedClosed => { c with refusedClosed := c.refusedClosed + 1 }
  | .refusedKind => { c with refusedKind := c.refusedKind + 1 }
  | .absent => { c with absent := c.absent + 1 }

/-- The candidate at hand is counted, and the walk goes on to the next. -/
def AnnOp.counted (op : AnnOp) (k : Count) : AnnOp :=
  { op with counts := op.counts.count k, todo := op.todo.tail, phase := .examine }

/-- Where a walk stops: it waits in the operation's phase, or the operation ends (R124). -/
inductive Walk where
  | waits (op : AnnOp)
  | ends (op : AnnOp) (outcome : OpOutcome) (reason : Option Reason)

/-- The outcome of a walk that has counted every candidate (R124). -/
def AnnCounts.outcome (c : AnnCounts) : OpOutcome :=
  if c.refusedClosed = 0 ∧ c.refusedKind = 0 ∧ c.absent = 0 then .done else .partly

/-- The walk from the candidate at hand (R119, R120, R124). The first argument bounds its steps. -/
def AnnOp.walk (s : State) : Nat → AnnOp → Walk
  | 0, op => .waits op
  | fuel + 1, op =>
    match op.todo with
    | [] =>
      if op.last ≤ op.interval then .ends op op.counts.outcome none
      else
        AnnOp.walk s fuel { op with
          interval := op.interval + 1800
          todo := candidates s.recorder.table op.stack op.channel (op.interval + 1800) }
    | c :: _ =>
      match s.finding op.stack op.interval c with
      | .refusedClosed => AnnOp.walk s fuel (op.counted .refusedClosed)
      | .absent => AnnOp.walk s fuel (op.counted .absent)
      | .queued =>
        if s.store.fault then .ends op .refused (some .storeFault)
        else .waits { op with phase := .waitQueued }
      | .stored q =>
        if s.store.fault then .ends op .refused (some .storeFault)
        else .waits { op with phase := .waitRead q }

/-- Enough steps for a walk: 33 for each interval that is left, and those of the interval at hand. -/
def AnnOp.fuel (op : AnnOp) : Nat := ((op.last - op.interval) / 1800 + 1) * 33 + op.todo.length + 1

/-- The operation goes on from the candidate at hand: it waits for a grant or for the queue, or ends. -/
def State.walkOn (op : AnnOp) (s : State) : State :=
  match op.walk s op.fuel with
  | .ends op' outcome reason => s.endAnnotation op' outcome reason
  | .waits op' =>
    match op'.phase with
    | .waitRead _ => (s.setAnnotation op').setWaiting .operator true
    | _ => s.setAnnotation op'

/-- An annotation of a marked range, as it begins (R118, R119). -/
def AnnOp.begin (table : List ProvDay) (stack : Nat) (channel : Option Nat) (first last : Nat)
    (kind : AnnKind) (remark : Nat) : AnnOp :=
  { stack := stack, channel := channel, first := first, last := last, kind := kind,
    remark := remark, interval := first, todo := candidates table stack channel first,
    counts := { applied := 0, refusedClosed := 0, refusedKind := 0, absent := 0 },
    phase := .examine }

/-- An accepted APPLY ANNOTATION: the marks are taken into the operation, and the walk begins (R118). -/
def State.beginAnnotation (op : AnnOp) (s : State) : State :=
  (((s.putMarks .none).beginOp .operator (.applyAnnotation op)).walkOn op).settle

/-- APPLY ANNOTATION's own decision (R118). -/
def State.annotationRuling (s : State) (args : List Byte) : Ruling :=
  match annKindOfCode (u8 args 0) with
  | none => .argument
  | some kind =>
    if s.recordingOpen = false then .sequence
    else
      match s.links.marks with
      | .none => .sequence
      | .startMarked _ _ _ => .sequence
      | .bothMarked stack channel first last =>
        .answered (s.beginAnnotation
          (.begin s.recorder.table stack channel first last kind (u8 args 1))) none false

/-- APPLY_ANNOTATION (R118). -/
def execApplyAnnotation (l : Link) (args : List Byte) (s : State) :
    Host.Outcome State Fault Refusal :=
  .next (s.serve .applyAnnotation l args fun t => t.annotationRuling args)

/-- ANNOTATION_QUEUED_WAIT_END (R120): the candidate is examined again, and waits again if its record is
still in the queue and its day provisional. -/
def execAnnotationQueuedWaitEnd (s : State) : Host.Outcome State Fault Refusal :=
  .next (match s.running, s.annotation with
  | true, some op =>
    match op.phase with
    | .waitQueued => (s.walkOn { op with phase := .examine }).settle
    | _ => s
  | _, _ => s)

/-! ### Reading (R121) -/

/-- Whether an annotation kind applies to a record (R121). -/
def AnnKind.applies (k : AnnKind) (r : IntervalRec) : Bool :=
  match k with
  | .invalidate => decide (r.origClass = .operating) || decide (r.origClass = .abnormal)
  | .startupShutdown => decide (r.origClass = .operating)
  | .abnormal => decide (r.origClass = .operating)
  | .restore => r.annotated
  | .remark => true

/-- A revision rises by one and stops at 255 (R96, R121). -/
def nextRevision (n : Nat) : Nat := min (n + 1) 255

/-- The record's new contents under a kind that applies (R121). -/
def IntervalRec.annotate (r : IntervalRec) (k : AnnKind) (remark : Nat) (exceededAtClose : Bool) :
    IntervalRec :=
  match k with
  | .invalidate =>
    { r with finalClass := r.origClass, finalValid := .invalid, exceeded := false, annotated := true,
             annKind := some .invalidate, remark := remark, revision := nextRevision r.revision }
  | .startupShutdown =>
    { r with finalClass := .notOperating, finalValid := .none, exceeded := false, annotated := true,
             annKind := some .startupShutdown, remark := remark,
             revision := nextRevision r.revision }
  | .abnormal =>
    { r with finalClass := .abnormal, finalValid := r.origValid, exceeded := false,
             annotated := true, annKind := some .abnormal, remark := remark,
             revision := nextRevision r.revision }
  | .restore =>
    { r with finalClass := r.origClass, finalValid := r.origValid, exceeded := exceededAtClose,
             annotated := false, annKind := none, remark := 0,
             revision := nextRevision r.revision }
  | .remark =>
    { r with annotated := true, annKind := some (r.annKind.getD .remark), remark := remark,
             revision := nextRevision r.revision }

/-- The exceeded-at-close mark of a record's slot (R105, R121). -/
def State.closeMark (s : State) (r : IntervalRec) : Bool :=
  ((slotAt s.recorder.table r.start r.channel).map MapSlot.exceededAtClose).getD false

/-- A read granted to the annotation: the kind is checked, and a rewrite asked for where it applies
(R121). -/
def State.annotationRead (op : AnnOp) (q : Nat) (s : State) : State :=
  match (s.store.interval.read .interval q).record? with
  | none => s.walkOn (op.counted .absent)
  | some r =>
    if op.kind.applies r then
      (s.setAnnotation { op with
        phase := .waitRewrite q r (r.annotate op.kind op.remark (s.closeMark r)) }).setWaiting
        .operator true
    else s.walkOn (op.counted .refusedKind)

/-- ANNOTATION_READ_GRANT (R121, R143). -/
def execAnnotationReadGrant (s : State) : Host.Outcome State Fault Refusal :=
  .next (match s.grantOf .annRead, s.annotation with
  | some _, some op =>
    match op.phase with
    | .waitRead q => (s.dropGrant.annotationRead op q).settle
    | _ => s.dropGrant.settle
  | _, _ => s)

/-! ### Rewriting (R122, R123, R141) -/

/-- A rewrite programs the spare image of its position (R141). -/
def State.programRewrite (q : Nat) (new : IntervalRec) (s : State) : State :=
  { s with store := { s.store with
      intervalSpare := putCell (RingName.interval.position q) (q, new) s.store.intervalSpare } }

/-- ANNOTATION_REWRITE_GRANT (R122, R141). -/
def execAnnotationRewriteGrant (s : State) : Host.Outcome State Fault Refusal :=
  .next (match s.grantOf .annRewrite, s.annotation with
  | some g, some op =>
    match op.phase with
    | .waitRewrite q old new =>
      if closedBy s.store.closedThrough (dayOf old.start) then
        (s.dropGrant.walkOn (op.counted .refusedClosed)).settle
      else ((s.programRewrite q new).startGrant g).setAnnotation { op with phase := .programming q old new }
    | _ => s.dropGrant.settle
  | _, _ => s)

/-- Takes one away where a condition holds. -/
def untick (b : Bool) (n : Nat) : Nat := if b then n - 1 else n

/-- A map slot's copy after a rewrite (R105, R123). -/
def MapSlot.refresh (new : IntervalRec) (m : MapSlot) : MapSlot :=
  { m with finalClass := new.finalClass, finalValid := new.finalValid, exceeded := new.exceeded,
           annotated := new.annotated }

/-- The maximum validated value found again from a map whose first slot is interval `i` of the day (R123). -/
def mapMaximum (day : Nat) : Nat → List MapSlot → Option (Nat × Nat) → Option (Nat × Nat)
  | _, [], best => best
  | i, m :: rest, best =>
    mapMaximum day (i + 1) rest
      (if m.state ≠ .none ∧ countsValid m.finalClass m.finalValid = true then
        match m.validated with
        | none => best
        | some v => raiseMax best v (day * 86400 + i * 1800)
      else best)

/-- The exceedances annulled, counted from a map (R104, R123). -/
def mapAnnulled (map : List MapSlot) : Nat :=
  map.countP fun m => decide (m.state ≠ .none) && m.exceededAtClose && !m.exceeded

/-- A rewritten record's contribution is moved in its day entry (R123). -/
def DayEntry.move (old new : IntervalRec) (e : DayEntry) : DayEntry :=
  let map := e.map.modify (intervalOfDay new.start) (MapSlot.refresh new)
  { e with
    nValid := tick (countsValid new.finalClass new.finalValid)
      (untick (countsValid old.finalClass old.finalValid) e.nValid)
    nInvalid := tick (countsInvalid new.finalClass new.finalValid)
      (untick (countsInvalid old.finalClass old.finalValid) e.nInvalid)
    nAbnormal := tick (decide (new.finalClass = .abnormal))
      (untick (decide (old.finalClass = .abnormal)) e.nAbnormal)
    nNotOp := tick (decide (new.finalClass = .notOperating))
      (untick (decide (old.finalClass = .notOperating)) e.nNotOp)
    sumValidated :=
      e.sumValidated
        - (if countsValid old.finalClass old.finalValid then old.validated.getD 0 else 0)
        + (if countsValid new.finalClass new.finalValid then new.validated.getD 0 else 0)
    exceedances := tick (new.exceeded && !old.exceeded)
      (untick (old.exceeded && !new.exceeded) e.exceedances)
    annulled := mapAnnulled map
    annotated := tick (new.annotated && !old.annotated)
      (untick (old.annotated && !new.annotated) e.annotated)
    maximum := mapMaximum (dayOf new.start) 0 map none
    secsAbn := e.secsAbn - (if old.finalClass = .abnormal then old.secsAbn else 0)
      + (if new.finalClass = .abnormal then new.secsAbn else 0)
    map := map }

/-- A rewritten record's contribution is moved in the table (R123). -/
def State.moveContribution (old new : IntervalRec) (s : State) : State :=
  { s with recorder := { s.recorder with
      table := modEntry (dayOf new.start) new.channel (DayEntry.move old new) s.recorder.table } }

/-- The contents of a position are replaced by a rewrite that verified, and the former image is the
position's spare one (R141). -/
def State.replaceImage (q : Nat) (old new : IntervalRec) (s : State) : State :=
  let p := RingName.interval.position q
  { s with store := { s.store with
      interval := { s.store.interval with cells := putCell p (q, new) s.store.interval.cells }
      intervalSpare := putCell p (q, old) s.store.intervalSpare } }

/-- A rewrite that has verified is counted and its contribution moved (R123). -/
def State.completeRewrite (op : AnnOp) (old new : IntervalRec) (s : State) : State :=
  (s.moveContribution old new).setAnnotation (op.counted .applied)

/-- ANNOTATION_REWRITE_COMPLETE (R123): the walk goes on, and work that waited for the rewrite may follow
(R113). -/
def execAnnotationRewriteComplete (s : State) : Host.Outcome State Fault Refusal :=
  .next (match s.running, s.annotation with
  | true, some op =>
    match op.phase with
    | .verified old new =>
      ((s.completeRewrite op old new).walkOn (op.counted .applied)).runWork.settle
    | _ => s
  | _, _ => s)

end Sys2Proof.Machine
end

