-- ==== Sys2Proof/Machine/Transfer.lean ====
section
/-! DEFINITION. The merged tables (R12) and the transfer of a stage into force (R13, R15 to R17, R31,
R52). -/

namespace Sys2Proof.Machine

/-! ### The merged tables (R12) -/

/-- Staged entries laid over entries of the same index. -/
def layOver {β : Type} (staged : List (Nat × β)) (entries : List β) : List β :=
  staged.foldl (fun es p => es.set p.1 p.2) entries

/-- The merged tables: every staged entry laid over the active entry of its index (R12). -/
def merged (active : Tables) (g : StageSet) : Tables :=
  { channels := layOver g.channels active.channels
    stackTab := layOver g.stackTab active.stackTab
    device := g.device.getD active.device }

/-! ### The change-over of the blocks (R31, R52) -/

/-- Whether a transfer makes a channel LINK: its source changes to LINK, or it returns to use as LINK
(R31). -/
def becomesLink (old new : ChannelEntry) : Bool :=
  decide (new.source = .link) && (decide (old.source ≠ .link) || (new.inUse && !old.inUse))

/-- The value slots after a transfer (R31). -/
def slotsAfter (old new : Tables) (slots : List (Option ValueSlot)) : List (Option ValueSlot) :=
  slots.mapIdx fun c v => if becomesLink (old.channel c) (new.channel c) then none else v

/-- A stack after a transfer (R52): its link signal slot takes the raw levels, with no arrival second, where
its source changes from LINES to LINK; and it has left use where its new entry is not in use, and is no LINK stack where
its new source is LINES, also if no second comes to be evaluated under that entry. DESIGN CHOICE (log entry 22): the slot of a stack out of use takes the levels too. -/
def StackUnit.changeOver (u : StackUnit) (old new : StackEntry) : StackUnit :=
  { u with
    slot := if old.source = .lines ∧ new.source = .link then some { levels := u.raw, arrival := none }
      else u.slot
    wasInUse := u.wasInUse && new.inUse
    wasLink := u.wasLink && decide (new.source = .link) }

/-- The scan unit and the stack state unit change over from one generation to the next (R14, R31, R52). -/
def State.changeOver (old new : Tables) (s : State) : State :=
  { s with
    scan := { s.scan with slots := slotsAfter old new s.scan.slots }
    stackUnits := s.stackUnits.mapIdx fun k u => u.changeOver (old.stack k) (new.stack k) }

/-- The change-over that a transfer in COMMISSIONING left to this second boundary (R13). -/
def State.finishChangeOver (s : State) : State :=
  match s.config.changeOver with
  | none => s
  | some old =>
    let t := s.changeOver old s.config.active
    { t with config := { t.config with changeOver := none } }

/-! ### Transfer (R15, R17) -/

/-- A transfer's configuration write is claimed, if it does not wait already (R15). -/
def State.claimTransfer (s : State) : State :=
  if s.arbiter.recClaims.contains .transfer then s
  else { s with arbiter := { s.arbiter with recClaims := s.arbiter.recClaims ++ [.transfer] } }

/-- The closes that a lowered correction window calls for, on a given current day (R17). -/
def State.windowLowered (old new : Tables) (today : Nat) (s : State) : State :=
  if new.device.window < old.device.window then
    s.addWork (.occasion { cause := .scheduled, range := scheduledRange today new.device.window,
                           joins := none, gov := new, closed := 0 })
  else s

/-- The new tables are in force at once in the live state, and the stage is EMPTY (R15). -/
def State.adopt (new : Tables) (s : State) : State :=
  { s with config := { s.config with active := new, stage := .emptied, transferPending := true } }

/-- Whether a transfer changes mains rejection (R17, R25). -/
def State.mainsAfter (write : EventRec → State → State) (old new : Tables) (s : State) : State :=
  if old.device.mains = new.device.mains then s else s.mainsChanged write

/-- The transfer of an APPROVED stage at a boundary, on a given current day; without one, or in FAULT,
nothing (R15, R17). `write` says how its records go to the queue. DESIGN CHOICE (log entry 18): CONFIG_TRANSFERRED comes
before the SCAN_CLOCK_UNLOCKED of a change of mains rejection. -/
def State.transferBy (write : EventRec → State → State) (boundary today : Nat) (s : State) : State :=
  if s.config.stage.state = .approved ∧ s.store.fault = false then
    let old := s.config.active
    let new := merged old s.config.stage
    let t := ((s.adopt new).changeOver old new).claimTransfer
    let t := (write (.plain boundary .configTransferred boundary) t).raiseAll flagStageChanged
    (t.mainsAfter write old new).windowLowered old new today
  else s

/-- A transfer whose records are offered to the queue at once. -/
def State.transferAt (boundary today : Nat) (s : State) : State :=
  s.transferBy State.writeEvent boundary today

end Sys2Proof.Machine
end

