-- ==== Sys2Proof/Machine/Boundaries.lean ====
section
/-! DEFINITION. The start of a second (R14, R20, R21, R29, R46), the boundaries that the counter reaches (R46,
R153), a forward step over them (R43 to R45), and boundaries that wait for the end of a committed write (R11, R13, R15,
R152, R154). -/

namespace Sys2Proof.Machine

/-! ### The sets of a second -/

/-- Of the sets of the second in progress, one handed without the other is dropped: its second is not
completed. Sets are handed in second order (R34, R56), so it is the last of its kind. -/
def State.dropUnpaired (s : State) : State :=
  { s with norm := { s.norm with
      samples := s.norm.samples.take s.norm.stackSets.length
      stackSets := s.norm.stackSets.take s.norm.samples.length } }

/-- A stack as the sampling point found it. A submission since then stays in its slot, and a limit whose
record has been written stays marked, so that no run and no year writes it twice (R57, R58). -/
def StackUnit.unsampled (now found : StackUnit) : StackUnit :=
  { found with
    slot := now.slot
    runMark := found.runMark || now.runMark
    yearMark := found.yearMark || now.yearMark }

/-- The scan unit as the self-check of the second in progress found it. -/
def State.scanBefore (s : State) : ScanUnit :=
  match s.sec.before.scan with
  | none => s.scan
  | some b =>
    { s.scan with
      faultyA := b.faultyA, faultyB := b.faultyB, broken := b.broken, linkStale := b.linkStale }

/-- The stacks as the sampling point found them. -/
def State.stacksBefore (s : State) : List StackUnit :=
  match s.sec.before.units with
  | none => s.stackUnits
  | some us => List.zipWith StackUnit.unsampled s.stackUnits us

/-- The live value buffer as the normalising found it. -/
def State.liveBefore (s : State) : Normaliser :=
  match s.sec.before.live with
  | none => s.norm
  | some b => { s.norm with liveChannels := b.channels, liveStacks := b.marks }

/-- The running averages shown with that buffer, absent once a withdrawal is complete (R79). -/
def State.runningBefore (s : State) : List (Option Nat) :=
  match s.sec.before.live with
  | none => s.recorder.running
  | some b =>
    if s.supply.mode = .withdrawn ∧ s.recorder.withdrawal = none then List.replicate 32 none
    else b.running

/-- The accumulator sets as the second found them; one that it has closed stays closed. -/
def State.setsBefore (s : State) : List AccSet :=
  match s.sec.before.sums with
  | none => s.recorder.accSets
  | some b => s.recorder.accSets.map fun a => if a.start = b.start then b else a

/-- What the blocks have made of the second in progress is undone. -/
def State.forgetSecond (s : State) : State :=
  { s with
    scan := s.scanBefore
    sec := { s.sec with before := .nothing }
    stackUnits := s.stacksBefore
    norm := s.liveBefore
    recorder := { s.recorder with running := s.runningBefore, accSets := s.setsBefore } }

/-- The sets of the second in progress that are still on their way are dropped. Sets are taken in the order
they are handed (R34, R63), so one that waits at the normaliser is the last of its kind there, and an older set of the same
second number, which a set in COMMISSIONING can leave (R42), stays. In RECORDING no number comes twice. -/
def State.dropSecond (s : State) : State :=
  { s with
    norm := { s.norm with
      samples := if s.sampleHanded then s.norm.samples.dropLast else s.norm.samples
      stackSets := if s.marksHanded then s.norm.stackSets.dropLast else s.norm.stackSets }
    recorder := { s.recorder with
      handed := s.recorder.handed.filter fun n => decide (n.second ≠ s.time.counter) } }

/-- The second in progress is skipped (R42, R43, R59): its sets are dropped, and every block stands as the
second found it. DESIGN CHOICE (log entry 12): records it has written, flags it has raised, and an interval whose last
second it was stay as they are. -/
def State.skipSecond (s : State) : State := s.dropSecond.forgetSecond

/-! ### The second (R14, R20, R46) -/

/-- A second begins in the present mode: accumulators and latches are emptied, its mode, configuration
and lock are those of this moment, and no slot before the phase is taken (R20, R21, R29, R43, R46, R151). -/
def State.beginSecond (s : State) : State :=
  { s with
    scan := { s.scan with accs := List.replicate 32 .empty, latches := 0 }
    sec := { processed := true, mode := s.supply.mode, cfg := s.config.active,
             lockHeld := decide (s.scan.synth = .locked), nextSlot := 0, slotFloor := s.time.phase,
             sampleFormed := false, sampled := false, held := none, checkWaits := none,
             sampleWaits := none, before := .nothing } }

/-- The second boundary that follows the commit of a withdrawal is the withdrawal point (R154). -/
def State.reachWithdrawalPoint (s : State) : State :=
  { s with recorder := { s.recorder with
      withdrawal := s.recorder.withdrawal.map fun w =>
        { w with point := some (w.point.getD s.time.counter) } } }

/-- The mode becomes RECORDING; the stored mode follows with the next write (R151, R153). -/
def State.enterRecording (s : State) : State :=
  { s with supply := { s.supply with mode := .recording } }

/-- The start of recording at a boundary: the transfer, the accumulator set, and the day (R153). -/
def State.startRecording (boundary today : Nat) (interrupted : Bool) (s : State) : State :=
  let t := (s.transferAt boundary today).enterRecording
  (t.openSet (.opened boundary t.config.active false interrupted)).joinDay today

/-- The interval boundary reached by the counter (R46): the transfer, and in RECORDING the opening of the
next interval; in ENTERING_SERVICE the start of recording. -/
def State.intervalBoundary (s : State) : State :=
  let b := s.time.counter
  match s.supply.mode with
  | .commissioning => s
  | .suspended => s
  | .withdrawn => s.transferAt b (dayOf b)
  | .recording =>
    let t := s.transferAt b (dayOf b)
    t.openSet (.opened b t.config.active false false)
  | .enteringService => s.startRecording b (dayOf b) false

/-- The boundaries that the counter reaches by counting, in a mode that processes seconds (R46). The
mode that decides is the one before the boundary. -/
def State.boundaries (s : State) : State :=
  let b := s.time.counter
  let t := if b % 1800 = 0 then s.intervalBoundary else s
  if b % 86400 = 0 then
    if s.supply.mode = .recording then t.dayBoundary t.config.active (dayOf b)
    else if isFirstOfYear (dayOf b) then t.clearYear (yearOfDay (dayOf b)) else t
  else t

/-- Whether recovery has already run the boundaries of the second reached (R160). -/
def State.boundariesRun (s : State) : Bool := decide (s.supply.recoveredTo = some s.time.counter)

/-- The boundaries of a second are run, unless recovery has run them. -/
def State.runBoundaries (s : State) : State := if s.boundariesRun then s else s.boundaries

/-- What recovery has run is forgotten. -/
def State.forgetRecovered (s : State) : State :=
  { s with supply := { s.supply with recoveredTo := none } }

/-! ### A forward step (R43 to R45) -/

/-- The accumulators of an interval are flagged TRUNCATED (R43, R94). -/
def State.truncate (start : Nat) (s : State) : State :=
  { s with recorder := { s.recorder with
      accSets := markSet start true false s.recorder.accSets } }

/-- A record of a step waits its turn behind the interval records that the step closes (R44, R45). -/
def State.recordLater (e : EventRec) (s : State) : State := s.addWork (.record e)

/-- The last second whose boundaries have been run: the one in progress, or the first second that a
recovery has just prepared (R160). -/
def State.boundariesTo (s : State) (second : Nat) : Nat :=
  max second (s.supply.recoveredTo.getD second)

/-- The start of the open interval: that of the newest accumulator set, or without one that of the
interval whose boundaries have been run last. -/
def State.openInterval (s : State) (second : Nat) : Nat :=
  ((s.recorder.accSets.getLast?).map AccSet.start).getD (intervalStart (s.boundariesTo second))

/-- A step from second `old` out of the open interval, in RECORDING (R44, R45). In this order the open
interval closes, the TIME_STEP record is written, the crossed day boundaries are run, and the target's interval opens, an
APPROVED stage transferring there. The records of the transfer wait with the others. -/
def State.leaveInterval (old ms : Nat) (s : State) : State :=
  let target := s.time.counter
  let reached := s.boundariesTo old
  let t := (s.addWork (.closeStepped (s.openInterval old))).recordLater
    (.plain target .timeStep old)
  let t := t.dayBoundaries t.config.active (dayOf reached + 1) (dayOf target - dayOf reached)
  let t := t.transferBy State.recordLater (intervalStart target) (dayOf target)
  (t.openSet (.opened (intervalStart target) t.config.active
    (!(decide (target % 1800 = 0) && decide (ms = 0))) false)).runWork

/-- What a forward step from second `old` to the present second does to recording (R43 to R45). -/
def State.stepRecording (old ms : Nat) (s : State) : State :=
  if s.supply.mode = .recording then
    if s.openInterval old = intervalStart s.time.counter then
      (s.truncate (intervalStart s.time.counter)).note .timeStep s.time.counter old
    else s.leaveInterval old ms
  else s.note .timeStep s.time.counter old

/-! ### Boundaries that wait for a committed write -/

/-- Whether the end of a command's write decides what a boundary that falls during it finds: whether a
stage is there to transfer (R11, R15), which tables govern (R13), and which mode holds (R152, R154). -/
def BusyCmd.decidesBoundary : BusyCmd → Bool
  | .approve => true
  | .rejectStage => true
  | .inService => true
  | .withdraw => true
  | .stageChannel _ _ => false
  | .stageStack _ _ => false
  | .stageDevice _ => false
  | .withdrawStage => false
  | .applyAnnotation _ => false
  | .commitCollection _ _ => false
  | .commitReport _ _ => false
  | .closeDays _ _ => false
  | .eraseArchive => false

/-- Whether a boundary must wait: its commit came first, and the write is still being programmed. -/
def State.boundaryWaits (s : State) : Bool := s.committed.any BusyCmd.decidesBoundary

/-- What a boundary brings about. DESIGN CHOICE (log entry 22): a set in COMMISSIONING whose target is the first
second of a year makes no year boundary. -/
def State.cross (b : HeldBoundary) (s : State) : State :=
  match b with
  | .edge => s.finishChangeOver.reachWithdrawalPoint.runBoundaries.forgetRecovered
  | .step old ms =>
    (s.finishChangeOver.stepRecording old ms).reachWithdrawalPoint.forgetRecovered
  | .set => s.finishChangeOver

/-- A boundary waits. -/
def State.hold (b : HeldBoundary) (s : State) : State :=
  { s with sec := { s.sec with held := some b } }

/-- The second in progress takes the mode and the configuration that its boundary leaves. -/
def State.governSecond (s : State) : State :=
  { s with sec := { s.sec with mode := s.supply.mode, cfg := s.config.active, held := none } }

/-- Whether a boundary that waits is an interval boundary whose transfer does not: while WITHDRAW is being
programmed, for RECORDING and WITHDRAWN alike transfer an APPROVED stage (R15, R154). -/
def State.transferMeanwhile (b : HeldBoundary) (s : State) : Bool :=
  decide (b = .edge) && decide (s.time.counter % 1800 = 0) && !s.boundariesRun &&
    decide (s.committed = some .withdraw) && decide (s.supply.mode = .recording)

/-- What of a boundary that waits is made at once: a change-over that an earlier approval left (R13, R52), and
the transfer that the write does not decide (R15, R50). -/
def State.meetMeanwhile (b : HeldBoundary) (s : State) : State :=
  let t := s.finishChangeOver
  if t.transferMeanwhile b then t.transferAt t.time.counter (dayOf t.time.counter) else t

/-- The counter has reached a new second: what its boundary brings about, now or at the end of the write
it waits for, and the second begins (R46). DESIGN CHOICE (log entry 20). -/
def State.meet (b : HeldBoundary) (s : State) : State :=
  if s.boundaryWaits then ((s.meetMeanwhile b).beginSecond).hold b else (s.cross b).beginSecond

/-- The latches and the value slots of the scan unit are replaced. -/
def State.withInputs (latches : BitVec 16) (slots : List (Option ValueSlot)) (s : State) : State :=
  { s with scan := { s.scan with latches := latches, slots := slots } }

/-- The value slots that a check of an earlier moment reads: those of that moment, but for the slots that the
boundary has emptied since (R31). A submission never leaves a slot empty. -/
def slotsOfCheck (kept now : List (Option ValueSlot)) : List (Option ValueSlot) :=
  now.mapIdx fun c v => if v.isNone then none else kept.getD c v

/-- A self-check that waited is made, on the latches and the value slots of its own moment. -/
def State.makeCheck (s : State) : State :=
  match s.sec.checkWaits with
  | none => s
  | some c =>
    ((({ s with sec := { s.sec with checkWaits := none } } : State).withInputs c.latches
      (slotsOfCheck c.slots s.scan.slots)).endSelfCheck c.lock c.readingA
      c.readingB).withInputs s.scan.latches s.scan.slots

/-- The link signal slots of the stacks are replaced, in ascending order. -/
def State.withLinkSlots (slots : List (Option LinkSlot)) (s : State) : State :=
  { s with stackUnits := s.stackUnits.mapIdx fun k u => { u with slot := slots.getD k u.slot } }

/-- The link signal slots that a sampling point of an earlier moment reads: those of that moment, but for the
slots that the boundary has filled since, which have no arrival second (R52). A command always gives one (R50). -/
def slotsOfSample (kept now : List (Option LinkSlot)) : List (Option LinkSlot) :=
  now.mapIdx fun k v => if (v.bind LinkSlot.arrival).isNone then v else kept.getD k v

/-- A sampling point that waited is made, on the link signal slots of its own moment (R51). -/
def State.makeSample (s : State) : State :=
  match s.sec.sampleWaits with
  | none => s
  | some slots =>
    ((({ s with sec := { s.sec with sampleWaits := none } } : State).withLinkSlots
      (slotsOfSample slots s.linkSlots)).sampleStacks).withLinkSlots s.linkSlots

/-- A boundary that waited is crossed, and then the self-check and the sampling point that waited for it are
made. -/
def State.passHeld (s : State) : State :=
  match s.sec.held with
  | none => s
  | some b => (s.cross b).governSecond.makeCheck.makeSample.runWork

/-- The counter and phase take a target; nothing of the slew or of the window's pulse is left. -/
def State.putTime (target ms : Nat) (s : State) : State :=
  { s with time := { s.time with
      counter := target, phase := ms, pendingSlew := 0, slewStep := 0, pulseEdge := none } }

/-- A forward step from the second in progress, which is skipped (R43 to R45). -/
def State.forwardStep (target ms : Nat) (s : State) : State :=
  let t := s.passHeld.skipSecond
  ((t.putTime target ms).raiseAll flagTime).meet (.step s.time.counter ms)

end Sys2Proof.Machine
end

