-- ==== Sys2Proof/Machine/Staging.lean ====
section
/-! DEFINITION. The stage operations: their receipt (R7 to R12), the checks of an approval (R12), their
commits (R9 to R13), and the effects their writes make when they verify (R148). -/

namespace Sys2Proof.Machine

/-! ### Acceptance of a busy operation that needs a write -/

/-- A busy operation is accepted and reaches the arbiter (R140, R169). -/
def State.acceptBusy (l : Link) (cmd : BusyCmd) (s : State) : Ruling :=
  s.accept l ((s.beginOp l cmd).claimWrite l).settle none

/-! ### Receipt (R9 to R12) -/

/-- The modes in which entries are staged, and a stage is withdrawn or approved (R9). -/
def Mode.staging : Mode → Bool
  | .commissioning => true
  | .enteringService => true
  | .recording => true
  | .suspended => false
  | .withdrawn => false

/-- Whether a STAGE command finds the mode and the stage it needs (R9). -/
def State.mayStage (s : State) : Bool :=
  s.supply.mode.staging && decide (s.config.stage.state ≠ .approved)

/-- Whether a WITHDRAW STAGE or an APPROVE finds the mode and the stage it needs (R9, R10, R12). -/
def State.mayMove (s : State) : Bool :=
  s.supply.mode.staging && decide (s.config.stage.state = .opened)

/-- STAGE_CHANNEL (R7, R9). -/
def execStageChannel (l : Link) (args : List Byte) (s : State) :
    Host.Outcome State Fault Refusal :=
  .next (s.serve .stageChannel l args fun t =>
    match readStageChannel args with
    | none => .argument
    | some p => if t.mayStage then t.acceptBusy l (.stageChannel p.1 p.2) else .sequence)

/-- STAGE_STACK (R7, R9). -/
def execStageStack (l : Link) (args : List Byte) (s : State) : Host.Outcome State Fault Refusal :=
  .next (s.serve .stageStack l args fun t =>
    match readStageStack args with
    | none => .argument
    | some p => if t.mayStage then t.acceptBusy l (.stageStack p.1 p.2) else .sequence)

/-- STAGE_DEVICE (R7, R9). -/
def execStageDevice (l : Link) (args : List Byte) (s : State) : Host.Outcome State Fault Refusal :=
  .next (s.serve .stageDevice l args fun t =>
    match readStageDevice args with
    | none => .argument
    | some d => if t.mayStage then t.acceptBusy l (.stageDevice d) else .sequence)

/-- WITHDRAW_STAGE (R10). -/
def execWithdrawStage (l : Link) (args : List Byte) (s : State) :
    Host.Outcome State Fault Refusal :=
  .next (s.serve .withdrawStage l args fun t =>
    if t.mayMove then t.acceptBusy l .withdrawStage else .sequence)

/-- APPROVE (R12). -/
def execApprove (l : Link) (args : List Byte) (s : State) : Host.Outcome State Fault Refusal :=
  .next (s.serve .approve l args fun t =>
    if t.mayMove then t.acceptBusy l .approve else .sequence)

/-- REJECT_STAGE (R11). -/
def execRejectStage (l : Link) (args : List Byte) (s : State) : Host.Outcome State Fault Refusal :=
  .next (s.serve .rejectStage l args fun t =>
    if t.config.stage.state = .empty then .sequence else t.acceptBusy l .rejectStage)

/-! ### The checks of an approval (R12) -/

/-- Whether an in-use ANALOG channel names the input of an in-use ANALOG channel of lower index. -/
def Tables.conflicts (t : Tables) (c : Nat) : Bool :=
  match (t.channel c).source with
  | .analog input =>
    t.inUse.any fun d => decide (d < c) && decide ((t.channel d).source = .analog input)
  | .link => false
  | .constant _ => false

/-- Whether a reference channel is none or not in use. -/
def Tables.missing (t : Tables) : Option Nat → Bool
  | none => true
  | some c => !(t.channel c).inUse

/-- Whether a named reference channel is of another kind or of another stack. -/
def Tables.misplaced (t : Tables) (k : Nat) (kind : Kind) : Option Nat → Bool
  | none => false
  | some c => decide ((t.channel c).kind ≠ kind) || decide ((t.channel c).stack ≠ k)

/-- Whether an in-use pollutant with an O2 reference lacks its O2 channel (R12, row 3). -/
def Tables.lacksO2 (t : Tables) (c : Nat) : Bool :=
  !(t.channel c).kind.peripheral && (t.channel c).o2Ref.isSome &&
    t.missing (t.stack (t.channel c).stack).o2Chan

/-- Whether an in-use wet pollutant lacks its H2O channel (R12, row 4). -/
def Tables.lacksH2o (t : Tables) (c : Nat) : Bool :=
  !(t.channel c).kind.peripheral && (t.channel c).wet &&
    t.missing (t.stack (t.channel c).stack).h2oChan

/-- Whether a stack names a reference channel that does not fit (R12, row 5). -/
def Tables.misreferred (t : Tables) (k : Nat) : Bool :=
  t.misplaced k .o2 (t.stack k).o2Chan || t.misplaced k .h2o (t.stack k).h2oChan ||
    t.misplaced k .flow (t.stack k).flowChan

/-- The first check of an approval that fails, with its reason and index (R12). -/
def approvalFailure (t : Tables) : Option (Reason × Nat) :=
  match t.inUse.find? t.conflicts with
  | some c => some (.inputConflict, c)
  | none =>
    match t.inUse.find? fun c => !(t.stack (t.channel c).stack).inUse with
    | some c => some (.stackNotInUse, c)
    | none =>
      match t.inUse.find? t.lacksO2 with
      | some c => some (.referenceMissing, c)
      | none =>
        match t.inUse.find? t.lacksH2o with
        | some c => some (.referenceMissing, c)
        | none =>
          match (List.range 4).find? fun k => (t.stack k).inUse && t.misreferred k with
          | some k => some (.referenceMissing, k)
          | none => none

/-! ### Commits (R9) -/

/-- The grant of an operation's write, made and not yet begun, with its link and command. -/
def State.grantedOp (s : State) : Option (Grant × Link × BusyCmd) :=
  if s.running then
    match s.arbiter.grant with
    | some g =>
      if g.begun then none
      else
        match g.claim with
        | .op l => (s.opCmd l).map fun c => (g, l, c)
        | _ => none
    | none => none
  else none

/-- A commit whose checks fail gives its grant back unused, and its operation ends REFUSED (R9). -/
def State.giveBack (l : Link) (reason : Reason) (index : Option Nat) (s : State) : State :=
  ((s.endOp l .refused (some reason) index []).dropGrant).settle

/-- A commit that checks nothing but a condition: its write begins, having programmed what it writes, or
its grant is given back. -/
def State.commit (g : Grant) (l : Link) (ok : Bool) (reason : Reason) (program : State → State)
    (s : State) : State :=
  if ok then (program s).startGrant g else s.giveBack l reason none

/-- What the write of a stage operation programs: the stage it leaves (R9, R148). -/
def State.programStage (g : StageSet) (s : State) : State :=
  s.programArea fun a => { a with stage := g }

/-- Enters a staged entry in index order, replacing one of its index (R8). -/
def stageEntry {β : Type} (i : Nat) (e : β) : List (Nat × β) → List (Nat × β)
  | [] => [(i, e)]
  | p :: rest =>
    if i < p.1 then (i, e) :: p :: rest
    else if i = p.1 then (i, e) :: rest
    else p :: stageEntry i e rest

/-- The stage set after a STAGE command (R8); other commands leave it. -/
def StageSet.enter (g : StageSet) : BusyCmd → StageSet
  | .stageChannel i e => { g with state := .opened, channels := stageEntry i e g.channels }
  | .stageStack i e => { g with state := .opened, stackTab := stageEntry i e g.stackTab }
  | .stageDevice d => { g with state := .opened, device := some d }
  | _ => g

/-- The commit of a STAGE command (R9). -/
def State.commitStage (g : Grant) (l : Link) (cmd : BusyCmd) (s : State) : State :=
  s.commit g l s.mayStage .sequence (State.programStage (s.config.stage.enter cmd))

/-- STAGE_COMMIT (R9). -/
def execStageCommit (s : State) : Host.Outcome State Fault Refusal :=
  .next (match s.grantedOp with
  | some (g, l, .stageChannel i e) => s.commitStage g l (.stageChannel i e)
  | some (g, l, .stageStack i e) => s.commitStage g l (.stageStack i e)
  | some (g, l, .stageDevice d) => s.commitStage g l (.stageDevice d)
  | _ => s)

/-- WITHDRAW_STAGE_COMMIT (R10). -/
def execWithdrawStageCommit (s : State) : Host.Outcome State Fault Refusal :=
  .next (match s.grantedOp with
  | some (g, l, .withdrawStage) =>
    s.commit g l s.mayMove .sequence (State.programStage .emptied)
  | _ => s)

/-- REJECT_STAGE_COMMIT (R11). -/
def execRejectStageCommit (s : State) : Host.Outcome State Fault Refusal :=
  .next (match s.grantedOp with
  | some (g, l, .rejectStage) =>
    s.commit g l (decide (s.config.stage.state ≠ .empty)) .sequence (State.programStage .emptied)
  | _ => s)

/-- Whether an APPROVE finds at its commit the stage and the mode it needs (R12). -/
def State.mayApprove (s : State) (l : Link) : Bool :=
  s.mayMove && (decide (l ≠ .operator) || decide (s.supply.mode = .commissioning))

/-- The stage as an approval from a link leaves it (R12). -/
def StageSet.approvedBy (g : StageSet) (l : Link) : StageSet :=
  { g with state := .approved, approver := some l }

/-- What the write of APPROVE programs: the APPROVED stage, or in COMMISSIONING the merged tables and the
EMPTY stage (R12, R13). -/
def State.programApproval (l : Link) (s : State) : State :=
  if s.supply.mode = .commissioning then
    s.programArea fun a =>
      { a with tables := merged s.config.active s.config.stage, stage := .emptied }
  else s.programStage (s.config.stage.approvedBy l)

/-- The commit of APPROVE (R12). -/
def State.commitApprove (g : Grant) (l : Link) (s : State) : State :=
  if s.mayApprove l then
    match approvalFailure (merged s.config.active s.config.stage) with
    | some (reason, index) => s.giveBack l reason (some index)
    | none => (s.programApproval l).startGrant g
  else s.giveBack l .sequence none

/-- APPROVE_COMMIT (R12, R13). -/
def execApproveCommit (s : State) : Host.Outcome State Fault Refusal :=
  .next (match s.grantedOp with
  | some (g, l, .approve) => s.commitApprove g l
  | _ => s)

/-! ### Effects made when the write verifies (R148) -/

/-- Replaces the live stage set; the image that holds it is current (R8, R148). -/
def State.putStage (g : StageSet) (s : State) : State :=
  ({ s with config := { s.config with stage := g } } : State).swapArea

/-- A STAGE command's effect (R8). -/
def State.staged (g : Grant) (l : Link) (cmd : BusyCmd) (s : State) : State :=
  let t := s.putStage (s.config.stage.enter cmd)
  if s.config.stage.state = .empty then
    (t.note .stageOpened g.second (classCode l)).raiseAll flagStageChanged
  else t

/-- WITHDRAW STAGE's effect (R10). -/
def State.stageWithdrawn (g : Grant) (s : State) : State :=
  ((s.putStage .emptied).note .stageWithdrawn g.second 0).raiseAll flagStageChanged

/-- REJECT STAGE's effect (R11). -/
def State.stageRejected (g : Grant) (s : State) : State :=
  ((s.putStage .emptied).note .stageRejected g.second
    (stageCode s.config.stage.state)).raiseAll flagStageChanged

/-- APPROVE's effect outside COMMISSIONING (R12). -/
def State.stageApproved (g : Grant) (l : Link) (s : State) : State :=
  ((s.putStage (s.config.stage.approvedBy l)).note .stageApproved g.second
    (classCode l)).raiseAll flagStageChanged

/-- The tables of an approval in COMMISSIONING go into force: the active ones at once, the blocks' at the
next second boundary (R13, R14). DESIGN CHOICE (log entry 18): two approvals within one second make one change-over, from
the first outgoing tables to the last incoming ones. -/
def State.approveNow (new : Tables) (s : State) : State :=
  ({ s with config := { s.config with
      active := new, stage := .emptied,
      changeOver := some (s.config.changeOver.getD s.config.active) } } : State).swapArea

/-- APPROVE's effect in COMMISSIONING: it transfers in the same commit (R13). -/
def State.approvedAndTransferred (g : Grant) (l : Link) (s : State) : State :=
  let new := merged s.config.active s.config.stage
  let t := s.approveNow new
  let t := (t.note .stageApproved g.second (classCode l)).note .configTransferred g.second g.second
  (t.raiseAll flagStageChanged).mainsAfter State.writeEvent s.config.active new

/-- APPROVE's effect (R12, R13). -/
def State.approved (g : Grant) (l : Link) (s : State) : State :=
  if s.supply.mode = .commissioning then s.approvedAndTransferred g l else s.stageApproved g l

end Sys2Proof.Machine
end

