-- ==== Sys2Proof/Machine/Archive.lean ====
section
/-! DEFINITION. The operations on the archive and the mode: COMMIT COLLECTION (R147), COMMIT REPORT (R131),
CLOSE DAYS at receipt (R114), IN SERVICE (R152), WITHDRAW (R154) and ERASE ARCHIVE (R156), with their commits. -/

namespace Sys2Proof.Machine

/-! ### COMMIT COLLECTION (R147) -/

/-- COMMIT COLLECTION's own decision (R147). -/
def State.collectionRuling (s : State) (l : Link) (args : List Byte) : Ruling :=
  match ringOfCode (u8 args 0) with
  | none => .argument
  | some r =>
    if u32 args 1 < (s.store.pointers r).collected ∨ (s.store.pointers r).newest < u32 args 1 then
      .argument
    else s.acceptBusy l (.commitCollection r (u32 args 1))

/-- COMMIT_COLLECTION (R147). -/
def execCommitCollection (l : Link) (args : List Byte) (s : State) :
    Host.Outcome State Fault Refusal :=
  .next (s.serve .commitCollection l args fun t => t.collectionRuling l args)

/-- The pointers after a collection commit of `n` (R147). -/
def Pointers.collect (p : Pointers) (n : Nat) : Pointers := { p with collected := max n p.collected }

/-- COLLECTION_COMMIT (R147). -/
def execCollectionCommit (s : State) : Host.Outcome State Fault Refusal :=
  .next (match s.grantedOp with
  | some (g, l, .commitCollection r n) =>
    s.commit g l (decide (n ≤ (s.store.pointers r).newest)) .argument
      (State.programArea (ConfigArea.setPointers r ((s.store.pointers r).collect n)))
  | _ => s)

/-- Whether a ring's headroom is below the mark (R136). -/
def Store.low (st : Store) (r : RingName) : Bool :=
  decide ((st.pointers r).headroom r < headroomMark)

/-- Whether the next fall of a ring's headroom raises the flag. -/
def Store.armed (st : Store) : RingName → Bool
  | .interval => st.interval.armed
  | .day => st.day.armed
  | .event => st.event.armed

/-- Sets whether the next fall of a ring's headroom raises the flag. -/
def Store.setArmed (st : Store) (r : RingName) (b : Bool) : Store :=
  match r with
  | .interval => { st with interval := { st.interval with armed := b } }
  | .day => { st with day := { st.day with armed := b } }
  | .event => { st with event := { st.event with armed := b } }

/-- A collection commit that brings the headroom back lets its next fall raise the flag again (R136). -/
def Store.rearm (st : Store) (r : RingName) : Store :=
  if st.low r then st else st.setArmed r true

/-- COMMIT COLLECTION's effect, with the headroom worked out anew (R136, R147). -/
def State.collected (l : Link) (r : RingName) (n : Nat) (s : State) : State :=
  let p := (s.store.pointers r).collect n
  let t := { s with store := (s.store.setPointers r p).rearm r }
  t.swapArea.endOp l .done none none [p.collected]

/-! ### COMMIT REPORT (R131) -/

/-- Why a COMMIT REPORT of a year is refused, if it is: no slot is named so, or it is not FINAL (R131). -/
def State.reportRefusal (s : State) (year : Nat) : Option Reason :=
  match slotOfYear s.recorder.tally year with
  | none => some .argument
  | some i => if (s.slot i).state = .final then none else some .sequence

/-- COMMIT REPORT's own decision (R131). -/
def State.reportRuling (s : State) (l : Link) (year : Nat) : Ruling :=
  if s.supply.mode = .suspended then .sequence
  else
    match s.reportRefusal year with
    | some .argument => .argument
    | some _ => .sequence
    | none => s.acceptBusy l (.commitReport year none)

/-- COMMIT_REPORT (R131). -/
def execCommitReport (l : Link) (args : List Byte) (s : State) :
    Host.Outcome State Fault Refusal :=
  .next (s.serve .commitReport l args fun t => t.reportRuling l (u16 args 0))

/-- What the write of COMMIT REPORT programs: the slot of the year, REPORTED, into its spare image (R131,
R149). -/
def State.programReport (l : Link) (year : Nat) (s : State) : State :=
  match slotOfYear s.recorder.tally year with
  | none => s
  | some i =>
    (s.programImage i { (s.slot i) with state := .reported }).setOpCmd l (.commitReport year (some i))

/-- REPORT_COMMIT (R131). -/
def execReportCommit (s : State) : Host.Outcome State Fault Refusal :=
  .next (match s.grantedOp with
  | some (g, l, .commitReport year _) =>
    s.commit g l (s.reportRefusal year).isNone ((s.reportRefusal year).getD .sequence)
      (State.programReport l year)
  | _ => s)

/-- The live slot of a committed report turns REPORTED, unless it has been reused since the commit (R131). -/
def State.reportSlot (year i : Nat) (s : State) : State :=
  if slotOfYear s.recorder.tally year = some i then
    s.modSlot i fun t => { t with state := .reported }
  else s

/-- COMMIT REPORT's effect: the image programmed at the commit is current, and the slot is REPORTED in the
live copy (R131, R149). -/
def State.reported (l : Link) (year : Nat) (slot : Option Nat) (s : State) : State :=
  match slot with
  | none => s.endOp l .done none none []
  | some i =>
    ((s.reportSlot year i).putImage i
      (s.store.tallySpare.getD i (.blank .unused none))).endOp l .done none none []

/-! ### CLOSE DAYS at receipt (R114) -/

/-- CLOSE DAYS' own decision (R114). It needs no write, so it makes no claim. -/
def State.closeDaysRuling (s : State) (l : Link) (args : List Byte) : Ruling :=
  match dayNumber (u16 args 0) (u8 args 2) (u8 args 3) with
  | none => .argument
  | some d =>
    if s.recordingOpen = false then .sequence
    else if dayOf s.time.counter ≤ d then .argument
    else s.accept l (s.beginOp l (.closeDays d false)) none

/-- CLOSE_DAYS (R114). -/
def execCloseDays (l : Link) (args : List Byte) (s : State) : Host.Outcome State Fault Refusal :=
  .next (s.serve .closeDays l args fun t => t.closeDaysRuling l args)

/-! ### IN SERVICE (R152) -/

/-- The conditions of IN SERVICE, at receipt and at commit (R152). -/
def State.mayServe (s : State) : Bool :=
  decide (s.supply.mode = .commissioning) && s.time.clockValid &&
    (s.config.active.inUse.any fun c =>
      (s.config.active.stack (s.config.active.channel c).stack).inUse) &&
    decide (s.config.stage.state = .empty)

/-- IN_SERVICE (R152). -/
def execInService (l : Link) (args : List Byte) (s : State) : Host.Outcome State Fault Refusal :=
  .next (s.serve .inService l args fun t =>
    if t.mayServe then t.acceptBusy l .inService else .sequence)

/-- What the write of a service-mode operation programs (R148, R151). -/
def State.programMode (m : Mode) (s : State) : State := s.programArea fun a => { a with mode := m }

/-- IN_SERVICE_COMMIT (R152). -/
def execInServiceCommit (s : State) : Host.Outcome State Fault Refusal :=
  .next (match s.grantedOp with
  | some (g, l, .inService) => s.commit g l s.mayServe .sequence (State.programMode .enteringService)
  | _ => s)

/-- The device mode changes, in the live state alone. -/
def State.setMode (m : Mode) (s : State) : State := { s with supply := { s.supply with mode := m } }

/-- The device mode changes; the image that holds it is current (R151). -/
def State.putMode (m : Mode) (s : State) : State := (s.setMode m).swapArea

/-- The first interval boundary after a commit whose write is being programmed: the present second where
it is one that waits for the write, else the next one (R152). DESIGN CHOICE (log entry 23): where the counter reaches
none, it is a free value. -/
def State.startBoundary (s : State) : Nat :=
  if s.sec.held = some .edge ∧ s.time.counter % 1800 = 0 then s.time.counter
  else namedBoundary s.time.counter

/-- IN SERVICE's effect (R152). -/
def State.inServiceDone (g : Grant) (l : Link) (s : State) : State :=
  ((s.putMode .enteringService).note .inService g.second s.startBoundary).endOp l .done none none []

/-! ### WITHDRAW (R154) -/

/-- WITHDRAW (R154). -/
def execWithdraw (l : Link) (args : List Byte) (s : State) : Host.Outcome State Fault Refusal :=
  .next (s.serve .withdraw l args fun t =>
    if t.supply.mode = .recording then t.acceptBusy l .withdraw else .sequence)

/-- WITHDRAW_COMMIT (R154). -/
def execWithdrawCommit (s : State) : Host.Outcome State Fault Refusal :=
  .next (match s.grantedOp with
  | some (g, l, .withdraw) =>
    s.commit g l (decide (s.supply.mode = .recording)) .sequence (State.programMode .withdrawn)
  | _ => s)

/-- A withdrawal is under way (R155). -/
def State.beginWithdrawal (s : State) : State :=
  { s with recorder := { s.recorder with
      withdrawal := some { point := none, started := false, closed := 0 } } }

/-- WITHDRAW's effect: the mode, and a withdrawal whose point is the first second boundary after the commit,
be it one that waits for this write (R154, R155). The operation goes on. -/
def State.withdrawn (s : State) : State := (s.putMode .withdrawn).beginWithdrawal

/-! ### ERASE ARCHIVE (R156) -/

/-- Whether every ring is collected. -/
def Store.allCollected (st : Store) : Bool :=
  [RingName.interval, .day, .event].all fun r =>
    decide ((st.pointers r).collected = (st.pointers r).newest)

/-- The conditions of ERASE ARCHIVE, at receipt and at its grant (R156). -/
def State.mayErase (s : State) : Bool :=
  decide (s.supply.mode = .withdrawn) && s.store.allCollected &&
    s.recorder.tally.all fun t => decide (t.state = .unused) || decide (t.state = .reported)

/-- ERASE_ARCHIVE (R156). -/
def execEraseArchive (l : Link) (args : List Byte) (s : State) :
    Host.Outcome State Fault Refusal :=
  .next (s.serve .eraseArchive l args fun t =>
    if t.mayErase then t.acceptBusy l .eraseArchive else .sequence)

/-- What each of the three writes of an erase programs: nothing beside the mark, both second tally images,
and the other image of the configuration area (R148, R149, R156). -/
def State.programErase (part : Nat) (s : State) : State :=
  match part with
  | 0 => s
  | 1 => { s with store := { s.store with tallySpare := List.replicate 2 (.blank .unused none) } }
  | _ => { s with store := { s.store with areaSpare := .factory } }

/-- ERASE_GRANT (R156). -/
def execEraseGrant (s : State) : Host.Outcome State Fault Refusal :=
  .next (match s.grantedOp with
  | some (g, l, .eraseArchive) => s.commit g l s.mayErase .sequence (State.programErase 0)
  | _ => s)

/-- Whether a thing to send goes out although the erase ended the readout: a reply, and a block. DESIGN CHOICE
(log entry 14): also a block that is formed and has not begun, because the reply of its OPEN READOUT is still to go. -/
def TxItem.outlastsErase : TxItem → Bool
  | .reply _ => true
  | .replyBlock _ => true
  | .streamBlock _ => true
  | .dataFault _ => false
  | .endOfStream => false

/-- What an open readout still sends after an erase: what outlasts it, and the data-fault token OVERTAKEN
(R156, R174). -/
def LinkPort.erasedTx (p : LinkPort) : List TxItem := p.tx.filter TxItem.outlastsErase ++ [.dataFault 0x01]

/-- A port after an erase: no readout is open, and one that was sends its end before anything else (R156,
R163, R174). DESIGN CHOICE (log entry 14): that end is the block being sent and the data-fault token, also where a STOP
was accepted and waits for the block (R173); the reply of that STOP is dropped. -/
def LinkPort.erased (p : LinkPort) : LinkPort :=
  match p.readout with
  | none => p
  | some _ => { p with readout := none, recv := .idle, tx := [], leaving := p.leaving ++ p.erasedTx }

/-- The port of the plant or the operator link after an erase: its receiver is IDLE (R163). What it was
sending goes out before anything else (log entry 14). -/
def LinkPort.erasedIdle (p : LinkPort) : LinkPort :=
  { p.erased with recv := .idle, tx := [], leaving := p.erased.leaving ++ p.erased.tx }

/-- The stack state unit after an erase (R61). -/
def State.eraseStacks (s : State) : State :=
  { s with stackUnits :=
      List.replicate 4 (.initial (yearOfDay (dayOf s.time.counter))) }

/-- The scan unit after an erase (R28), the change of mains rejection apart. -/
def State.eraseScan (s : State) : State :=
  { s with scan := { s.scan with
      accs := List.replicate 32 .empty, broken := List.replicate 32 false,
      slots := List.replicate 32 none, linkStale := List.replicate 32 none } }

/-- The recorder and the normaliser after an erase (R77, R79, R103, R126, R156). DESIGN CHOICE (log entry 14):
the sets that wait at the normaliser are dropped too. -/
def State.eraseRecorder (s : State) : State :=
  { s with
    norm := { samples := [], stackSets := [], liveChannels := List.replicate 32 none,
              liveStacks := List.replicate 4 none }
    recorder := { handed := [], accSets := [], running := List.replicate 32 none, queue := [],
                  notStored := 0, steps := 0, restarts := 0, overwritten := 0, table := [],
                  tally := List.replicate 2 (.blank .unused none), work := [],
                  withdrawal := none } }

/-- The record store and the arbiter after an erase (R133, R144). Claims of the links' own operations stay
with the operations (R147). -/
def State.eraseStore (s : State) : State :=
  { s with
    store := { fault := false, interval := .empty, day := .empty, event := .empty,
               intervalSpare := [], tally := List.replicate 2 (.blank .unused none),
               tallySpare := s.store.tallySpare, area := .factory, areaSpare := s.store.area,
               mark := false, snapshot := none, closedThrough := none }
    arbiter := { grant := none, rotation := .inspection, recClaims := [] } }

/-- The configuration unit, the mode and the ports after an erase (R6, R115, R151, R156). -/
def State.eraseRest (s : State) : State :=
  { s with
    config := { active := .factory, stage := .emptied, transferPending := false,
                changeOver := none }
    sec := { s.sec with cfg := .factory, held := none, checkWaits := none, sampleWaits := none,
                        before := .nothing }
    supply := { s.supply with mode := .commissioning, recoveredTo := none }
    links := { plant := s.links.plant.erasedIdle
               operator := s.links.operator.erasedIdle
               inspection := s.links.inspection.erased
               marks := .none } }

/-- The completion of ERASE ARCHIVE (R156). DESIGN CHOICE (log entry 14): the SCAN_CLOCK_UNLOCKED record of the
erase's own change of mains rejection is offered after the queue has been emptied, and ACQUISITION is raised with it. -/
def State.eraseComplete (l : Link) (s : State) : State :=
  let t := s.eraseStacks.eraseScan.eraseRecorder.eraseStore.eraseRest
  (t.mainsAfter State.writeEvent s.config.active .factory).endOp l .done none none []

end Sys2Proof.Machine
end

