-- ==== Sys2Proof/Machine/Plant.lean ====
section
/-! DEFINITION. The plant link's two submissions: SUBMIT VALUE (R31) and SET STACK SIGNALS (R50). -/

namespace Sys2Proof.Machine

/-- A value slot takes a submission (R31). -/
def State.submit (channel : Nat) (v : ValueSlot) (s : State) : State :=
  { s with scan := { s.scan with slots := s.scan.slots.set channel (some v) } }

/-- SUBMIT_VALUE (R31). DESIGN CHOICE (log entry 20): while a boundary waits for the write of an APPROVE, the
outgoing tables decide. -/
def execSubmitValue (l : Link) (args : List Byte) (s : State) : Host.Outcome State Fault Refusal :=
  .next (s.serve .submitValue l args fun t =>
    match boolOfCode (u8 args 5) with
    | none => .argument
    | some maintenance =>
      if 31 < u8 args 0 then .argument
      else if (t.inForce.channel (u8 args 0)).inUse = true ∧
          (t.inForce.channel (u8 args 0)).source = .link then
        t.accept l
          (t.submit (u8 args 0)
            { value := s32 args 1, maintenance := maintenance, arrival := t.time.counter }) none
      else .sequence)

/-- A link signal slot takes three levels (R50). -/
def State.signal (stack : Nat) (v : LinkSlot) (s : State) : State :=
  { s with stackUnits := s.stackUnits.modify stack fun u => { u with slot := some v } }

/-- The three levels of SET STACK SIGNALS; absent for a level other than on or off (R50, R181). -/
def readLevels (args : List Byte) : Option Signals := do
  let fire ← boolOfCode (u8 args 1)
  let feed ← boolOfCode (u8 args 2)
  let abn ← boolOfCode (u8 args 3)
  some { fire := fire, feed := feed, abn := abn }

/-- SET_STACK_SIGNALS (R50). DESIGN CHOICE (log entry 20): while a boundary waits for the write of an APPROVE,
the outgoing tables decide. -/
def execSetStackSignals (l : Link) (args : List Byte) (s : State) :
    Host.Outcome State Fault Refusal :=
  .next (s.serve .setStackSignals l args fun t =>
    match readLevels args with
    | none => .argument
    | some levels =>
      if 3 < u8 args 0 then .argument
      else if (t.inForce.stack (u8 args 0)).inUse = true ∧
          (t.inForce.stack (u8 args 0)).source = .link then
        t.accept l (t.signal (u8 args 0) { levels := levels, arrival := some t.time.counter }) none
      else .sequence)

end Sys2Proof.Machine
end

