-- ==== Sys2Proof/Machine/Formats.lean ====
section
/-! DEFINITION. The layouts of records and data blocks on the links (R181, R182, R184 to R186). -/

namespace Sys2Proof.Machine

/-! ### Codes -/

/-- Interval class codes (R181). -/
def intervalClassCode : IntervalClass → Nat
  | .operating => 1
  | .abnormal => 2
  | .notOperating => 3

/-- Validity codes (R181). -/
def validityCode : Validity → Nat
  | .none => 0
  | .valid => 1
  | .invalid => 2

/-- Day class codes (R181). -/
def dayClassCode : DayClass → Nat
  | .noOperation => 1
  | .unrecorded => 2
  | .operating => 3

/-- Close cause codes (R181). -/
def closeCauseCode : CloseCause → Nat
  | .scheduled => 1
  | .commanded => 2
  | .withdrawal => 3

/-- Event kinds in the order of their codes (R181). -/
def allEventKinds : List EventKind :=
  [.powerLoss, .restart, .snapshotLost, .timeStep, .referenceLost, .referenceRegained,
   .scanClockUnlocked, .scanClockLocked, .converterFaultBegin, .converterFaultEnd,
   .lineBreakBegin, .stageOpened, .stageApproved, .stageRejected, .stageWithdrawn,
   .configTransferred, .annotation, .daysClosedEarly, .abnormalRunLimit, .abnormalYearLimit,
   .storeFault, .yearReportUncollected, .inService, .withdrawn]

/-- Event kind codes (R181). -/
def eventKindCode (k : EventKind) : Nat := allEventKinds.idxOf k + 1

/-- Verdict codes (R181). -/
def verdictCode : Verdict → Nat
  | .good => 1
  | .saturated => 2
  | .dependency => 3
  | .maintenance => 4
  | .analyserFault => 5
  | .converterFault => 6
  | .lineBreak => 7
  | .short => 8
  | .stale => 9

/-- Stack state codes (R181). -/
def stackStateCode : StackState → Nat
  | .off => 0
  | .startup => 1
  | .operating => 2
  | .shutdown => 3
  | .abnormal => 4

/-- Slot state codes (R181). An UNUSED slot is named by no year and is never sent. -/
def tallyStateCode : TallyState → Nat
  | .unused => 0
  | .opened => 1
  | .final => 2
  | .reported => 3

/-- Reference state codes (R181). -/
def refStateCode : RefState → Nat
  | .noReference => 0
  | .tracking => 1

/-- Synthesizer state codes (R181). -/
def synthCode : Synth → Nat
  | .acquiring => 0
  | .locked => 1
  | .stopped => 2

/-- Receiver state codes (R181): IDLE or BUSY. -/
def receiverCode : Receiver → Nat
  | .busy => 1
  | _ => 0

/-- Outcome codes (R181). -/
def outcomeCode : OpOutcome → Nat
  | .inFlight => 1
  | .done => 2
  | .partly => 3
  | .refused => 4
  | .restart => 5

/-- Reason codes (R181). -/
def reasonCode : Reason → Nat
  | .sequence => 1
  | .argument => 2
  | .storeFault => 3
  | .inputConflict => 4
  | .stackNotInUse => 5
  | .referenceMissing => 6

/-- The command code of a busy operation (R183). -/
def busyCode : BusyName → Nat
  | .stageChannel => commandCode .stageChannel
  | .stageStack => commandCode .stageStack
  | .stageDevice => commandCode .stageDevice
  | .withdrawStage => commandCode .withdrawStage
  | .approve => commandCode .approve
  | .rejectStage => commandCode .rejectStage
  | .applyAnnotation => commandCode .applyAnnotation
  | .commitCollection => commandCode .commitCollection
  | .commitReport => commandCode .commitReport
  | .closeDays => commandCode .closeDays
  | .inService => commandCode .inService
  | .withdraw => commandCode .withdraw
  | .eraseArchive => commandCode .eraseArchive

/-- A flags byte from its bits, bit 0 first. -/
def flagsByte : List Bool → Nat
  | [] => 0
  | b :: rest => (if b then 1 else 0) + 2 * flagsByte rest

/-! ### Archive records (R184) -/

/-- The flags byte of an interval record (R96, R184). -/
def IntervalRec.flags (r : IntervalRec) : Nat :=
  flagsByte [r.finalValid == .valid, r.exceeded, r.truncated, r.interrupted, decide (1 ≤ r.secsSat),
             decide (1 ≤ r.secsOutcal), r.annotated, r.load.isSome]

/-- An interval record as it is delivered, 56 bytes. -/
def encodeInterval (sequence : Nat) (r : IntervalRec) : List Byte :=
  byte1 0x01 ++ bytes4 sequence ++ bytes4 r.start ++ byte1 r.channel ++ byte1 r.stack
    ++ byte1 (kindCode r.kind) ++ byte1 (intervalClassCode r.origClass)
    ++ byte1 (validityCode r.origValid) ++ byte1 (intervalClassCode r.finalClass)
    ++ byte1 (validityCode r.finalValid) ++ byte1 r.flags
    ++ byte1 ((r.annKind.map annKindCode).getD 0) ++ byte1 r.remark ++ byte1 r.revision
    ++ bytes2 r.secsRec ++ bytes2 r.secsOp ++ bytes2 r.secsAbn ++ bytes2 r.validReg
    ++ bytes2 r.secsMaint ++ bytes2 r.secsOutcal ++ bytes2 r.secsSat ++ bytes2 r.validAll
    ++ bytesOpt4 r.average ++ bytesOpt4 r.allAverage ++ bytesOpt4 r.validated
    ++ bytes8 (r.load.getD 0)

/-- A day record as it is delivered, 59 bytes. -/
def encodeDay (sequence : Nat) (r : DayRec) : List Byte :=
  byte1 0x02 ++ bytes4 sequence ++ bytes4 r.day ++ byte1 r.channel ++ byte1 r.stack
    ++ byte1 (kindCode r.kind) ++ byte1 (closeCauseCode r.cause) ++ byte1 (dayClassCode r.dayClass)
    ++ byte1 (validityCode r.validity) ++ byte1 (flagsByte [r.validity == .valid, r.exceeded])
    ++ byte1 r.dayInvalidMax ++ byte1 r.recorded ++ byte1 r.nValid ++ byte1 r.nInvalid
    ++ byte1 r.nAbnormal ++ byte1 r.nNotOp ++ byte1 r.nUnrecorded ++ byte1 r.exceedances
    ++ byte1 r.annulled ++ byte1 r.annotated ++ byte1 r.loadGaps ++ bytesOpt4 r.average
    ++ bytesOpt4 (r.maximum.map Prod.fst) ++ bytesOpt4 (r.maximum.map Prod.snd)
    ++ bytes4 r.secsAbn ++ bytes4 r.secsOutcal ++ bytes4 r.secsSat ++ bytes8 r.loadSum

/-- An event record as it is delivered, 16 bytes. -/
def encodeEvent (sequence : Nat) (r : EventRec) : List Byte :=
  byte1 0x03 ++ bytes4 sequence ++ bytes4 r.time ++ byte1 (eventKindCode r.kind)
    ++ byteOpt r.stack ++ byteOpt r.channel ++ bytes4 r.argument.toNat

/-- The readout key: stack, channel, class (R182). -/
def readoutKey (stack channel : Option Nat) (cls : Nat) : BitVec 24 :=
  BitVec.ofNat 24 (stack.getD 0xFF * 65536 + channel.getD 0xFF * 256 + cls)

/-- What a readout's read of a sequence number returns: the key and the bytes of the record (R143,
R182). -/
def Store.readRecord (st : Store) (ring : RingName) (q : Nat) :
    ReadResult (BitVec 24 × List Byte) :=
  match ring with
  | .interval =>
    (st.interval.read .interval q).map fun r =>
      (readoutKey (some r.stack) (some r.channel) (intervalClassCode r.finalClass),
        encodeInterval q r)
  | .day =>
    (st.day.read .day q).map fun r =>
      (readoutKey (some r.stack) (some r.channel) (dayClassCode r.dayClass), encodeDay q r)
  | .event =>
    (st.event.read .event q).map fun r =>
      (readoutKey r.stack r.channel (eventKindCode r.kind), encodeEvent q r)

/-! ### LINK STATUS and READ TIME (R171, R186) -/

/-- The four count fields of LINK STATUS; unused ones are 0. -/
def countFields (counts : List Nat) : List Byte :=
  bytes4 (counts.getD 0 0) ++ bytes4 (counts.getD 1 0) ++ bytes4 (counts.getD 2 0)
    ++ bytes4 (counts.getD 3 0)

/-- The last-operation result as LINK STATUS sends it. -/
def encodeResult : Option OpResult → List Byte
  | none => byte1 0 ++ byte1 0 ++ byte1 0 ++ byte1 0xFF ++ countFields []
  | some r =>
    byte1 ((r.command.map busyCode).getD 0) ++ byte1 (outcomeCode r.outcome)
      ++ byte1 ((r.reason.map reasonCode).getD 0) ++ byteOpt r.index ++ countFields r.counts

/-- The LINK STATUS block, 33 bytes. -/
def linkStatusBlock (s : State) (l : Link) : List Byte :=
  byte1 (modeCode s.supply.mode) ++ byteBool (s.supply.power == .starting)
    ++ byteBool s.time.clockValid ++ byte1 (refStateCode s.time.reference)
    ++ byte1 (synthCode s.scan.synth) ++ byteBool s.scan.faultyA ++ byteBool s.scan.faultyB
    ++ byteBool s.store.fault ++ byte1 (stageCode s.config.stage.state)
    ++ byte1 (receiverCode (s.port l).recv) ++ byteBool (s.port l).op.isSome
    ++ encodeResult (s.port l).last ++ bytes2 (s.attention.get l).pending.toNat

/-- The READ TIME block, 12 bytes. -/
def readTimeBlock (t : TimeBase) : List Byte :=
  bytes4 t.counter ++ bytes2 t.phase ++ byteBool t.clockValid ++ byte1 (refStateCode t.reference)
    ++ bytesSigned2 t.pendingSlew ++ bytes2 t.badPulses

/-! ### READ CONFIG (R18, R186) -/

/-- Entries laid out in order, each with its index. -/
def encodeIndexed {β : Type} (enc : Nat → β → List Byte) : Nat → List β → List Byte
  | _, [] => []
  | i, e :: rest => enc i e ++ encodeIndexed enc (i + 1) rest

/-- The READ CONFIG block of section ACTIVE, 1,265 bytes. -/
def activeBlock (t : Tables) : List Byte :=
  byte1 0 ++ encodeIndexed encodeChannelEntry 0 t.channels
    ++ encodeIndexed encodeStackEntry 0 t.stackTab ++ encodeDevice t.device

/-- The READ CONFIG block of section STAGE. The due transfer time is the first interval boundary after
the present time. DESIGN CHOICE (log entry 23): where the counter reaches none, it is a free value. -/
def stageBlock (g : StageSet) (counter : Nat) : List Byte :=
  byte1 1 ++ byte1 (stageCode g.state)
    ++ (if g.state = .approved then
          byte1 ((g.approver.map classCode).getD 0) ++ bytes4 (namedBoundary counter)
        else byte1 0 ++ bytes4 0xFFFFFFFF)
    ++ byte1 g.channels.length
    ++ (g.channels.flatMap fun e => encodeChannelEntry e.1 e.2)
    ++ byte1 g.stackTab.length
    ++ (g.stackTab.flatMap fun e => encodeStackEntry e.1 e.2)
    ++ (match g.device with
        | none => byteBool false
        | some d => byteBool true ++ encodeDevice d)

/-! ### READ LIVE (R177, R185) -/

/-- One channel's 26 bytes. In an empty entry only the index byte is non-zero. DESIGN CHOICE (log entry 21): the
kind and conversions bytes of a channel out of use are 0xFF, like its stack byte. -/
def encodeLiveChannel (index : Nat) (entry : Option NormChannel) (running : Option Nat) :
    List Byte :=
  match entry with
  | none => byte1 index ++ List.replicate 25 0#8
  | some e =>
    match e.value with
    | none =>
      byte1 index ++ byte1 (flagsByte [true, false, false, false, false, running.isSome])
        ++ byte1 0 ++ bytes4 e.second ++ bytesOpt4 none ++ bytesOpt4 running ++ byteOpt none
        ++ byteOpt none ++ byteOpt none ++ bytesOpt4 none ++ bytesOpt4 none
    | some v =>
      byte1 index
        ++ byte1 (flagsByte [true, true, v.outOfCal, v.saturated, v.yRef.isSome, running.isSome,
                             v.y.isSome, v.yDry.isSome])
        ++ byte1 (verdictCode v.verdict) ++ bytes4 e.second ++ bytesOpt4 v.yRef
        ++ bytesOpt4 running ++ byte1 v.stack ++ byte1 (kindCode v.kind) ++ byteOpt v.conversions
        ++ bytesOpt4 v.y ++ bytesOpt4 v.yDry

/-- One stack's 7 bytes. -/
def encodeLiveStack (index : Nat) (entry : Option NormStack) : List Byte :=
  match entry with
  | none => byte1 index ++ List.replicate 6 0#8
  | some e =>
    byte1 index ++ byte1 (flagsByte [true, e.mark.inUse, e.mark.stale])
      ++ byte1 (stackStateCode e.mark.state) ++ bytes4 e.second

/-- The READ LIVE block: an entry for each channel of the set, then four stack entries. -/
def liveBlock (s : State) (set : ChannelSet) : List Byte :=
  ((List.range 32).flatMap fun i =>
      if set.getLsbD i then
        encodeLiveChannel i ((s.norm.liveChannels.getD i none)) (s.recorder.running.getD i none)
      else [])
    ++ (List.range 4).flatMap fun i => encodeLiveStack i (s.norm.liveStacks.getD i none)

/-! ### READ TALLY (R178, R185) -/

/-- The opening of a READ TALLY block. -/
def tallyHead (t : TallySlot) (section_ : Nat) : List Byte :=
  bytes2 (t.year.getD 0) ++ byte1 (tallyStateCode t.state) ++ byte1 section_

/-- The READ TALLY block of a channel section. -/
def tallyChannelBlock (t : TallySlot) (index : Nat) : List Byte :=
  let c := t.channels.getD index .zero
  tallyHead t index ++ byteOpt (c.label.map Prod.fst)
    ++ byteOpt (c.label.map fun l => kindCode l.2)
    ++ bytes2 c.ivValid ++ bytes2 c.ivInvalid ++ bytes2 c.ivAbnormal ++ bytes2 c.ivNotOp
    ++ bytes2 c.ivUnrecorded ++ bytes2 c.ivExceedances ++ bytes2 c.dayValid ++ bytes2 c.dayInvalid
    ++ bytes2 c.dayNoOperation ++ bytes2 c.dayUnrecorded ++ bytes2 c.dayExceedances
    ++ bytes2 c.annotated ++ bytes2 c.annulled ++ bytes2 c.loadGaps
    ++ bytesOpt4 (c.maxInterval.map Prod.fst) ++ bytesOpt4 (c.maxInterval.map Prod.snd)
    ++ bytesOpt4 (c.maxDay.map Prod.fst) ++ bytesOpt4 (c.maxDay.map Prod.snd)
    ++ bytes4 c.secsOutcal ++ bytes4 c.secsSat ++ bytes8 c.load

/-- The READ TALLY block of the DEVICE section. -/
def tallyDeviceBlock (t : TallySlot) : List Byte :=
  tallyHead t 0xFF
    ++ ((List.range 4).flatMap fun i => bytes4 (t.stackAbn.getD i 0))
    ++ bytes4 t.overwritten ++ bytes4 t.notStored ++ bytes4 t.steps ++ bytes4 t.restarts
    ++ bytes4 t.lostReports

end Sys2Proof.Machine
end

