-- ==== Sys2Proof/Machine/Readout.lean ====
section
/-! DEFINITION. Readouts: OPEN READOUT (R174), the step of a readout (R175), its read grants, its blocks and
its end (R176), and STOP (R173). -/

namespace Sys2Proof.Machine

/-- The records of a full block (R176). -/
def blockRecords : Nat := 8

/-- A forming block as it is sent, where it holds a record (R176). -/
def formedBlock (forming : List (List Byte)) : List TxItem :=
  if forming = [] then [] else [.streamBlock forming.flatten]

/-- What the step for the next position decides (R175). -/
inductive ReadStep where
  | walkEnds
  | overtaken
  | claims
  deriving DecidableEq, Repr

/-- The decision of a step (R175). -/
def Readout.decide (r : Readout) (p : Pointers) : ReadStep :=
  if r.walked = r.count ∨ p.newest < r.next then .walkEnds
  else if r.next < p.oldest ∨ p.newest = 0 then .overtaken
  else .claims

/-- The readout's walk ends with a token; the forming block goes before it (R176). -/
def LinkPort.endWalk (p : LinkPort) (r : Readout) (token : TxItem) : LinkPort :=
  { p with
    readout := some { r with forming := [], waiting := false, ended := true }
    tx := p.tx ++ formedBlock r.forming ++ [token] }

/-- The data-fault token with reason OVERTAKEN (R181). -/
def overtakenToken : TxItem := .dataFault 0x01

/-- The readout takes a step (R175). -/
def LinkPort.step (p : LinkPort) (r : Readout) (ptr : Pointers) : LinkPort :=
  match r.decide ptr with
  | .walkEnds => p.endWalk r .endOfStream
  | .overtaken => p.endWalk r overtakenToken
  | .claims => { p with readout := some { r with waiting := true } }

/-- A readout as it opens (R174). -/
def Readout.opened (ring : RingName) (args : List Byte) : Readout :=
  { ring := ring, next := u32 args 1, walked := 0, count := u16 args 5,
    match3 := BitVec.ofNat 24 (u8 args 7 * 65536 + u16 args 8),
    mask3 := BitVec.ofNat 24 (u8 args 10 * 65536 + u16 args 11),
    forming := [], waiting := false, ended := false, stopping := false }

/-- An accepted OPEN READOUT takes its first step (R174, R175). -/
def State.openReadout (l : Link) (r : Readout) (s : State) : State :=
  (s.modPort l fun p => p.step r (s.store.pointers r.ring)).settle

/-- OPEN READOUT's own decision (R174). -/
def State.openRuling (s : State) (l : Link) (args : List Byte) : Ruling :=
  match ringOfCode (u8 args 0) with
  | none => .argument
  | some ring =>
    if u32 args 1 = 0 ∨ u16 args 5 = 0 then .argument
    else s.accept l (s.openReadout l (.opened ring args)) none

/-- OPEN_READOUT (R174, R175). -/
def execOpenReadout (l : Link) (args : List Byte) (s : State) : Host.Outcome State Fault Refusal :=
  .next (s.serve .openReadout l args fun t => t.openRuling l args)

/-- Whether a record's key passes a readout's filter (R174, R182). -/
def Readout.passes (r : Readout) (key : BitVec 24) : Bool := key &&& r.mask3 == r.match3 &&& r.mask3

/-- A record read for a readout's next position (R175). -/
def Readout.take (r : Readout) (key : BitVec 24) (bytes : List Byte) : Readout :=
  { r with
    walked := r.walked + 1
    next := r.next + 1
    waiting := false
    forming := if r.passes key then r.forming ++ [bytes] else r.forming }

/-- What follows a record that has been walked: a full block is sent, or the next step is taken (R175,
R176). -/
def LinkPort.walkedOn (p : LinkPort) (r : Readout) (ptr : Pointers) : LinkPort :=
  if blockRecords ≤ r.forming.length then
    { p with readout := some { r with forming := [] }, tx := p.tx ++ formedBlock r.forming }
  else p.step r ptr

/-- A read granted to a readout (R175). -/
def State.readFor (l : Link) (r : Readout) (s : State) : State :=
  match s.store.readRecord r.ring r.next with
  | .record (key, bytes) =>
    s.modPort l fun p => p.walkedOn (r.take key bytes) (s.store.pointers r.ring)
  | .other _ => s.modPort l fun p => p.endWalk r overtakenToken
  | .empty => s.modPort l fun p => p.endWalk r overtakenToken

/-- The link and the grant of a readout's read, made and not yet begun. -/
def State.grantedRead (s : State) : Option (Grant × Link) :=
  if s.running then
    match s.arbiter.grant with
    | some g =>
      if g.begun then none
      else
        match g.claim with
        | .readout l => some (g, l)
        | _ => none
    | none => none
  else none

/-- READOUT_READ_GRANT (R175). The record read for a readout that has closed is discarded (R146). -/
def execReadoutReadGrant (s : State) : Host.Outcome State Fault Refusal :=
  .next (match s.grantedRead with
  | none => s
  | some (g, l) =>
    match (s.port l).readout with
    | some r => if g.stale ∨ r.ended = true then s.dropGrant.settle else (s.dropGrant.readFor l r).settle
    | none => s.dropGrant.settle)

/-- A readout that STOP closes: one end-of-stream token, whatever token was to follow, then STOP's reply
(R173). -/
def LinkPort.stopped (p : LinkPort) : LinkPort :=
  { p with readout := none, recv := .replying, tx := [.endOfStream, .reply 0] }

/-- What a port still sends, and its readout, after a block (R173, R176): a readout stopped during the
block closes; one whose walk has ended goes on to its token; any other takes its next step. -/
def LinkPort.blockSent (p : LinkPort) (r : Readout) (rest : List TxItem) (ptr : Pointers) :
    LinkPort :=
  if r.stopping then p.stopped
  else if r.ended then { p with tx := rest }
  else { p with tx := rest }.step r ptr

/-- The last byte of a stream's block has been sent: of one that an erase left, or of the open readout's. -/
def State.sendBlock (l : Link) (s : State) : State :=
  match (s.port l).leaving with
  | .streamBlock _ :: rest => s.modPort l fun p => { p with leaving := rest }
  | _ :: _ => s
  | [] =>
    match (s.port l).recv, (s.port l).readout, (s.port l).tx with
    | .streaming, some r, .streamBlock _ :: rest =>
      s.modPort l fun p => p.blockSent r rest (s.store.pointers r.ring)
    | _, _, _ => s

/-- READOUT_BLOCK_SENT (R176). -/
def execReadoutBlockSent (l : Link) (s : State) : Host.Outcome State Fault Refusal :=
  .next (if s.linksRespond then (s.sendBlock l).settle else s)

/-! ### STOP (R173) -/

/-- A STOP decided while the port is STREAMING (R173): a block being sent is finished first; else the
readout closes. -/
def LinkPort.stop (p : LinkPort) : LinkPort :=
  match p.readout with
  | none => p
  | some r =>
    match p.tx with
    | .streamBlock _ :: _ =>
      { p with readout := some { r with forming := [], waiting := false, stopping := true } }
    | _ => p.stopped

/-- A STOP decided while the port is STREAMING, its waiting claim given up (R146, R173). A second STOP
during the same block is discarded. -/
def State.stopStream (l : Link) (s : State) : State :=
  ((s.modPort l LinkPort.stop).abandonReadoutGrant l).settle

/-- A STOP whose frame is complete while the port is STREAMING (R173): while the part is STARTING it is refused
like every request (R151, R167, row 2), its reply going out before what the stream still has to send (log entry 19). -/
def State.stopFrame (l : Link) (args : List Byte) (s : State) : State :=
  if args.length ≠ argumentLength .stop then s
  else if s.supply.power = .starting then s.refuse l bitStarting
  else s.stopStream l

/-- STOP (R173): in any other state of the receiver it is refused with SEQUENCE, or by the rows of R167
before that. -/
def execStop (l : Link) (args : List Byte) (s : State) : Host.Outcome State Fault Refusal :=
  .next (if s.linksRespond = true ∧ (s.port l).recv = .streaming then s.stopFrame l args
  else s.serve .stop l args fun _ => .sequence)

end Sys2Proof.Machine
end

