-- ==== Sys2Proof/Machine/Reads.lean ====
section
/-! DEFINITION. The requests answered at once from the part's own holdings: LINK STATUS (R171), READ TIME
(R47), READ LIVE (R177), READ EVENTS, ACKNOWLEDGE EVENTS and SET EVENT MASK (R180), READ CONFIG (R18) and READ TALLY (R178). -/

namespace Sys2Proof.Machine

/-- LINK_STATUS (R171). -/
def execLinkStatus (l : Link) (args : List Byte) (s : State) : Host.Outcome State Fault Refusal :=
  .next (s.serve .linkStatus l args fun t => t.accept l t (some (linkStatusBlock t l)))

/-- The time base as it stands at a millisecond of the second in progress. -/
def State.timeAt (s : State) (phase : Nat) : TimeBase := { s.time with phase := s.phaseNow phase }

/-- READ_TIME (R47). -/
def execReadTime (l : Link) (args : List Byte) (phase : Nat) (s : State) :
    Host.Outcome State Fault Refusal :=
  .next (s.serve .readTime l args fun t => t.accept l t (some (readTimeBlock (t.timeAt phase))))

/-- READ_LIVE (R177). -/
def execReadLive (l : Link) (args : List Byte) (s : State) : Host.Outcome State Fault Refusal :=
  .next (s.serve .readLive l args fun t =>
    t.accept l t (some (liveBlock t (BitVec.ofNat 32 (u32 args 0)))))

/-- Every pending flag is marked seen (R180). -/
def Attention.markSeen (a : Attention) : Attention := { a with seen := a.seen ||| a.pending }

/-- A link's pending flags are all marked seen (R180). -/
def State.markSeen (l : Link) (s : State) : State :=
  { s with attention := s.attention.set l (s.attention.get l).markSeen }

/-- READ_EVENTS (R180). -/
def execReadEvents (l : Link) (args : List Byte) (s : State) : Host.Outcome State Fault Refusal :=
  .next (s.serve .readEvents l args fun t =>
    t.accept l (t.markSeen l) (some (bytes2 (t.attention.get l).pending.toNat)))

/-- The flags an acknowledgement removes: those given, pending and seen (R180). -/
def Attention.removable (a : Attention) (flags : FlagSet) : FlagSet :=
  flags &&& a.pending &&& a.seen

/-- The removable flags leave the pending and the seen set (R180). -/
def Attention.acknowledge (a : Attention) (flags : FlagSet) : Attention :=
  { a with
    pending := a.pending &&& ~~~(a.removable flags)
    seen := a.seen &&& ~~~(a.removable flags) }

/-- An acknowledgement (R180). -/
def State.acknowledge (l : Link) (flags : FlagSet) (s : State) : State :=
  { s with attention := s.attention.set l ((s.attention.get l).acknowledge flags) }

/-- ACKNOWLEDGE_EVENTS (R180). -/
def execAcknowledgeEvents (l : Link) (args : List Byte) (s : State) :
    Host.Outcome State Fault Refusal :=
  .next (s.serve .acknowledgeEvents l args fun t =>
    match readFlagSet args with
    | none => .argument
    | some flags =>
      t.accept l (t.acknowledge l flags)
        (some (bytes2 ((t.attention.get l).removable flags).toNat)))

/-- The enable mask is replaced (R180). -/
def State.setMask (l : Link) (flags : FlagSet) (s : State) : State :=
  { s with attention := s.attention.set l { (s.attention.get l) with mask := flags } }

/-- SET_EVENT_MASK (R180). -/
def execSetEventMask (l : Link) (args : List Byte) (s : State) :
    Host.Outcome State Fault Refusal :=
  .next (s.serve .setEventMask l args fun t =>
    match readFlagSet args with
    | none => .argument
    | some flags => t.accept l (t.setMask l flags) none)

/-- READ_CONFIG (R18). The configuration in force for the interval that contains the present time is the
active one; in COMMISSIONING the rule returns the active tables. -/
def execReadConfig (l : Link) (args : List Byte) (s : State) : Host.Outcome State Fault Refusal :=
  .next (s.serve .readConfig l args fun t =>
    match u8 args 0 with
    | 0 => t.accept l t (some (activeBlock t.config.active))
    | 1 => t.accept l t (some (stageBlock t.config.stage t.time.counter))
    | _ => .argument)

/-- The tally slot named by a year (R178). -/
def findSlot (tally : List TallySlot) (year : Nat) : Option TallySlot :=
  tally.find? fun t => decide (t.state ≠ .unused) && decide (t.year = some year)

/-- READ_TALLY (R178). -/
def execReadTally (l : Link) (args : List Byte) (s : State) : Host.Outcome State Fault Refusal :=
  .next (s.serve .readTally l args fun t =>
    match findSlot t.recorder.tally (u16 args 0) with
    | none => .argument
    | some slot =>
      if u8 args 2 = 0xFF then t.accept l t (some (tallyDeviceBlock slot))
      else if u8 args 2 ≤ 31 then t.accept l t (some (tallyChannelBlock slot (u8 args 2)))
      else .argument)

end Sys2Proof.Machine
end

