-- ==== Sys2Proof/Machine/Recorder.lean ====
section
/-! DEFINITION. The steps of the normaliser and of the recorder: the normalising of a second (R63, R75,
R76), its accumulation (R82, R85), day closes (R107, R112), the commit of CLOSE DAYS (R114) and the work of a
withdrawal (R155). -/

namespace Sys2Proof.Machine

/-! ### The second -/

/-- A normalised set replaces the whole live value buffer (R76). -/
def State.showSecond (n : NormSet) (s : State) : State :=
  { s with norm := { s.norm with
      liveChannels := n.channels.map some, liveStacks := n.marks.map some } }

/-- A normalised set of a second that began in RECORDING is handed to the recorder, and the running
averages that READ LIVE shows with it are those that include it; any other second makes them all absent (R63, R85,
R151). -/
def State.handSecond (mode : Mode) (n : NormSet) (s : State) : State :=
  if mode = .recording then
    { s with recorder := { s.recorder with
        handed := s.recorder.handed ++ [n]
        running := runningAverages ((s.recorder.handed ++ [n]).foldl addSecond s.recorder.accSets)
          n.second } }
  else { s with recorder := { s.recorder with running := List.replicate 32 none } }

/-- The normaliser completes a second whose two sets are at hand. -/
def State.normaliseSecond (p : SampleSet) (q : StackSet) (s : State) : State :=
  let t := s.rememberLive
  let t := { t with norm := { t.norm with
    samples := t.norm.samples.tail, stackSets := t.norm.stackSets.tail } }
  (t.showSecond (normalSet p q)).handSecond p.mode (normalSet p q)

/-- NORMALISE_SECOND (R63). -/
def execNormaliseSecond (s : State) : Host.Outcome State Fault Refusal :=
  .next (match s.running, s.norm.samples, s.norm.stackSets with
  | true, p :: _, q :: _ => if p.second = q.second then s.normaliseSecond p q else s
  | _, _, _ => s)

/-- Whether the live value buffer shows a second. -/
def State.shows (s : State) (second : Nat) : Bool :=
  decide (((s.norm.liveChannels.getD 0 none).map NormChannel.second) = some second)

/-- The running averages after a second has been added, where the live value buffer still shows that
second (R85, R177). -/
def State.setRunning (n : NormSet) (sets : List AccSet) (s : State) : State :=
  if s.shows n.second then
    { s with recorder := { s.recorder with running := runningAverages sets n.second } }
  else s

/-- The recorder takes the first handed second. -/
def State.accumulateSecond (n : NormSet) (s : State) : State :=
  let t := s.rememberSums n.second (intervalStart n.second)
  let t := { t with recorder := { t.recorder with handed := t.recorder.handed.tail } }
  ((t.addHanded n).setRunning n (addSecond s.recorder.accSets n)).runWork.settle

/-- ACCUMULATE_SECOND (R82). -/
def execAccumulateSecond (s : State) : Host.Outcome State Fault Refusal :=
  .next (match s.running, s.recorder.handed with
  | true, n :: _ => s.accumulateSecond n
  | _, _ => s)

/-! ### Days -/

/-- An annotation that waits for a QUEUED slot examines its candidate again, its day having perhaps
closed (R120). -/
def State.resumeQueued (s : State) : State :=
  match s.annotation with
  | none => s
  | some op =>
    match op.phase with
    | .waitQueued => s.walkOn { op with phase := .examine }
    | _ => s

/-- DAY_CLOSE (R112): the recorder closes the oldest day of the occasion in progress. -/
def execDayClose (s : State) : Host.Outcome State Fault Refusal :=
  .next (match s.running, s.dueClose with
  | true, some (o, p, rest) => (s.closeNextDay o p rest).runWork.resumeQueued.settle
  | _, _ => s)

/-- Whether a piece of work is a close occasion. -/
def RecorderWork.isOccasion : RecorderWork → Bool
  | .occasion _ => true
  | .closeStepped _ => false
  | .record _ => false

/-- The latest provisional day up to a day. -/
def latestDay (table : List ProvDay) (day : Nat) : Option Nat :=
  ((table.filter fun p => decide (p.day ≤ day)).getLast?).map ProvDay.day

/-- The commit of CLOSE DAYS (R114). -/
def State.commitCloseDays (day : Nat) (s : State) : State :=
  if s.supply.mode ≠ .recording then s.refuseOp .inspection .sequence
  else
    match latestDay s.recorder.table day with
    | none => s.endOp .inspection .done none none [0]
    | some last =>
      ((s.note .daysClosedEarly s.time.counter last).addWork (.occasion
        { cause := .commanded, range := .through day, joins := none, gov := s.config.active,
          closed := 0 })).setOpCmd .inspection (.closeDays day true)

/-- CLOSE_DAYS_COMMIT (R114): taken up when no close occasion is in progress. -/
def execCloseDaysCommit (s : State) : Host.Outcome State Fault Refusal :=
  .next (match s.running, s.opCmd .inspection with
  | true, some (.closeDays day false) =>
    if s.recorder.work.any RecorderWork.isOccasion then s else (s.commitCloseDays day).settle
  | _, _ => s)

/-! ### Withdrawal (R155) -/

/-- Whether every second recorded before the withdrawal point has been accumulated (R155, step 1). -/
def State.allAccumulated (s : State) : Bool :=
  s.recorder.handed.isEmpty && !(s.norm.samples.any fun p => decide (p.mode = .recording)) &&
    s.recorder.work.all RecorderWork.isOccasion

/-- The intervals that a withdrawal closes, oldest first (R155, step 1). -/
def State.closeOpenSets (s : State) : State :=
  (s.recorder.accSets.map AccSet.start).foldl (fun t start => t.closeSetFlagged start true false) s

/-- The intervals of a withdrawal are closed (R155, step 1). -/
def State.startWithdrawal (w : Withdrawal) (s : State) : State :=
  { s with recorder := { s.recorder with withdrawal := some { w with started := true } } }

/-- The work of a withdrawal: the open interval closes TRUNCATED, every provisional day closes, and what
follows is done as soon as the last of them is closed (R155). -/
def State.withdrawalWork (w : Withdrawal) (s : State) : State :=
  let t := s.closeOpenSets.startWithdrawal w
  let t := t.addWork (.occasion { cause := .withdrawal, range := .every, joins := none,
                                  gov := t.config.active, closed := 0 })
  (t.drainCloses (t.recorder.table.length + 1)).resumeQueued.settle

/-- WITHDRAWAL_WORK (R155). In SUSPENDED the work waits for the recovery to resume (R159). -/
def execWithdrawalWork (s : State) : Host.Outcome State Fault Refusal :=
  .next (match s.running && decide (s.supply.mode ≠ .suspended), s.recorder.withdrawal with
  | true, some w =>
    if w.point.isSome = true ∧ w.started = false ∧ s.allAccumulated = true then s.withdrawalWork w
    else s
  | _, _ => s)

end Sys2Proof.Machine
end

