-- ==== Sys2Proof/Machine/StoreOps.lean ====
section
/-! DEFINITION. The store's writes: the grants of the recorder's claims (R15, R138, R142), overwrites (R135),
the end of a program-and-verify attempt (R139), what a write that verifies does (R134, R136, R148), and what one that
fails twice leaves (R139). -/

namespace Sys2Proof.Machine

/-! ### The recorder's grants -/

/-- The ring of a queued record; a checkpoint has none (R138). -/
def QueueItem.ring : QueueItem → Option RingName
  | .interval _ => some .interval
  | .day _ => some .day
  | .event _ => some .event
  | .checkpoint _ _ => none

/-- The sequence number that a position of a ring holds. -/
def Store.numberAt (st : Store) (r : RingName) (p : Nat) : Option Nat :=
  match r with
  | .interval => (getCell st.interval.cells p).map Prod.fst
  | .day => (getCell st.day.cells p).map Prod.fst
  | .event => (getCell st.event.cells p).map Prod.fst

/-- Empties a position of a ring. -/
def Store.dropAt (st : Store) (r : RingName) (p : Nat) : Store :=
  match r with
  | .interval => { st with interval := { st.interval with cells := dropCell p st.interval.cells } }
  | .day => { st with day := { st.day with cells := dropCell p st.day.cells } }
  | .event => { st with event := { st.event with cells := dropCell p st.event.cells } }

/-- Whether a ring holds exactly its capacity (R134). -/
def Pointers.full (p : Pointers) (r : RingName) : Bool :=
  decide (p.oldest ≠ 0) && decide (p.newest + 1 - p.oldest = r.capacity)

/-- The pointers after an overwrite: collected-through is raised to the number removed where it is below
it, and oldest rises by one (R135). -/
def Pointers.overwrite (p : Pointers) : Pointers :=
  { p with collected := max p.collected p.oldest, oldest := p.oldest + 1 }

/-- The oldest record of a ring is removed, and counted and flagged where it was uncollected (R135). -/
def State.overwrite (r : RingName) (s : State) : State :=
  let p := s.store.pointers r
  let t := { s with store :=
    (s.store.setPointers r p.overwrite).dropAt r (r.position p.oldest) }
  if p.collected < p.oldest ∧ s.store.numberAt r (r.position p.oldest) = some p.oldest then
    ({ t with recorder := { t.recorder with
        overwritten := saturate16 t.recorder.overwritten 1 } } : State).raiseAll flagCollectionDue
  else t

/-- The pointers after a ring write (R134). -/
def Pointers.written (p : Pointers) : Pointers :=
  { p with newest := p.newest + 1, oldest := if p.oldest = 0 then p.newest + 1 else p.oldest }

/-- What a queue write programs beside a record's position: the ring's new pointers into the configuration
area, or a checkpoint into the spare image of its slot (R134, R138, R149). -/
def State.programQueued (item : QueueItem) (s : State) : State :=
  match item with
  | .interval _ => s.programArea (ConfigArea.setPointers .interval s.store.interval.ptr.written)
  | .day _ => s.programArea (ConfigArea.setPointers .day s.store.day.ptr.written)
  | .event _ => s.programArea (ConfigArea.setPointers .event s.store.event.ptr.written)
  | .checkpoint i t => s.programImage i t

/-- A full ring that a queued record is to be written to is overwritten (R135). -/
def State.makeRoom (item : QueueItem) (s : State) : State :=
  match item.ring with
  | none => s
  | some r => if (s.store.pointers r).full r then s.overwrite r else s

/-- The grant of the queue claim: a full ring is overwritten before the first attempt (R135, R138). -/
def State.beginQueueWrite (g : Grant) (s : State) : State :=
  match s.recorder.queue with
  | [] => s.startGrant g
  | item :: _ => ((s.makeRoom item).programQueued item).startGrant g

/-- QUEUE_WRITE_GRANT (R138). -/
def execQueueWriteGrant (s : State) : Host.Outcome State Fault Refusal :=
  .next (match s.grantOf .queue with
  | some g => s.beginQueueWrite g
  | none => s)

/-- What a transfer's write programs: the active tables and the stage (R15, R148). -/
def State.programTransfer (s : State) : State :=
  s.programArea fun a => { a with tables := s.config.active, stage := s.config.stage }

/-- TRANSFER_WRITE_GRANT (R15). -/
def execTransferWriteGrant (s : State) : Host.Outcome State Fault Refusal :=
  .next (match s.grantOf .transfer with
  | some g => s.programTransfer.startGrant g
  | none => s)

/-- What the write of the protection word programs: the closed-through date as it stands. A further date
raises a further claim (R142). -/
def State.programProtection (s : State) : State :=
  s.programArea fun a => { a with protection := s.store.closedThrough }

/-- PROTECTION_WORD_GRANT (R142). -/
def execProtectionWordGrant (s : State) : Host.Outcome State Fault Refusal :=
  .next (match s.grantOf .protection with
  | some g => s.programProtection.startGrant g
  | none => s)

/-! ### A queue write that verifies (R134, R136, R138) -/

/-- The number a ring gives its next record (R134). -/
def Pointers.following (p : Pointers) : Nat := p.newest + 1

/-- A record is put at its position with its number, the pointers being left; or a checkpoint is its slot's
current image, and the former one the spare (R149). -/
def Store.putRecord (st : Store) (item : QueueItem) : Store :=
  match item with
  | .interval r =>
    { st with interval := { st.interval with
        cells := putCell (RingName.interval.position st.interval.ptr.following)
          (st.interval.ptr.following, r) st.interval.cells } }
  | .day r =>
    { st with day := { st.day with
        cells := putCell (RingName.day.position st.day.ptr.following)
          (st.day.ptr.following, r) st.day.cells } }
  | .event r =>
    { st with event := { st.event with
        cells := putCell (RingName.event.position st.event.ptr.following)
          (st.event.ptr.following, r) st.event.cells } }
  | .checkpoint i t =>
    { st with tally := st.tally.set i t
              tallySpare := st.tallySpare.set i (st.tally.getD i (.blank .unused none)) }

/-- Headroom is compared with the mark after a ring write (R136). -/
def State.checkHeadroom (r : RingName) (s : State) : State :=
  if s.store.low r then
    if s.store.armed r then
      ({ s with store := s.store.setArmed r false } : State).raiseAll flagCollectionDue
    else s
  else { s with store := s.store.setArmed r true }

/-- A slot that waits for its record's number takes it (R105). -/
def MapSlot.stored (q : Nat) (m : MapSlot) : MapSlot :=
  if m.state = .queued then { m with state := .stored q } else m

/-- The slot of a written record takes its number, where the record's day is still provisional (R105,
R138). -/
def markStored (r : IntervalRec) (q : Nat) (table : List ProvDay) : List ProvDay :=
  table.map fun p =>
    if p.day = dayOf r.start then
      { p with entries := p.entries.map fun e =>
          if e.channel = r.channel then
            { e with map := e.map.modify (intervalOfDay r.start) (MapSlot.stored q) }
          else e }
    else p

/-- The number of a written interval record goes back to the recorder (R105, R138). -/
def State.handBack (item : QueueItem) (q : Nat) (s : State) : State :=
  match item with
  | .interval r =>
    { s with recorder := { s.recorder with table := markStored r q s.recorder.table } }
  | .day _ => s
  | .event _ => s
  | .checkpoint _ _ => s

/-- The pointers of a ring after a write take their new values, in the live state and in the
configuration area (R134, R148). -/
def State.advanceRing (r : RingName) (s : State) : State :=
  ({ s with store := s.store.setPointers r (s.store.pointers r).written } : State).swapArea

/-- The head record leaves the queue (R98). -/
def State.dequeue (s : State) : State :=
  { s with recorder := { s.recorder with queue := s.recorder.queue.tail } }

/-- The head record has been written (R138). -/
def State.written (item : QueueItem) (s : State) : State :=
  let t := { s with store := s.store.putRecord item }.dequeue
  match item.ring with
  | none => t
  | some r =>
    ((t.advanceRing r).handBack item (s.store.pointers r).following).checkHeadroom r

/-! ### Writes that verify -/

/-- The effect of a link operation whose write has verified, and its end (R148, R169). -/
def State.operationWritten (g : Grant) (l : Link) (cmd : BusyCmd) (s : State) : State :=
  match cmd with
  | .stageChannel _ _ => (s.staged g l cmd).endOp l .done none none []
  | .stageStack _ _ => (s.staged g l cmd).endOp l .done none none []
  | .stageDevice _ => (s.staged g l cmd).endOp l .done none none []
  | .withdrawStage => (s.stageWithdrawn g).endOp l .done none none []
  | .approve => (s.approved g l).endOp l .done none none []
  | .rejectStage => (s.stageRejected g).endOp l .done none none []
  | .applyAnnotation _ => s
  | .commitCollection r n => s.collected l r n
  | .commitReport year slot => s.reported l year slot
  | .closeDays _ _ => s
  | .inService => s.inServiceDone g l
  | .withdraw => s.withdrawn
  | .eraseArchive => s.eraseComplete l

/-- A transfer's configuration write has verified (R15, R148). -/
def State.transferWritten (s : State) : State :=
  ({ s with config := { s.config with transferPending := false } } : State).swapArea

/-- The protection word has verified (R142, R148). -/
def State.protectionWritten (s : State) : State := s.swapArea

/-- A rewrite has verified: the new image is current (R141). -/
def State.rewriteWritten (s : State) : State :=
  match s.annotation with
  | none => s
  | some op =>
    match op.phase with
    | .programming q old new =>
      (s.replaceImage q old new).setAnnotation { op with phase := .verified old new }
    | _ => s

/-- The grant goes on with the next of the writes made within it. -/
def State.nextPart (g : Grant) (failedOnce : Bool) (s : State) : State :=
  { s with arbiter := { s.arbiter with
      grant := some { g with part := g.part + 1, failedOnce := failedOnce } } }

/-- Whether a command is the erase, whose grant makes three writes (R156). -/
def BusyCmd.isErase : BusyCmd → Bool
  | .eraseArchive => true
  | _ => false

/-- The first or second write of an erase has verified: the mark is cleared, or both tally images are
UNUSED (R156). -/
def State.erasePart (part : Nat) (s : State) : State :=
  if part = 0 then { s with store := { s.store with mark := false } }
  else { s with store := { s.store with
      tally := List.replicate 2 (.blank .unused none), tallySpare := s.store.tally } }

/-- A link operation's write has verified. A boundary that waited for it is crossed. -/
def State.opWritten (g : Grant) (l : Link) (s : State) : State :=
  match s.opCmd l with
  | none => s.dropGrant
  | some cmd =>
    if cmd.isErase = true ∧ g.part < 2 then ((s.erasePart g.part).programErase (g.part + 1)).nextPart g false
    else (s.operationWritten g l cmd).dropGrant.passHeld

/-- A write has verified (R139, R148). -/
def State.writeVerified (g : Grant) (s : State) : State :=
  match g.claim with
  | .queue =>
    match s.recorder.queue with
    | [] => s.dropGrant
    | item :: _ => (s.written item).dropGrant
  | .transfer => s.transferWritten.dropGrant
  | .protection => s.protectionWritten.dropGrant
  | .annRewrite => s.rewriteWritten.dropGrant
  | .op l => s.opWritten g l
  | .annRead => s.dropGrant
  | .readout _ => s.dropGrant

/-! ### Writes that fail twice (R139) -/

/-- The area code of a ring (R139). -/
def RingName.area : RingName → Nat
  | .interval => 1
  | .day => 2
  | .event => 3

/-- The argument of a failure in the configuration area (R139). -/
def areaFailure : Word := faultArgument 5 0

/-- A ring write failed twice: its position is left empty, or holds the record's image where only the
pointers failed (R134, R139). -/
def State.ringFailed (g : Grant) (item : QueueItem) (r : RingName) (s : State) : State :=
  let p := r.position (s.store.pointers r).following
  if g.part = 0 then
    ({ s with store := s.store.dropAt r p } : State).enterFault (faultArgument r.area p)
  else ({ s with store := s.store.putRecord item } : State).enterFault areaFailure

/-- The queue's head failed twice; it stays at the head (R139). -/
def State.queueFailed (g : Grant) (item : QueueItem) (s : State) : State :=
  match item with
  | .checkpoint i _ => s.enterFault (faultArgument 4 i)
  | .interval _ => s.ringFailed g item .interval
  | .day _ => s.ringFailed g item .day
  | .event _ => s.ringFailed g item .event

/-- The argument of the failure of a link operation's write (R139, R156). -/
def State.opFailure (g : Grant) (cmd : BusyCmd) (s : State) : Word × State :=
  match cmd with
  | .commitReport _ slot => (faultArgument 4 (slot.getD 0), s)
  | .eraseArchive =>
    if g.part = 0 then (Config.retentionFaultArgument s.draw.1, s.draw.2)
    else if g.part = 1 then (faultArgument 4 (Config.eraseFailedImage s.draw.1 % 2), s.draw.2)
    else (areaFailure, s)
  | _ => (areaFailure, s)

/-- A link operation's write failed twice: the store enters FAULT, the operation ends REFUSED, and a
boundary that waited for the write is crossed (R139, R148). -/
def State.opFailed (g : Grant) (l : Link) (s : State) : State :=
  match s.opCmd l with
  | none => s.dropGrant
  | some cmd =>
    (((s.opFailure g cmd).2.enterFault (s.opFailure g cmd).1).refuseOp l .storeFault).passHeld

/-- The position whose rewrite failed. -/
def State.rewritePosition (s : State) : Nat :=
  match s.annotation.map AnnOp.phase with
  | some (.programming q _ _) => RingName.interval.position q
  | _ => 0

/-- A second attempt has failed: the write is not made, and the store enters FAULT (R139). -/
def State.writeFailed (g : Grant) (s : State) : State :=
  match g.claim with
  | .queue =>
    match s.recorder.queue with
    | [] => s.dropGrant
    | item :: _ => s.queueFailed g item
  | .transfer => s.enterFault areaFailure
  | .protection => s.enterFault areaFailure
  | .annRewrite => s.enterFault (faultArgument 1 s.rewritePosition)
  | .op l => s.opFailed g l
  | .annRead => s.dropGrant
  | .readout _ => s.dropGrant

/-! ### WRITE ATTEMPT COMPLETE (R139) -/

/-- A first attempt has failed: the place is erased and programmed again within the grant (R139). -/
def State.retry (g : Grant) (s : State) : State :=
  { s with arbiter := { s.arbiter with grant := some { g with failedOnce := true } } }

/-- Whether the write being programmed is a ring record, whose pointers verify with it (R134). -/
def State.writesRing (g : Grant) (s : State) : Bool :=
  decide (g.claim = .queue) && decide (g.part = 0) &&
    ((s.recorder.queue.head?).bind QueueItem.ring).isSome

/-- An attempt that failed: the first is followed by a second, the second puts the store in FAULT. -/
def State.attemptFailed (g : Grant) (s : State) : State :=
  if g.failedOnce then s.writeFailed g else s.retry g

/-- The end of an attempt of a grant whose write has begun. -/
def State.attemptEnds (g : Grant) (a : Attempt) (s : State) : State :=
  match a with
  | .verified => s.writeVerified g
  | .failed => s.attemptFailed g
  | .pointersFailed => if s.writesRing g then s.nextPart g true else s.attemptFailed g

/-- The grant whose write is being programmed. -/
def State.programming (s : State) : Option Grant := s.arbiter.grant.filter fun g => g.begun

/-- WRITE_ATTEMPT_COMPLETE (R139). -/
def execWriteAttemptComplete (a : Attempt) (s : State) : Host.Outcome State Fault Refusal :=
  .next (match s.running, s.programming with
  | true, some g => (s.attemptEnds g a).settle
  | _, _ => s)

end Sys2Proof.Machine
end

