-- ==== Sys2Proof/Machine/Snapshot.lean ====
section
/-! DEFINITION. The retention snapshot: its causes (R157), what happens at its start (R28, R77, R78, R139,
R146, R179), what it holds (R158), the end of its writing (R150), and the loss of the backup supply (R37). -/

namespace Sys2Proof.Machine

/-! ### The grant in progress (R139, R146, R157) -/

/-- The next attempt of a list that says how attempts turn out; beyond the list they verify. -/
def nextAttempt (attempts : List Attempt) : Attempt := attempts.headD .verified

/-- The write of a begun grant runs to its end; the first argument bounds its attempts. -/
def State.finishWrite : Nat → List Attempt → State → List Attempt × State
  | 0, attempts, s => (attempts, s)
  | fuel + 1, attempts, s =>
    match s.programming with
    | none => (attempts, s)
    | some g => State.finishWrite fuel attempts.tail (s.attemptEnds g (nextAttempt attempts))

/-- The most attempts of one grant: the three writes of an erase, each twice (R139, R156). -/
def mostAttempts : Nat := 6

/-- The grant in progress runs to its end. One that has not begun is given up with its claim (R146). -/
def State.finishGrant (attempts : List Attempt) (s : State) : List Attempt × State :=
  let p := s.finishWrite mostAttempts attempts
  (p.1, p.2.dropGrant)

/-- A pending transfer write is made where the store is READY (R15, R157). -/
def State.finishTransfer (attempts : List Attempt) (s : State) : State :=
  if s.config.transferPending = true ∧ s.store.fault = false then
    if nextAttempt attempts = .verified ∨ nextAttempt attempts.tail = .verified then
      s.programTransfer.transferWritten
    else s.programTransfer.enterFault areaFailure
  else s

/-- A rewrite that has verified moves its contribution before the snapshot is taken (R122). -/
def State.finishRewrite (s : State) : State :=
  match s.annotation with
  | none => s
  | some op =>
    match op.phase with
    | .verified old new => s.completeRewrite op old new
    | _ => s

/-! ### Recorder work (R78, R157) -/

/-- The normaliser abandons the seconds it holds, and the live value buffer and the running averages are
emptied (R77, R78, R79). -/
def State.abandonSeconds (s : State) : State :=
  { s with
    norm := { samples := [], stackSets := [], liveChannels := List.replicate 32 none,
              liveStacks := List.replicate 4 none }
    recorder := { s.recorder with running := List.replicate 32 none } }

/-- The seconds handed to the recorder are accumulated (R78). -/
def State.accumulateHanded (s : State) : State :=
  s.recorder.handed.foldl (fun t n => t.addHanded n)
    { s with recorder := { s.recorder with handed := [] } }

/-- Recorder work that has begun is completed, and days not yet begun stay provisional (R157). -/
def State.finishWork (s : State) : State :=
  let t := s.abandonSeconds.accumulateHanded.runWork
  { t with recorder := { t.recorder with work := [] } }

/-! ### What the snapshot holds (R158) -/

/-- What a snapshot holds of an operation in flight. -/
def LinkPort.opSnapshot (p : LinkPort) : Option OpSnapshot :=
  p.op.map fun o => { command := o.cmd.name, counts := o.cmd.counts }

/-- The operations in flight of the three links. -/
def Links.opSnapshots (u : Links) : List (Option OpSnapshot) :=
  [u.plant.opSnapshot, u.operator.opSnapshot, u.inspection.opSnapshot]

/-- Whether a snapshot ends a link's operation: one still in flight when everything else has ended, and
one that ended with the grant in progress or with recorder work. In a store that entered FAULT with the grant, or for one
that a failed transfer write has refused, the operation has ended REFUSED before (R9, R139, R140, R157). -/
def endedOp (grantFault lateFault : Bool) (before granted after : Option OpSnapshot) :
    Option OpSnapshot :=
  if after.isSome then after
  else if grantFault || (granted.isSome && lateFault) then none
  else before

/-- The operations that a snapshot ends, link by link. -/
def endedOps (grantFault lateFault : Bool) (before granted after : List (Option OpSnapshot)) :
    List (Option OpSnapshot) :=
  List.zipWith (fun b (p : Option OpSnapshot × Option OpSnapshot) =>
    endedOp grantFault lateFault b p.1 p.2) before (granted.zip after)

/-- The withdrawal as a snapshot holds it, with the second it keeps as its point where none has been
reached (R155, R158). -/
def Withdrawal.kept (w : Withdrawal) (counter : Nat) : Withdrawal :=
  { w with point := some (w.point.getD (counter + 1)), started := false }

/-- The snapshot (R158). -/
def State.capture (s : State) (cause : SnapCause) (ops : List (Option OpSnapshot)) : Snapshot :=
  { second := s.time.counter
    cause := cause
    mode := s.supply.mode
    withdrawal := s.recorder.withdrawal.map fun w => w.kept s.time.counter
    accSets := s.recorder.accSets
    table := s.recorder.table
    queue := s.recorder.queue
    notStored := s.recorder.notStored
    steps := s.recorder.steps
    restarts := s.recorder.restarts
    overwritten := s.recorder.overwritten
    tally := s.recorder.tally
    closedThrough := s.store.closedThrough
    interval := s.store.interval.ptr
    day := s.store.day.ptr
    event := s.store.event.ptr
    stackUnits := s.stackUnits
    ops := ops
    tables :=
      if s.config.transferPending then some (s.config.active, s.config.stage) else none }

/-! ### The start of a snapshot (R157) -/

/-- The synthesizer stops, and the second in progress forms no sample (R28). -/
def State.stopScan (s : State) : State :=
  { s with
    scan := { s.scan with synth := .stopped }
    sec := { s.sec with processed := false, lockHeld := false } }

/-- The result RESTART of a link (R172). -/
def restartResult (o : Option OpSnapshot) : OpResult :=
  { command := o.map OpSnapshot.command, outcome := .restart, reason := none, index := none,
    counts := (o.map OpSnapshot.counts).getD [] }

/-- A port whose operation ends with RESTART, where it has one (R169). -/
def LinkPort.cutShort (p : LinkPort) (o : Option OpSnapshot) : LinkPort :=
  match o with
  | none => p
  | some x => { p with op := none, last := some (restartResult (some x)) }

/-- A port at the start of a snapshot: its operation has ended with RESTART, its readout and its claims are
gone, and it sends nothing more (R146, R157, R163, R169, R174). -/
def LinkPort.silenced (p : LinkPort) : LinkPort :=
  { p.cutShort p.opSnapshot with
    recv := .idle, frame := none, readout := none, tx := [], leaving := [] }

/-- Pending and seen flags are emptied; the mask stays (R179). -/
def Attention.emptied (a : Attention) : Attention := { a with pending := 0, seen := 0 }

/-- The links stop responding, their claims are dropped, and their flags are emptied (R146, R157, R179). -/
def State.silence (s : State) : State :=
  { s with
    links := { s.links with
      plant := s.links.plant.silenced
      operator := s.links.operator.silenced
      inspection := s.links.inspection.silenced }
    arbiter := { s.arbiter with grant := none, recClaims := [] }
    attention := { s.attention with
      plant := s.attention.plant.emptied
      operator := s.attention.operator.emptied
      inspection := s.attention.inspection.emptied } }

/-- The operations that a snapshot ends have ended with RESTART, those that the last grant completed among
them (R157, R169; log entry 4). -/
def State.cutShort (ops : List (Option OpSnapshot)) (s : State) : State :=
  { s with links := { s.links with
      plant := s.links.plant.cutShort (ops.getD 0 none)
      operator := s.links.operator.cutShort (ops.getD 1 none)
      inspection := s.links.inspection.cutShort (ops.getD 2 none) } }

/-- The snapshot is being written: the mark is cleared first (R150). -/
def State.beginWriting (p : Snapshot) (s : State) : State :=
  { s with
    supply := { s.supply with power := .snapshotting, taking := some p, recoveredTo := none }
    store := { s.store with mark := false } }

/-- For PFAIL, a POWER_LOSS record is offered to the queue (R157). -/
def State.notePowerLoss (cause : SnapCause) (s : State) : State :=
  match cause with
  | .pfail => s.note .powerLoss s.time.counter 0
  | .rstn => s
  | .restart => s

/-- What ends after the grant in progress and before a snapshot is taken: a rewrite, a pending transfer
write, and recorder work that has begun (R157); and a change-over left to the next second boundary is made, so that the
snapshot holds what it leaves (R13, R52). -/
def State.windUp (attempts : List Attempt) (s : State) : State :=
  (s.finishRewrite.finishTransfer attempts).finishWork.finishChangeOver

/-- The start of a snapshot (R157). -/
def State.startSnapshot (cause : SnapCause) (attempts : List Attempt) (s : State) : State :=
  let g := s.finishGrant attempts
  let t := (g.2.windUp g.1).notePowerLoss cause
  let ops := endedOps g.2.store.fault t.store.fault s.links.opSnapshots g.2.links.opSnapshots
    t.links.opSnapshots
  ((t.abandonSeconds.stopScan.silence).cutShort ops).beginWriting (t.capture cause ops)

/-- The part is in the halt (R157). -/
def State.enterHalt (s : State) : State :=
  { s with supply := { s.supply with power := .halt, taking := none } }

/-- The part halts at once, with no snapshot (R157, R159). -/
def State.halt (s : State) : State := s.silence.enterHalt

/-- A cause of a snapshot (R157): in SUSPENDED and in STARTING it halts the part, and during a snapshot or
the halt it does nothing. -/
def State.takeCause (cause : SnapCause) (attempts : List Attempt) (s : State) : State :=
  match s.supply.power with
  | .running =>
    if s.supply.mode = .suspended then s.halt else s.startSnapshot cause attempts
  | .starting => s.halt
  | .snapshotting => s
  | .halt => s

/-- PFAIL_ACTIVE (R157). -/
def execPfailActive (attempts : List Attempt) (s : State) : Host.Outcome State Fault Refusal :=
  .next (({ s with supply := { s.supply with pfail := true } } : State).takeCause .pfail attempts)

/-- RSTN_ACTIVE (R157). -/
def execRstnActive (attempts : List Attempt) (s : State) : Host.Outcome State Fault Refusal :=
  .next (({ s with supply := { s.supply with rstn := true } } : State).takeCause .rstn attempts)

/-- Whether a frame of a command reaches row 7 of R167. -/
def State.reaches (s : State) (c : Command) (l : Link) (args : List Byte) : Bool :=
  s.linksRespond && decide ((s.port l).recv ≠ .replying) &&
    decide ((s.port l).recv ≠ .streaming) && (s.screen c l args).isNone

/-- RESTART (R157): its reply is sent, and the snapshot begins. -/
def execRestart (l : Link) (args : List Byte) (attempts : List Attempt) (s : State) :
    Host.Outcome State Fault Refusal :=
  let t := s.serve .restart l args fun t => .answered t none false
  .next (if s.reaches .restart l args then t.takeCause .restart attempts else t)

/-! ### The end of the writing (R150, R158) -/

/-- The snapshot's mark has verified (R150). -/
def State.keepSnapshot (s : State) : State :=
  { s with store := { s.store with mark := s.supply.taking.isSome, snapshot := s.supply.taking } }

/-- A part of the snapshot failed twice: a store failure like any other, the mark being absent (R139, R150,
R158). DESIGN CHOICE (log entry 9): in a store already in FAULT it writes its record and raises its flag too. -/
def State.failSnapshot (s : State) : State :=
  let t := { s.draw.2 with store := { s.store with fault := true, mark := false } }
  (t.writeEvent { time := s.time.counter, kind := .storeFault, stack := none, channel := none,
                  argument := Config.retentionFaultArgument s.draw.1 }).raiseAll flagStore

/-- The writing of the snapshot has ended in one of its three ways. -/
def State.endWriting (outcome : SnapshotEnd) (s : State) : State :=
  match outcome with
  | .complete => s.keepSnapshot
  | .cutOff => { s with store := { s.store with mark := false } }
  | .failedTwice => s.failSnapshot

/-- SNAPSHOT_WRITE_END (R150): the part is in the halt. -/
def execSnapshotWriteEnd (outcome : SnapshotEnd) (s : State) : Host.Outcome State Fault Refusal :=
  .next (match s.supply.power with
  | .snapshotting => (s.endWriting outcome).enterHalt
  | .running => s
  | .starting => s
  | .halt => s)

/-! ### The backup domain (R37) -/

/-- BACKUP_SUPPLY_LOSS (R37): the set mark is lost, and a loss will be reported at the end of the halt. -/
def execBackupSupplyLoss (s : State) : Host.Outcome State Fault Refusal :=
  .next (match s.supply.power with
  | .halt =>
    { s with
      time := { s.time with setMark := false }
      supply := { s.supply with backupLost := true } }
  | .running => s
  | .starting => s
  | .snapshotting => s)

end Sys2Proof.Machine
end

