-- ==== Sys2Proof/Machine/Recovery.lean ====
section
/-! DEFINITION. Recovery: its beginning (R37, R46, R159), the restoring of a snapshot (R60, R160), the
rebuilding without one (R61, R161), and its end or its suspension (R159, R162). -/

namespace Sys2Proof.Machine

/-! ### The beginning (R159, steps 1 to 3) -/

/-- The snapshot, where its completion mark is present. -/
def Store.held (st : Store) : Option Snapshot := if st.mark then st.snapshot else none

/-- The clock at the end of the halt, with the discipline begun afresh (R37, R46). -/
def State.decideClock (s : State) : State :=
  { s with
    time := { s.time with
      counter := if s.supply.backupLost then 0 else s.time.counter
      phase := if s.supply.backupLost then 0 else s.time.phase
      clockValid := s.time.setMark && !s.supply.backupLost
      setMark := s.time.setMark && !s.supply.backupLost
      reference := .noReference
      missed := 0
      badPulses := 0
      pendingSlew := 0
      slewStep := 0
      pulseEdge := none }
    supply := { s.supply with backupLost := false } }

/-- The mode that governs a recovery (R159, step 3). -/
def State.governing (s : State) : Mode :=
  match s.store.held with
  | some p => p.mode
  | none => s.store.area.mode

/-- The scan unit, the normaliser's holdings and the second in progress through a recovery (R28, R77).
DESIGN CHOICE (log entry 22): the converters' fault states are OK from here on, so LINK STATUS shows them so while the
recovery goes on and in SUSPENDED. -/
def State.clearScan (s : State) : State :=
  { s with
    scan := .cleared .stopped
    norm := { samples := [], stackSets := [], liveChannels := List.replicate 32 none,
              liveStacks := List.replicate 4 none }
    sec := { s.sec with processed := false, lockHeld := false, held := none, checkWaits := none,
                        sampleWaits := none, before := .nothing } }

/-- A port at a recovery: IDLE, with the result RESTART (R162, R172). -/
def LinkPort.restarted (p : LinkPort) (o : Option OpSnapshot) : LinkPort :=
  { p.silenced with last := some (restartResult o) }

/-- The ports and the arbiter at the beginning of a recovery (R115, R144, R162, R172). -/
def State.restartLinks (ops : List (Option OpSnapshot)) (s : State) : State :=
  { s with
    links := { plant := s.links.plant.restarted (ops.getD 0 none)
               operator := s.links.operator.restarted (ops.getD 1 none)
               inspection := s.links.inspection.restarted (ops.getD 2 none)
               marks := .none }
    arbiter := { grant := none, rotation := .inspection, recClaims := [] }
    attention := { s.attention with
      plant := s.attention.plant.emptied
      operator := s.attention.operator.emptied
      inspection := s.attention.inspection.emptied
      held := 0 } }

/-! ### Restoring (R60, R160) and rebuilding (R61, R161) -/

/-- The greater of two pointers, each for each (R133). -/
def Pointers.greatest (p q : Pointers) : Pointers :=
  { oldest := max p.oldest q.oldest, newest := max p.newest q.newest,
    collected := max p.collected q.collected }

/-- The pointers of the rings after a recovery; the next write of a ring whose headroom is below the mark
raises the flag (R133, R136). -/
def Store.setAllPointers (st : Store) (i d e : Pointers) : Store :=
  { st with
    interval := { st.interval with ptr := i, armed := true }
    day := { st.day with ptr := d, armed := true }
    event := { st.event with ptr := e, armed := true } }

/-- A stack's state as a snapshot gives it back (R60). -/
def StackUnit.restored (u : StackUnit) : StackUnit := { u with fireTimer := 0, feedTimer := 0, abnTimer := 0 }

/-- The recorder's holdings as a snapshot gives them back (R158, R160). -/
def Snapshot.recorder (p : Snapshot) : Recorder :=
  { handed := [], accSets := p.accSets, running := List.replicate 32 none, queue := p.queue,
    notStored := p.notStored, steps := p.steps, restarts := p.restarts,
    overwritten := p.overwritten, table := p.table, tally := p.tally, work := [],
    withdrawal := p.withdrawal }

/-- The configuration unit as a snapshot or the configuration area gives it back (R6, R15). -/
def State.restoreConfig (tables : Option (Tables × StageSet)) (s : State) : State :=
  { s with config :=
      { active := (tables.map Prod.fst).getD s.store.area.tables
        stage := (tables.map Prod.snd).getD s.store.area.stage
        transferPending := tables.isSome
        changeOver := none } }

/-- A recovery takes up the items of a snapshot (R60, R133, R142, R160). -/
def State.restore (p : Snapshot) (s : State) : State :=
  let t := s.restoreConfig p.tables
  { t with
    recorder := p.recorder
    stackUnits := p.stackUnits.map StackUnit.restored
    store := { t.store.setAllPointers (p.interval.greatest t.store.area.interval)
                 (p.day.greatest t.store.area.day) (p.event.greatest t.store.area.event) with
      closedThrough := p.closedThrough } }

/-- Whether a record carried EXCEEDED at its close, as the active tables tell (R161). -/
def closedExceeded (t : Tables) (r : IntervalRec) : Bool :=
  exceeds r.origClass r.origValid (t.channel r.channel).intervalLimit r.validated

/-- A record read from the ring adds its contribution to its day entry (R101, R161). -/
def DayEntry.recontribute (t : Tables) (q : Nat) (r : IntervalRec) (e : DayEntry) : DayEntry :=
  let d := e.contribute r (.stored q)
  { d with
    annotated := tick r.annotated d.annotated
    map := d.map.modify (intervalOfDay r.start) fun m =>
      { m with exceededAtClose := closedExceeded t r } }

/-- One record joins the rebuilt table (R161). -/
def rebuildWith (t : Tables) (table : List ProvDay) (p : Nat × IntervalRec) : List ProvDay :=
  modEntry (dayOf p.2.start) p.2.channel (DayEntry.recontribute t p.1 p.2)
    (joinDay (dayOf p.2.start) table)

/-- The records that a rebuild reads, oldest first: back from a sequence number, at most so many, down to
the first whose day is closed (R161). -/
def readBack (ring : Ring IntervalRec) (closedThrough : Option Nat) :
    Nat → Nat → List (Nat × IntervalRec) → List (Nat × IntervalRec)
  | 0, _, read => read
  | n + 1, q, read =>
    match (ring.read .interval q).record? with
    | none => readBack ring closedThrough n (q - 1) read
    | some r =>
      if closedBy closedThrough (dayOf r.start) then read
      else readBack ring closedThrough n (q - 1) ((q, r) :: read)

/-- Days from one on, so many, all join (R161). -/
def joinDays (first : Nat) : Nat → List ProvDay → List ProvDay
  | 0, table => table
  | n + 1, table => joinDays (first + 1) n (joinDay first table)

/-- The first day that a rebuild joins: the day after the closed-through date, or the earliest one read
(R161). -/
def firstRebuilt (closedThrough : Option Nat) (table : List ProvDay) : Nat :=
  match closedThrough with
  | some d => d + 1
  | none => ((table.head?).map ProvDay.day).getD 0

/-- The latest day of a table. -/
def lastDay (table : List ProvDay) : Option Nat := table.getLast?.map ProvDay.day

/-- Exceedances annulled are counted once the map is complete (R104, R161). -/
def recountAnnulled (table : List ProvDay) : List ProvDay :=
  table.map fun p =>
    { p with entries := p.entries.map fun e => { e with annulled := mapAnnulled e.map } }

/-- The provisional day table rebuilt from the interval ring (R161). -/
def rebuildTable (t : Tables) (ring : Ring IntervalRec) (closedThrough : Option Nat) :
    List ProvDay :=
  let read := readBack ring closedThrough (ring.ptr.newest + 1 - ring.ptr.oldest) ring.ptr.newest []
  let table := read.foldl (rebuildWith t) []
  match lastDay table with
  | none => []
  | some last =>
    recountAnnulled
      (joinDays (firstRebuilt closedThrough table) (last + 1 - firstRebuilt closedThrough table)
        table)

/-- The recorder without a snapshot (R161). -/
def Recorder.lost (table : List ProvDay) (tally : List TallySlot) : Recorder :=
  { handed := [], accSets := [], running := List.replicate 32 none, queue := [], notStored := 0,
    steps := 0, restarts := 0, overwritten := 0, table := table, tally := tally, work := [],
    withdrawal := none }

/-- A recovery without a snapshot (R61, R133, R142, R161). The year counters of the stacks follow when
recovery goes on to its end. -/
def State.rebuild (s : State) : State :=
  let t := s.restoreConfig none
  let st := { t.store.setAllPointers t.store.area.interval t.store.area.day t.store.area.event with
    closedThrough := t.store.area.protection }
  { t with
    store := st
    recorder := .lost
      (if st.area.mode = .commissioning then []
       else rebuildTable t.config.active st.interval st.closedThrough) st.tally
    stackUnits := List.replicate 4 (.initial 2000) }

/-- A recovery takes up its state, as far as it can without the clock (R159, steps 3 to 5). -/
def State.takeUp (s : State) : State :=
  match s.store.held with
  | some p => (s.restore p).restartLinks p.ops
  | none => s.rebuild.restartLinks []

/-- The part enters STARTING in its governing mode (R159). -/
def State.enterStarting (mode : Mode) (s : State) : State :=
  { s with supply :=
      { power := .starting, mode := mode, beneath := mode, pfail := false, rstn := false,
        backupLost := s.supply.backupLost, taking := none, resumed := false, recoveredTo := none } }

/-- The store's self-test (R140, R159). -/
def State.selfTest (passes : Bool) (s : State) : State :=
  { s with store := { s.store with fault := !passes } }

/-- HALT_END (R159): PFAIL and RSTn are inactive, VDD is present, and recovery begins. -/
def execHaltEnd (passes : Bool) (s : State) : Host.Outcome State Fault Refusal :=
  .next (match s.supply.power with
  | .halt => ((s.selfTest passes).decideClock.clearScan.takeUp).enterStarting s.governing
  | .running => s
  | .starting => s
  | .snapshotting => s)

/-! ### The first second (R159) and the work reckoned against it (R160, R161) -/

/-- The first second f (R159). -/
def State.firstSecond (s : State) : Nat := s.time.counter + 1

/-- A stack's counters without a snapshot, from the abnormal seconds the tally area holds for the year
(R61). -/
def StackUnit.rebuilt (u : StackUnit) (seconds year limit : Nat) : StackUnit :=
  { u with yearCounter := seconds, counterYear := year, yearMark := decide (limit ≤ seconds) }

/-- The stacks' year counters without a snapshot (R61). -/
def State.rebuildYears (s : State) : State :=
  let year := yearOfDay (dayOf s.time.counter)
  let abn := ((findSlot s.store.tally year).map TallySlot.stackAbn).getD []
  { s with stackUnits := s.stackUnits.mapIdx fun k u =>
      u.rebuilt (abn.getD k 0) year (s.config.active.stack k).yearLimit }
where
  /-- The tally image named by a year. -/
  findSlot (tally : List TallySlot) (year : Nat) : Option TallySlot :=
    tally.find? fun t => decide (t.state ≠ .unused) && decide (t.year = some year)

/-- All that waits in the recorder is done: during a recovery no close has anything to wait for. -/
def State.drainAll (s : State) : State :=
  s.drainCloses (s.recorder.table.length + s.recorder.work.length + 1)

/-- Every day from one through another joins the provisional day table. -/
def State.joinThrough (first last : Nat) (s : State) : State :=
  { s with recorder := { s.recorder with
      table := joinDays first (last + 1 - first) s.recorder.table } }

/-- Days whose scheduled close was cut short at the snapshot (R160, step 1), and the days whose joining
was cut short with it. -/
def State.overdueDays (second : Nat) (s : State) : State :=
  let t := (s.addWork (.occasion
    { cause := .scheduled, range := scheduledRange (dayOf second) s.config.active.device.window,
      joins := none, gov := s.config.active, closed := 0 })).drainAll
  t.joinThrough (((lastDay t.recorder.table).getD (dayOf second - 1)) + 1) (dayOf second)

/-- Every held set but one of an interval closes, oldest first, flagged INTERRUPTED (R95, R160). -/
def State.closeHeldSets (except : Option Nat) (s : State) : State :=
  ((s.recorder.accSets.map AccSet.start).filter fun b => decide (some b ≠ except)).foldl
    (fun t start => t.closeSetFlagged start false true) s

/-- Recovery opens the interval that contains f, as a boundary at which an APPROVED stage transfers (R15,
R80, R160). -/
def State.openAtRecovery (f : Nat) (s : State) : State :=
  let t := s.transferAt (intervalStart f) (dayOf f)
  (t.openSet (.opened (intervalStart f) t.config.active false (decide (f % 1800 ≠ 0)))).drainAll

/-- Recovery marks that the boundaries of f have been run. -/
def State.ranTo (f : Nat) (s : State) : State :=
  { s with supply := { s.supply with recoveredTo := some f } }

/-- The day boundaries after a day, up to the day of f (R160, R161). -/
def State.missedDays (day f : Nat) (s : State) : State :=
  (s.dayBoundaries s.config.active (day + 1) (dayOf f - day)).drainAll

/-- The accumulators of an interval are flagged INTERRUPTED (R95). -/
def State.interrupt (start : Nat) (s : State) : State :=
  { s with recorder := { s.recorder with
      accSets := markSet start false true s.recorder.accSets } }

/-- The accumulators of every held set are flagged INTERRUPTED (R95). -/
def State.interruptAll (s : State) : State :=
  (s.recorder.accSets.map AccSet.start).foldl (fun t start => t.interrupt start) s

/-- Recovery in RECORDING with a snapshot, from step 2 on (R160). -/
def State.resumeRecording (second f : Nat) (s : State) : State :=
  match s.recorder.accSets.getLast? with
  | some a =>
    if a.start = intervalStart f then (s.closeHeldSets (some a.start)).interrupt a.start
    else ((s.closeHeldSets none).missedDays (dayOf second) f).openAtRecovery f
  | none => (s.missedDays (dayOf second) f).openAtRecovery f

/-- Recovery with a snapshot, in its governing mode (R160). The intervals that it closes in WITHDRAWN, flagged
TRUNCATED by R160, carry INTERRUPTED as well, since recovery closes them (R95, log entry 11). -/
def State.resumeMode (second f : Nat) (s : State) : State :=
  match s.supply.mode with
  | .recording => ((s.overdueDays second).resumeRecording second f).ranTo f
  | .enteringService =>
    if nextBoundary second ≤ f then
      ((s.startRecording (intervalStart f) (dayOf f) (decide (f % 1800 ≠ 0))).drainAll).ranTo f
    else s
  | .withdrawn =>
    match s.recorder.withdrawal with
    | some w => s.interruptAll.withdrawalWork w
    | none => s
  | .commissioning => s
  | .suspended => s

/-- The record of a lost snapshot (R161, R184). -/
def State.noteLost (f : Nat) (s : State) : State :=
  s.note .snapshotLost f (s.store.closedThrough.getD 0xFFFFFFFF)

/-- The day boundaries that recovery runs without a snapshot (R161). -/
def State.lostDays (f : Nat) (s : State) : State :=
  match lastDay s.recorder.table, s.store.closedThrough with
  | some d, _ => s.missedDays d f
  | none, some d => s.missedDays d f
  | none, none => s

/-- A withdrawal cut by a lost snapshot is completed (R161). -/
def State.lostWithdrawal (f : Nat) (s : State) : State :=
  let t := (s.addWork (.occasion { cause := .withdrawal, range := .every, joins := none,
                                   gov := s.config.active, closed := 0 })).drainAll
  (if s.recorder.table = [] then t else t.note .withdrawn f s.recorder.table.length).finalSlots

/-- Recovery without a snapshot, in its governing mode (R161). DESIGN CHOICE (log entry 5): SNAPSHOT_LOST is
written here, so in a recovery that SUSPENDED has held up it comes when the recovery resumes. -/
def State.lostMode (f : Nat) (s : State) : State :=
  match s.supply.mode with
  | .recording => (((s.noteLost f).lostDays f).openAtRecovery f).ranTo f
  | .enteringService => s.noteLost f
  | .withdrawn => (s.noteLost f).lostWithdrawal f
  | .commissioning => s
  | .suspended => s

/-- The work of a recovery on intervals, days and years (R159 step 5, R160, R161). -/
def State.recoveryWork (s : State) : State :=
  match s.store.held with
  | some p => s.resumeMode p.second s.firstSecond
  | none => s.rebuildYears.lostMode s.firstSecond

/-! ### The end (R162) -/

/-- The cause code of a RESTART record (R162, R184). -/
def causeCode : Option Snapshot → Nat
  | none => 0
  | some p =>
    match p.cause with
    | .pfail => 1
    | .rstn => 2
    | .restart => 3

/-- The retention mark is cleared; a clear that fails twice leaves it and puts the store in FAULT (R162). -/
def State.clearMark (cleared : Bool) (s : State) : State :=
  if cleared then { s with store := { s.store with mark := false } }
  else if s.store.fault then s
  else s.draw.2.enterFault (Config.retentionFaultArgument s.draw.1)

/-- The flags that the end of a recovery makes pending (R162). -/
def State.endFlags (s : State) : FlagSet :=
  flagRestarted ||| (if s.store.fault then flagStore else 0) ||| s.attention.held

/-- The attention unit at the end of a recovery (R162). -/
def State.endAttention (s : State) : State :=
  if s.supply.resumed then
    { s with attention := { s.attention.raiseAll s.endFlags with held := 0 } }
  else
    let a : Attention := { pending := s.endFlags, seen := 0, mask := allFlags }
    { s with attention := { plant := a, operator := a, inspection := a, held := 0 } }

/-- The ports at the end of a recovery; those of a recovery resumed from SUSPENDED stay (R162). -/
def State.endLinks (s : State) : State :=
  if s.supply.resumed then s
  else
    { s with links := { plant := s.links.plant.silenced
                        operator := s.links.operator.silenced
                        inspection := s.links.inspection.silenced
                        marks := .none } }

/-- The recorder's claims at the end of a recovery (R144, R162). -/
def State.endClaims (s : State) : State :=
  { s with arbiter := { s.arbiter with
      rotation := .inspection
      recClaims :=
        if s.store.fault then []
        else
          (if s.config.transferPending then [RecClaim.transfer] else []) ++
            (if s.store.area.protection = s.store.closedThrough then []
             else [RecClaim.protection]) } }

/-- The part leaves STARTING with its scan unit empty; the next second is the first one processed (R28, R31,
R159, R162). -/
def State.leaveStarting (s : State) : State :=
  { s with
    supply := { s.supply with power := .running, resumed := false }
    scan := .cleared .acquiring
    sec := { s.sec with processed := false, cfg := s.config.active, before := .nothing } }

/-- Recovery ends (R162). -/
def State.finishRecovery (cleared : Bool) (s : State) : State :=
  let t := s.recoveryWork.clearMark cleared
  let t := t.note .restart s.firstSecond (causeCode s.store.held)
  (t.endLinks.endAttention.endClaims).leaveStarting.runWork.settle

/-- Whether a recovery must wait in SUSPENDED for its clock (R159, step 4). -/
def State.mustSuspend (s : State) : Bool :=
  !s.time.clockValid &&
    match s.supply.mode with
    | .enteringService => true
    | .recording => true
    | .withdrawn => true
    | .commissioning => false
    | .suspended => false

/-- The mode is SUSPENDED, above the mode that governs the recovery (R151, R159). -/
def State.enterSuspended (s : State) : State :=
  { s with supply := { s.supply with power := .running, mode := .suspended,
                                     beneath := s.supply.mode } }

/-- The part enters SUSPENDED (R159, step 4). -/
def State.suspend (s : State) : State := s.endLinks.endAttention.enterSuspended

/-- END_OF_RECOVERY (R159, R162). -/
def execEndOfRecovery (cleared : Bool) (s : State) : Host.Outcome State Fault Refusal :=
  .next (match s.supply.power with
  | .starting => if s.mustSuspend then s.suspend else s.finishRecovery cleared
  | .running => s
  | .snapshotting => s
  | .halt => s)

end Sys2Proof.Machine
end

