-- ==== Sys2Proof/Machine/Time.lean ====
section
/-! DEFINITION. The time base: the internal second edge (R35, R40, R46), the reference discipline (R38,
R39), and SET TIME with its slews, sets and steps (R41 to R45). -/

namespace Sys2Proof.Machine

/-! ### The internal second edge -/

/-- The largest second (R35). -/
def maxSecond : Nat := 4294967295

/-- The slew step taken at an edge: the pending slew clamped to 10 ms either way (R40). -/
def slewStep (pending : Int) : Int := max (-10) (min 10 pending)

/-- The counter and the phase at an edge, and the slew step where the discipline runs (R35, R39, R40). -/
def State.countSecond (s : State) : State :=
  let d := if s.disciplined then slewStep s.time.pendingSlew else 0
  { s with time := { s.time with
      counter := s.time.counter + 1, phase := 0, pendingSlew := s.time.pendingSlew - d,
      slewStep := d } }

/-- A second begins where no second is handed to the blocks (R46). -/
def State.idleSecond (s : State) : State := { s with sec := { s.sec with processed := false } }

/-- The second boundary of an edge in a running part that processes seconds (R46). -/
def State.secondBoundary (s : State) : State :=
  (s.passHeld.dropUnpaired.countSecond.meet .edge).runWork

/-- INTERNAL_SECOND_EDGE (R35, R40, R46). The counter does not wrap. -/
def execInternalSecondEdge (s : State) : Host.Outcome State Fault Refusal :=
  .next (if maxSecond ≤ s.time.counter then s
  else if s.processing then s.secondBoundary.settle
  else s.countSecond.idleSecond)

/-! ### The reference discipline (R38, R39) -/

/-- The edge that owns a pulse at a millisecond of the second in progress, and its offset (R38). The
second's length is 1,000 ms less its slew step. -/
def TimeBase.pulse (t : TimeBase) (phase : Nat) : Nat × Int :=
  if phase < 500 then (t.counter, -(phase : Int))
  else (t.counter + 1, max 0 (min 500 (1000 - t.slewStep - phase)))

/-- The pending slew that a reference pulse leaves: the offset, less the step of the second that began at
its edge where that step has been taken (R38). -/
def TimeBase.slewAfter (t : TimeBase) (phase : Nat) : Int :=
  if phase < 500 then (t.pulse phase).2 - t.slewStep else (t.pulse phase).2

/-- A bad pulse (R38). -/
def State.badPulse (s : State) : State :=
  { s with time := { s.time with badPulses := saturate16 s.time.badPulses 1 } }

/-- A reference pulse (R38, R39). -/
def State.referencePulse (phase : Nat) (s : State) : State :=
  let e := (s.time.pulse phase).1
  match s.time.reference with
  | .tracking =>
    { s with time := { s.time with
        pulseEdge := some e, missed := 0, pendingSlew := s.time.slewAfter phase } }
  | .noReference =>
    (({ s with time := { s.time with
        pulseEdge := some e, missed := 0, badPulses := 0, reference := .tracking,
        pendingSlew := s.time.slewAfter phase } } : State).writeEvent
      { time := e, kind := .referenceRegained, stack := none, channel := none,
        argument := BitVec.ofInt 32 (s.time.pulse phase).2 }).raiseAll flagTime

/-- A rising edge of TREF at a millisecond of the second in progress (R38). The second that the counter
never reaches owns no window. -/
def State.takePulse (phase : Nat) (s : State) : State :=
  if s.time.pulseEdge = some (s.time.pulse phase).1 then s.badPulse
  else if maxSecond < (s.time.pulse phase).1 then s
  else s.referencePulse phase

/-- TREF_PULSE (R38, R39). The discipline runs outside the halt and STARTING. -/
def execTrefPulse (phase : Nat) (s : State) : Host.Outcome State Fault Refusal :=
  .next (if s.disciplined then
    ((s.reachPhase phase).takePulse (s.pulseNow phase)).settle
  else s)

/-- A reference window closes without a reference pulse (R39). -/
def State.missPulse (s : State) : State :=
  match s.time.reference with
  | .noReference => s
  | .tracking =>
    if s.time.missed + 1 < 3 then
      { s with time := { s.time with missed := s.time.missed + 1 } }
    else
      (({ s with time := { s.time with missed := 3, reference := .noReference } } : State).note
        .referenceLost s.time.counter s.time.badPulses).raiseAll flagTime

/-- REFERENCE_WINDOW_CLOSE (R39): the window of the edge that began the second in progress. -/
def execReferenceWindowClose (s : State) : Host.Outcome State Fault Refusal :=
  .next (if s.disciplined then
    (if s.time.pulseEdge = some s.time.counter then s.reachPhase 500
     else (s.reachPhase 500).missPulse).settle
  else s)

/-! ### SET TIME (R41 to R45) -/

/-- The clock becomes valid (R37). -/
def State.validate (s : State) : State :=
  { s with time := { s.time with clockValid := true, setMark := true } }

/-- A set in COMMISSIONING (R42). -/
def State.setClock (target ms : Nat) (s : State) : State :=
  ((s.passHeld.skipSecond.putTime target ms).validate.raiseAll flagTime).meet .set

/-- A slew (R42). -/
def State.slew (offset : Int) (s : State) : State :=
  { s with time := { s.time with pendingSlew := offset - s.time.slewStep } }

/-- The part leaves SUSPENDED for STARTING, in the mode beneath it (R159). DESIGN CHOICE (log entry 19): while it
is STARTING no store operation is granted, so a grant in progress is given back and its claim waits again. -/
def State.startAgain (s : State) : State :=
  let t := s.returnGrant
  { t with supply := { t.supply with power := .starting, mode := t.supply.beneath,
                                     resumed := true } }

/-- A SET TIME that resumes recovery from SUSPENDED (R41, R159). -/
def State.resumeRecovery (target ms : Nat) (s : State) : State :=
  (((s.putTime target ms).validate.note .timeStep target s.recoveryFloor).raiseAll
    flagTime).startAgain

/-- The offset of a SET TIME in milliseconds (R41). -/
def State.offset (s : State) (target ms phase : Nat) : Int :=
  ((target * 1000 + ms : Nat) : Int) - ((s.time.counter * 1000 + s.phaseNow phase : Nat) : Int)

/-- SET TIME's own decision in the modes where its offset counts (R41). -/
def State.offsetRuling (s : State) (l : Link) (target ms phase : Nat) : Ruling :=
  let offset := s.offset target ms phase
  if -2000 ≤ offset ∧ offset ≤ 2000 then s.accept l (s.slew offset) none
  else if offset < -2000 then .argument
  else if l = .inspection then s.accept l (s.forwardStep target ms).settle none
  else .argument

/-- SET TIME's own decision, by the first row that holds (R41). The target has four bytes, so it cannot lie
beyond the largest second. -/
def State.setTimeRuling (s : State) (l : Link) (target ms phase : Nat) : Ruling :=
  if 999 < ms then .argument
  else
    match s.supply.mode with
    | .suspended =>
      if l = .inspection then
        if target < s.recoveryFloor then .argument
        else s.accept l (s.resumeRecovery target ms) none
      else .sequence
    | .commissioning => s.accept l (s.setClock target ms).settle none
    | .enteringService => s.offsetRuling l target ms phase
    | .recording => s.offsetRuling l target ms phase
    | .withdrawn => s.offsetRuling l target ms phase

/-- SET_TIME (R41). -/
def execSetTime (l : Link) (args : List Byte) (phase : Nat) (s : State) :
    Host.Outcome State Fault Refusal :=
  .next (s.serve .setTime l args fun t => t.setTimeRuling l (u32 args 0) (u16 args 4) phase)

end Sys2Proof.Machine
end

