-- ==== Sys2Proof/Machine/Dispatch.lean ====
section
/-! DEFINITION. One arm for each command of the part, each one call of its meaning. -/

namespace Sys2Proof.Machine

def exec (i : Instr) (s : State) : Host.Outcome State Fault Refusal :=
  match i with
  | .linkStatus link args => Sys2Proof.Machine.execLinkStatus link args s
  | .readTime link args phase => Sys2Proof.Machine.execReadTime link args phase s
  | .readLive link args => Sys2Proof.Machine.execReadLive link args s
  | .readEvents link args => Sys2Proof.Machine.execReadEvents link args s
  | .acknowledgeEvents link args => Sys2Proof.Machine.execAcknowledgeEvents link args s
  | .setEventMask link args => Sys2Proof.Machine.execSetEventMask link args s
  | .submitValue link args => Sys2Proof.Machine.execSubmitValue link args s
  | .setStackSignals link args => Sys2Proof.Machine.execSetStackSignals link args s
  | .readConfig link args => Sys2Proof.Machine.execReadConfig link args s
  | .readTally link args => Sys2Proof.Machine.execReadTally link args s
  | .openReadout link args => Sys2Proof.Machine.execOpenReadout link args s
  | .stop link args => Sys2Proof.Machine.execStop link args s
  | .setTime link args phase => Sys2Proof.Machine.execSetTime link args phase s
  | .stageChannel link args => Sys2Proof.Machine.execStageChannel link args s
  | .stageStack link args => Sys2Proof.Machine.execStageStack link args s
  | .stageDevice link args => Sys2Proof.Machine.execStageDevice link args s
  | .withdrawStage link args => Sys2Proof.Machine.execWithdrawStage link args s
  | .approve link args => Sys2Proof.Machine.execApprove link args s
  | .rejectStage link args => Sys2Proof.Machine.execRejectStage link args s
  | .markStart link args => Sys2Proof.Machine.execMarkStart link args s
  | .markEnd link args => Sys2Proof.Machine.execMarkEnd link args s
  | .applyAnnotation link args => Sys2Proof.Machine.execApplyAnnotation link args s
  | .commitCollection link args => Sys2Proof.Machine.execCommitCollection link args s
  | .commitReport link args => Sys2Proof.Machine.execCommitReport link args s
  | .closeDays link args => Sys2Proof.Machine.execCloseDays link args s
  | .inService link args => Sys2Proof.Machine.execInService link args s
  | .withdraw link args => Sys2Proof.Machine.execWithdraw link args s
  | .eraseArchive link args => Sys2Proof.Machine.execEraseArchive link args s
  | .restart link args attempts => Sys2Proof.Machine.execRestart link args attempts s
  | .failedFrame link failure => Sys2Proof.Machine.execFailedFrame link failure s
  | .selectDeasserted link => Sys2Proof.Machine.execSelectDeasserted link s
  | .selectAsserted link => Sys2Proof.Machine.execSelectAsserted link s
  | .stageCommit => Sys2Proof.Machine.execStageCommit s
  | .withdrawStageCommit => Sys2Proof.Machine.execWithdrawStageCommit s
  | .rejectStageCommit => Sys2Proof.Machine.execRejectStageCommit s
  | .approveCommit => Sys2Proof.Machine.execApproveCommit s
  | .collectionCommit => Sys2Proof.Machine.execCollectionCommit s
  | .reportCommit => Sys2Proof.Machine.execReportCommit s
  | .closeDaysCommit => Sys2Proof.Machine.execCloseDaysCommit s
  | .inServiceCommit => Sys2Proof.Machine.execInServiceCommit s
  | .withdrawCommit => Sys2Proof.Machine.execWithdrawCommit s
  | .withdrawalWork => Sys2Proof.Machine.execWithdrawalWork s
  | .eraseGrant => Sys2Proof.Machine.execEraseGrant s
  | .annotationQueuedWaitEnd => Sys2Proof.Machine.execAnnotationQueuedWaitEnd s
  | .annotationReadGrant => Sys2Proof.Machine.execAnnotationReadGrant s
  | .annotationRewriteGrant => Sys2Proof.Machine.execAnnotationRewriteGrant s
  | .annotationRewriteComplete => Sys2Proof.Machine.execAnnotationRewriteComplete s
  | .queueWriteGrant => Sys2Proof.Machine.execQueueWriteGrant s
  | .writeAttemptComplete attempt => Sys2Proof.Machine.execWriteAttemptComplete attempt s
  | .transferWriteGrant => Sys2Proof.Machine.execTransferWriteGrant s
  | .protectionWordGrant => Sys2Proof.Machine.execProtectionWordGrant s
  | .readoutReadGrant => Sys2Proof.Machine.execReadoutReadGrant s
  | .readoutBlockSent link => Sys2Proof.Machine.execReadoutBlockSent link s
  | .internalSecondEdge => Sys2Proof.Machine.execInternalSecondEdge s
  | .referenceWindowClose => Sys2Proof.Machine.execReferenceWindowClose s
  | .trefPulse phase => Sys2Proof.Machine.execTrefPulse phase s
  | .scanSlot slot readings => Sys2Proof.Machine.execScanSlot slot readings s
  | .statusLineActive line => Sys2Proof.Machine.execStatusLineActive line s
  | .selfCheckEnd readingA readingB => Sys2Proof.Machine.execSelfCheckEnd readingA readingB s
  | .lossOfLock => Sys2Proof.Machine.execLossOfLock s
  | .acquisitionComplete => Sys2Proof.Machine.execAcquisitionComplete s
  | .samplingPoint lines => Sys2Proof.Machine.execSamplingPoint lines s
  | .normaliseSecond => Sys2Proof.Machine.execNormaliseSecond s
  | .accumulateSecond => Sys2Proof.Machine.execAccumulateSecond s
  | .dayClose => Sys2Proof.Machine.execDayClose s
  | .pfailActive attempts => Sys2Proof.Machine.execPfailActive attempts s
  | .rstnActive attempts => Sys2Proof.Machine.execRstnActive attempts s
  | .snapshotWriteEnd outcome => Sys2Proof.Machine.execSnapshotWriteEnd outcome s
  | .haltEnd selfTest => Sys2Proof.Machine.execHaltEnd selfTest s
  | .endOfRecovery markCleared => Sys2Proof.Machine.execEndOfRecovery markCleared s
  | .replySent link => Sys2Proof.Machine.execReplySent link s
  | .backupSupplyLoss => Sys2Proof.Machine.execBackupSupplyLoss s

end Sys2Proof.Machine
end

