-- ==== Sys2Proof/Safety.lean ====
section
/-! DEFINITION. What holds of the part in every state that a run reaches, and the words that statements about
link requests use. -/

namespace Sys2Proof.Machine

/-! ### Invariants -/

/-- The write queue holds at most 96 records, and so does that of a snapshot (R98, R158). -/
def State.QueueBounded (s : State) : Prop :=
  s.recorder.queue.length ≤ 96 ∧
    (∀ p, s.store.snapshot = some p → p.queue.length ≤ 96) ∧
    ∀ p, s.supply.taking = some p → p.queue.length ≤ 96

/-- The positions of the three rings, and the spare images of the interval ring, stand in their canonical
form. -/
def State.RingsOrdered (s : State) : Prop :=
  cellsWf s.store.interval.cells = true ∧ cellsWf s.store.day.cells = true ∧
    cellsWf s.store.event.cells = true ∧ cellsWf s.store.intervalSpare = true

/-- On every link a flag that is seen is pending (R179, R180). -/
def State.SeenArePending (s : State) : Prop :=
  ∀ l, (s.attention.get l).seen &&& ~~~(s.attention.get l).pending = 0

/-- The unused bits of every flag set are clear (R181). -/
def State.FlagsKnown (s : State) : Prop :=
  (∀ l, (s.attention.get l).pending &&& ~~~allFlags = 0 ∧
    (s.attention.get l).seen &&& ~~~allFlags = 0 ∧
    (s.attention.get l).mask &&& ~~~allFlags = 0) ∧
    s.attention.held &&& ~~~allFlags = 0

/-- SUSPENDED is never stored: not in the configuration area, not in a snapshot, not as the mode beneath,
and it governs no recovery (R151, R159). -/
def State.SuspendedUnstored (s : State) : Prop :=
  s.store.area.mode ≠ .suspended ∧ s.store.areaSpare.mode ≠ .suspended ∧
    (∀ p, s.store.snapshot = some p → p.mode ≠ .suspended) ∧
    (∀ p, s.supply.taking = some p → p.mode ≠ .suspended) ∧
    s.supply.beneath ≠ .suspended ∧
    (s.supply.power = .starting → s.supply.mode ≠ .suspended)

/-! ### Replies -/

/-- A link's port as a reply leaves it (R168): REPLYING, with a reply byte, then a data block where there
is one, then what the command itself has to send. -/
def LinkPort.replying (p : LinkPort) (bits : Byte) (data : Option (List Byte)) : LinkPort :=
  { p with
    selected := true
    recv := .replying
    frame := none
    tx := .reply bits :: ((data.map TxItem.replyBlock).toList ++ p.tx) }

/-- The marks after an accepted command other than the three of annotation (R117). -/
def marksAfter (l : Link) (m : Marks) : Marks := if l = .operator then .none else m

/-- The reply byte of such a command in a part that is not STARTING: the SEQUENCE notice where it clears
marks (R117, R167). -/
def noticeByte (l : Link) (m : Marks) : Byte := if l = .operator ∧ m ≠ .none then 0x40 else 0

/-- Whether a port takes frames: the links respond, and it neither replies nor streams (R163, R166). -/
def State.listens (s : State) (l : Link) : Prop :=
  s.linksRespond = true ∧ (s.port l).recv ≠ .replying ∧ (s.port l).recv ≠ .streaming

/-- A state whose port of a link is replaced. -/
def State.withPort (s : State) (l : Link) (p : LinkPort) : State :=
  { s with links := s.links.set l p }

/-- A state whose attention sets of a link are replaced. -/
def State.withFlags (s : State) (l : Link) (a : Attention) : State :=
  { s with attention := s.attention.set l a }

/-- A state in which a link's frame has been refused with a reply byte, and nothing else changed (R167). -/
def State.refusedWith (s : State) (l : Link) (bits : Byte) : State :=
  s.withPort l ((s.port l).replying bits none)

/-- A state whose port of a link is replaced and whose marks are those that an accepted command leaves. -/
def State.withReply (s : State) (l : Link) (p : LinkPort) : State :=
  { s with links := { (s.links.set l p) with marks := marksAfter l s.links.marks } }

/-- A state in which an accepted command that returns no data has been answered, its effect made (R117,
R168). -/
def State.answered (s : State) (l : Link) : State :=
  s.withReply l ((s.port l).replying (noticeByte l s.links.marks) none)

/-! ### What commands look for -/

/-- A STAGE command finds the mode and the stage it needs (R9). -/
def State.stageable (s : State) : Prop :=
  (s.supply.mode = .commissioning ∨ s.supply.mode = .enteringService ∨
    s.supply.mode = .recording) ∧ s.config.stage.state ≠ .approved

/-- WITHDRAW STAGE and APPROVE find the mode and the stage they need (R10, R12). -/
def State.movable (s : State) : Prop :=
  (s.supply.mode = .commissioning ∨ s.supply.mode = .enteringService ∨
    s.supply.mode = .recording) ∧ s.config.stage.state = .opened

/-- The conditions of IN SERVICE (R152). -/
def State.serviceable (s : State) : Prop :=
  s.supply.mode = .commissioning ∧ s.time.clockValid = true ∧ s.config.stage.state = .empty ∧
    ∃ c, c < 32 ∧ (s.config.active.channel c).inUse = true ∧
      (s.config.active.stack (s.config.active.channel c).stack).inUse = true

/-- The conditions of ERASE ARCHIVE (R156). -/
def State.erasable (s : State) : Prop :=
  s.supply.mode = .withdrawn ∧
    (∀ r, (s.store.pointers r).collected = (s.store.pointers r).newest) ∧
    ∀ t ∈ s.recorder.tally, t.state = .unused ∨ t.state = .reported

/-- The part runs with a grant made and not yet begun for a claim (R145). -/
def State.grants (s : State) (g : Grant) (c : Claim) : Prop :=
  s.running = true ∧ s.arbiter.grant = some g ∧ g.claim = c ∧ g.begun = false

/-- The part runs with the write of a claim being programmed (R139). -/
def State.programs (s : State) (g : Grant) (c : Claim) : Prop :=
  s.running = true ∧ s.arbiter.grant = some g ∧ g.claim = c ∧ g.begun = true

/-- A port whose busy operation is in flight, its write claim waiting (R169, R172). -/
def LinkPort.withOp (p : LinkPort) (cmd : BusyCmd) (waiting : Bool) : LinkPort :=
  { p with
    op := some { cmd := cmd, waiting := waiting }
    last := some { command := some cmd.name, outcome := .inFlight, reason := none, index := none,
                   counts := [] } }

/-- The arbiter with no grant. -/
def State.granted (s : State) (g : Option Grant) : State :=
  { s with arbiter := { s.arbiter with grant := g } }

/-! ### Parts that a command leaves -/

/-- The two states agree in the time base, the scan unit, the second in progress, the stack state unit, the
normaliser, the supply monitor, the model's own counter and the waiting commands. -/
def State.sameCore (s t : State) : Prop :=
  t.time = s.time ∧ t.scan = s.scan ∧ t.sec = s.sec ∧ t.stackUnits = s.stackUnits ∧
    t.pins = s.pins ∧ t.norm = s.norm ∧ t.supply = s.supply ∧ t.freeDraws = s.freeDraws ∧
    t.pending = s.pending

/-- The grant at hand with its write begun at the present second. -/
def State.withBegun (s : State) (g : Grant) : State :=
  s.granted (some { g with begun := true, second := s.time.counter })

/-- The configuration area as the next write carries it, but for the change that write is made for: the
present pointers, and RECORDING in place of a stored ENTERING_SERVICE once recording has begun (R148, R151). -/
def State.nextArea (s : State) : ConfigArea :=
  { s.store.area with
    mode := if s.store.area.mode = .enteringService ∧ (s.supply.mode = .recording ∨
        s.supply.mode = .suspended ∧ s.supply.beneath = .recording) then .recording
      else s.store.area.mode
    interval := s.store.interval.ptr
    day := s.store.day.ptr
    event := s.store.event.ptr }

/-- The spare image of the configuration area has been programmed (R148). -/
def State.programmed (s : State) (a : ConfigArea) : State :=
  { s with store := { s.store with areaSpare := a } }

/-- The images of the configuration area have changed places (R148). -/
def State.swapped (s : State) : State :=
  { s with store := { s.store with area := s.store.areaSpare, areaSpare := s.store.area } }

/-- What a position of a ring holds: a number and its record. -/
def Store.cell (st : Store) (r : RingName) (p : Nat) : Option (Nat × QueueItem) :=
  match r with
  | .interval => (getCell st.interval.cells p).map fun x => (x.1, .interval x.2)
  | .day => (getCell st.day.cells p).map fun x => (x.1, .day x.2)
  | .event => (getCell st.event.cells p).map fun x => (x.1, .event x.2)

/-- Two states of the store differ at most in what its rings hold, their pointers and the configuration area. -/
def Store.sameButRings (s t : Store) : Prop :=
  t.fault = s.fault ∧ t.tally = s.tally ∧ t.tallySpare = s.tallySpare ∧ t.mark = s.mark ∧
    t.snapshot = s.snapshot ∧ t.closedThrough = s.closedThrough

/-- Whether the write queue has room for some more records (R98). -/
def State.roomFor (s : State) (n : Nat) : Prop := s.recorder.queue.length + n ≤ 96

end Sys2Proof.Machine
end

