-- ==== Sys2Proof/Certificates/Slice0/Obligations.lean ====
section
/-! DEFINITION. The statements about the part: its invariants, its links, and what every command does. -/

open Sys2Proof Sys2Proof.Machine

/-! ### The whole part -/

/-- The command at the front of the queue runs: a step is its meaning on the state with the rest of the
queue. With no command waiting the part idles; that is the model's own choice (log entry 1). -/
def Obligations.StepRunsTheFrontCommand : Prop :=
  (∀ (c : Instr) (rest : List Instr) (s : State), s.pending = c :: rest →
    step s = exec c { s with pending := rest }) ∧
  (∀ s : State, s.pending = [] → step s = .next s)

/-- A command leaves the queue of waiting commands. This is the model's own choice (log entry 1). -/
def Obligations.CommandsLeaveTheWaitingQueue : Prop :=
  ∀ (i : Instr) (s t : State), exec i s = .next t → t.pending = s.pending

/-- The values of the columns "leaving the factory", in the halt before the first recovery, and the factory
configuration (R6), entry by entry. The synthesizer's state, the selection of the ports and the empty queue
of commands are the model's own choice (log entry 1), and none of them is stated here. -/
def Obligations.ResetIsThePartLeavingTheFactory : Prop :=
  (State.reset.time.counter = 0 ∧ State.reset.time.phase = 0 ∧
  State.reset.time.clockValid = false ∧ State.reset.time.setMark = false ∧
  State.reset.time.reference = .noReference ∧ State.reset.time.pendingSlew = 0 ∧
  State.reset.config.stage.state = .empty ∧ State.reset.scan.faultyA = false ∧
  State.reset.scan.faultyB = false ∧ State.reset.scan.broken = List.replicate 32 false ∧
  State.reset.scan.slots = List.replicate 32 none ∧
  State.reset.stackUnits = List.replicate 4 (.initial 2000) ∧
  State.reset.norm.liveChannels = List.replicate 32 none ∧
  State.reset.recorder.accSets = [] ∧ State.reset.recorder.queue = [] ∧
  State.reset.recorder.table = [] ∧ State.reset.recorder.notStored = 0 ∧
  (State.reset.recorder.tally.map TallySlot.state) = [.unused, .unused] ∧
  State.reset.store.fault = false ∧ State.reset.store.interval.ptr = .zero ∧
  State.reset.store.day.ptr = .zero ∧ State.reset.store.event.ptr = .zero ∧
  State.reset.store.interval.cells = [] ∧ State.reset.store.mark = false ∧
  State.reset.store.closedThrough = none ∧ State.reset.store.area.mode = .commissioning ∧
  State.reset.arbiter.grant = none ∧ State.reset.arbiter.rotation = .inspection ∧
  (∀ l, (State.reset.port l).recv = .idle ∧ (State.reset.port l).op = none ∧
    (State.reset.port l).last = none ∧ (State.reset.port l).readout = none) ∧
  State.reset.links.marks = .none ∧ State.reset.supply.mode = .commissioning ∧
  State.reset.supply.power = .halt) ∧
  ((∀ c, Tables.factory.channel c =
    { inUse := false, stack := 0, kind := .temp, source := .constant 0, range := none, offset := 0,
      slope := 10000, ceiling := 0, wet := false, o2Ref := none, ciPercent := 0,
      intervalLimit := none, dayLimit := none, maintLine := none, faultLine := none }) ∧
  (∀ k, Tables.factory.stack k =
    { inUse := false, source := .lines, debounce := 0, runOut := 0, o2Chan := none,
      h2oChan := none, flowChan := none, o2Cap := 1900, runLimit := 14400, yearLimit := 216000 }) ∧
  Tables.factory.device =
    { mains := .hz50, window := 3, dayInvalidMax := 5, arbiterMode := .rotate } ∧
  State.reset.config.active = Tables.factory ∧ State.reset.store.area.tables = Tables.factory ∧
  State.reset.config.stage = .emptied)

/-! ### Invariants -/

/-- The part leaves the factory with every invariant. -/
def Obligations.ResetMeetsTheInvariants : Prop :=
  State.reset.QueueBounded ∧ State.reset.RingsOrdered ∧ State.reset.SeenArePending ∧
    State.reset.FlagsKnown ∧ State.reset.SuspendedUnstored

/-- The write queue never holds more than 96 records, nor does the queue that a snapshot holds. -/
def Obligations.WriteQueueNeverExceeds96 : Prop :=
  ∀ s t : State, s.QueueBounded → step s = .next t → t.QueueBounded

/-- The stored records of each ring stay in their canonical form: positions strictly rising. -/
def Obligations.RingsKeepTheirCanonicalForm : Prop :=
  ∀ s t : State, s.RingsOrdered → step s = .next t → t.RingsOrdered

/-- A seen flag is pending, and the unused bits of every flag set stay clear. -/
def Obligations.FlagSetsStayConsistent : Prop :=
  ∀ s t : State, s.SeenArePending → s.FlagsKnown → step s = .next t →
    t.SeenArePending ∧ t.FlagsKnown

/-- SUSPENDED is never stored and never governs a recovery. -/
def Obligations.SuspendedIsNeverStored : Prop :=
  ∀ s t : State, s.SuspendedUnstored → step s = .next t → t.SuspendedUnstored

/-- In a running part that is in service, no command whatever turns the time of record back. -/
def Obligations.TimeOfRecordNeverDecreasesInService : Prop :=
  ∀ (i : Instr) (s t : State), s.supply.power = .running →
    (s.supply.mode = .enteringService ∨ s.supply.mode = .recording ∨ s.supply.mode = .withdrawn) →
    exec i s = .next t → s.time.counter ≤ t.time.counter

/-! ### Frames and encodings -/

/-- A command frame with its check word decodes to the command it was made for, whatever the command and its
arguments; one whose check word is wrong, or whose length byte is above 40, fails its check, and one with a
code that is no command of the part is unknown. Bytes before the lead byte 0xC3 are ignored, and a frame whose
arguments or check word are not all there is none yet. Phases and attempts are operands of the model, not of
the frame (log entry 1). -/
def Obligations.CommandFramesRoundTrip : Prop :=
  (∀ (l : Link) (phase : Nat) (attempts : List Attempt) (c : Command) (args : List Byte),
    args.length ≤ 40 →
    (encodeFrame c args).head? = some 0xC3 ∧ (encodeFrame c args).length = args.length + 5 ∧
    decodeFrame l phase attempts (encodeFrame c args) = some (instrOf l args phase attempts c)) ∧
  (∀ (l : Link) (phase : Nat) (attempts : List Attempt) (noise frame : List Byte),
    (∀ b ∈ noise, b ≠ 0xC3) →
    decodeFrame l phase attempts (noise ++ frame) = decodeFrame l phase attempts frame) ∧
  (∀ (l : Link) (phase : Nat) (attempts : List Attempt) (code len hi lo : Byte) (args : List Byte),
    (40 < len.toNat →
      decodeFrame l phase attempts (0xC3 :: code :: len :: (args ++ [hi, lo])) =
        some (.failedFrame l .check)) ∧
    (len.toNat ≤ 40 → args.length ≤ len.toNat →
      decodeFrame l phase attempts (0xC3 :: code :: len :: (args ++ [hi])) = none) ∧
    (len.toNat ≤ 40 → args.length = len.toNat →
      hi.toNat * 256 + lo.toNat ≠ (checkWord (code :: len :: args)).toNat →
      decodeFrame l phase attempts (0xC3 :: code :: len :: (args ++ [hi, lo])) =
        some (.failedFrame l .check)) ∧
    (len.toNat ≤ 40 → args.length = len.toNat →
      hi.toNat * 256 + lo.toNat = (checkWord (code :: len :: args)).toNat →
      commandOfCode code = none →
      decodeFrame l phase attempts (0xC3 :: code :: len :: (args ++ [hi, lo])) =
        some (.failedFrame l (.unknownCode code))))

/-- Every channel entry, stack entry and device record that passes the checks at receipt survives its
encoding: no field of it is dropped. -/
def Obligations.ConfigurationEntriesRoundTrip : Prop :=
  (∀ (i : Nat) (e : ChannelEntry), i ≤ 31 → e.admissible = true →
    (encodeChannelEntry i e).length = 37 ∧ readStageChannel (encodeChannelEntry i e) = some (i, e)) ∧
  ((∀ (k : Nat) (e : StackEntry), k ≤ 3 → e.admissible = true →
    (encodeStackEntry k e).length = 19 ∧ readStageStack (encodeStackEntry k e) = some (k, e)) ∧
  ∀ d : DeviceSettings, d.admissible = true →
    (encodeDevice d).length = 4 ∧ readStageDevice (encodeDevice d) = some d)

/-! ### Deciding a frame -/

/-- Which link class may send which command, in which mode; and a frame that one of the rows 2 and 4 to 6
refuses: the first row that applies gives the reply bits, with the STARTING bit on every reply while STARTING. -/
def Obligations.FramesAreScreenedInOrder : Prop :=
  ((∀ c m, permitted c .plant m = true ↔ c ∈ [Command.linkStatus, .readTime, .readLive, .readEvents,
    .acknowledgeEvents, .setEventMask, .submitValue, .setStackSignals]) ∧
  (∀ c m, permitted c .operator m = true ↔ c ∈ [Command.linkStatus, .readTime, .readLive,
    .readEvents, .acknowledgeEvents, .setEventMask, .readConfig, .readTally, .openReadout, .stop,
    .setTime, .stageChannel, .stageStack, .stageDevice, .withdrawStage, .markStart, .markEnd,
    .applyAnnotation, .commitCollection, .commitReport] ∨ (c = .approve ∧ m = .commissioning)) ∧
  (∀ c m, permitted c .inspection m = true ↔ c ∈ [Command.linkStatus, .readTime, .readLive,
    .readEvents, .acknowledgeEvents, .setEventMask, .readConfig, .readTally, .openReadout, .stop,
    .setTime, .commitReport, .approve, .rejectStage, .closeDays, .inService, .withdraw,
    .eraseArchive, .restart])) ∧
  ∀ (s : State) (c : Command) (l : Link) (args : List Byte),
    (s.supply.power = .starting → c ≠ .linkStatus → s.screen c l args = some 0x01) ∧
    ((s.supply.power = .starting → c = .linkStatus) →
      (permitted c l s.supply.mode = false → s.screen c l args = some 0x04) ∧
      (permitted c l s.supply.mode = true →
        (c ≠ .linkStatus → (s.port l).op.isSome = true → s.screen c l args = some 0x02) ∧
        (c = .linkStatus ∨ (s.port l).op = none →
          (args.length ≠ argumentLength c → s.screen c l args = some 0x20) ∧
          (args.length = argumentLength c → s.screen c l args = none)))) ∧
    (∀ bits, s.replyBits bits = if s.supply.power = .starting then bits ||| 0x01 else bits)

/-- The records that a readout delivers, field by field at their offsets, high byte first, with what is sent for
an absent field; their flags bytes bit by bit; the codes of their fields; and the key that a filter compares. -/
def Obligations.RecordsAreLaidOut : Prop :=
  (∀ (q : Nat) (r : IntervalRec) (b : List Byte), b = encodeInterval q r →
    b.length = 56 ∧ u8 b 0 = 1 ∧ u32 b 1 = q % 4294967296 ∧ u32 b 5 = r.start % 4294967296 ∧
    u8 b 9 = r.channel % 256 ∧ u8 b 10 = r.stack % 256 ∧ u8 b 11 = kindCode r.kind ∧
    u8 b 12 = intervalClassCode r.origClass ∧ u8 b 13 = validityCode r.origValid ∧
    u8 b 14 = intervalClassCode r.finalClass ∧ u8 b 15 = validityCode r.finalValid ∧
    (List.range 8).map (b.getD 16 0).getLsbD =
      [r.finalValid == .valid, r.exceeded, r.truncated, r.interrupted, decide (r.secsSat ≠ 0),
        decide (r.secsOutcal ≠ 0), r.annotated, r.load.isSome] ∧
    u8 b 17 = (match r.annKind with | none => 0 | some k => annKindCode k) ∧
    u8 b 18 = r.remark % 256 ∧ u8 b 19 = r.revision % 256 ∧
    [20, 22, 24, 26, 28, 30, 32, 34].map (u16 b) =
      [r.secsRec, r.secsOp, r.secsAbn, r.validReg, r.secsMaint, r.secsOutcal, r.secsSat,
        r.validAll].map (· % 65536) ∧
    [36, 40, 44].map (u32 b) =
      [r.average, r.allAverage, r.validated].map (fun v => v.getD 0xFFFFFFFF % 4294967296) ∧
    u32 b 48 * 4294967296 + u32 b 52 = r.load.getD 0 % 18446744073709551616) ∧
  (∀ (q : Nat) (r : DayRec) (b : List Byte), b = encodeDay q r →
    b.length = 59 ∧ u8 b 0 = 2 ∧ u32 b 1 = q % 4294967296 ∧ u32 b 5 = r.day % 4294967296 ∧
    u8 b 9 = r.channel % 256 ∧ u8 b 10 = r.stack % 256 ∧ u8 b 11 = kindCode r.kind ∧
    u8 b 12 = closeCauseCode r.cause ∧ u8 b 13 = dayClassCode r.dayClass ∧
    u8 b 14 = validityCode r.validity ∧
    (List.range 8).map (b.getD 15 0).getLsbD =
      [r.validity == .valid, r.exceeded, false, false, false, false, false, false] ∧
    (List.range 11).map (fun i => u8 b (16 + i)) =
      [r.dayInvalidMax, r.recorded, r.nValid, r.nInvalid, r.nAbnormal, r.nNotOp, r.nUnrecorded,
        r.exceedances, r.annulled, r.annotated, r.loadGaps].map (· % 256) ∧
    [27, 31, 35].map (u32 b) =
      [r.average, r.maximum.map Prod.fst, r.maximum.map Prod.snd].map
        (fun v => v.getD 0xFFFFFFFF % 4294967296) ∧
    [39, 43, 47].map (u32 b) =
      [r.secsAbn, r.secsOutcal, r.secsSat].map (· % 4294967296) ∧
    u32 b 51 * 4294967296 + u32 b 55 = r.loadSum % 18446744073709551616) ∧
  (∀ (q : Nat) (r : EventRec) (b : List Byte), b = encodeEvent q r →
    b.length = 16 ∧ u8 b 0 = 3 ∧ u32 b 1 = q % 4294967296 ∧ u32 b 5 = r.time % 4294967296 ∧
    u8 b 9 = eventKindCode r.kind ∧ u8 b 10 = r.stack.getD 255 % 256 ∧
    u8 b 11 = r.channel.getD 255 % 256 ∧ u32 b 12 = r.argument.toNat) ∧
  (∀ (st : Store) (q n : Nat),
    (∀ r, getCell st.interval.cells ((q - 1) % 65536) = some (n, r) →
      st.readRecord .interval q = if n = q then .record (BitVec.ofNat 24
        (r.stack * 65536 + r.channel * 256 + intervalClassCode r.finalClass), encodeInterval q r)
        else .other n) ∧
    (∀ r, getCell st.day.cells ((q - 1) % 16384) = some (n, r) →
      st.readRecord .day q = if n = q then .record (BitVec.ofNat 24
        (r.stack * 65536 + r.channel * 256 + dayClassCode r.dayClass), encodeDay q r)
        else .other n) ∧
    (∀ r, getCell st.event.cells ((q - 1) % 4096) = some (n, r) →
      st.readRecord .event q = if n = q then .record (BitVec.ofNat 24
        (r.stack.getD 255 * 65536 + r.channel.getD 255 * 256 + eventKindCode r.kind),
          encodeEvent q r) else .other n) ∧
    (getCell st.interval.cells ((q - 1) % 65536) = none → st.readRecord .interval q = .empty) ∧
    (getCell st.day.cells ((q - 1) % 16384) = none → st.readRecord .day q = .empty) ∧
    (getCell st.event.cells ((q - 1) % 4096) = none → st.readRecord .event q = .empty)) ∧
  [Kind.dust, .hcl, .so2, .nox, .co, .toc, .hf, .hg, .nh3, .o2, .h2o, .flow, .temp].map kindCode =
    List.range 13 ∧
  [IntervalClass.operating, .abnormal, .notOperating].map intervalClassCode = [1, 2, 3] ∧
  [Validity.none, .valid, .invalid].map validityCode = [0, 1, 2] ∧
  [DayClass.noOperation, .unrecorded, .operating].map dayClassCode = [1, 2, 3] ∧
  [CloseCause.scheduled, .commanded, .withdrawal].map closeCauseCode = [1, 2, 3] ∧
  [AnnKind.invalidate, .startupShutdown, .abnormal, .restore, .remark].map annKindCode =
    [1, 2, 3, 4, 5] ∧
  [EventKind.powerLoss, .restart, .snapshotLost, .timeStep, .referenceLost, .referenceRegained,
    .scanClockUnlocked, .scanClockLocked, .converterFaultBegin, .converterFaultEnd,
    .lineBreakBegin, .stageOpened, .stageApproved, .stageRejected, .stageWithdrawn,
    .configTransferred, .annotation, .daysClosedEarly, .abnormalRunLimit, .abnormalYearLimit,
    .storeFault, .yearReportUncollected, .inService, .withdrawn].map eventKindCode =
    (List.range 24).map (· + 1)

/-- A frame refused by one of the rows 2 and 4 to 6 changes nothing but the reply of its own port, whichever
of the 29 commands it carries; so does one that fails its check or has an unknown code; and a port that does
not respond, one that is replying, and one that streams (but for STOP) take no frame. A port counts as selected
when a frame reaches it (the model's choice, log entry 2). -/
def Obligations.RefusedFramesChangeOnlyTheirReply : Prop :=
  (∀ (s : State) (c : Command) (l : Link) (args : List Byte) (phase : Nat) (attempts : List Attempt)
    (bits : Byte), s.listens l → s.screen c l args = some bits →
    exec (instrOf l args phase attempts c) s = .next (s.refusedWith l (s.replyBits bits))) ∧
  (∀ (s : State) (l : Link), s.listens l →
    exec (.failedFrame l .check) s = .next (s.refusedWith l (s.replyBits 0x10)) ∧
    ∀ code, exec (.failedFrame l (.unknownCode code)) s =
      .next (s.refusedWith l (if s.supply.power = .starting then 0x01 else 0x08))) ∧
  (∀ (s : State) (c : Command) (l : Link) (args : List Byte) (phase : Nat) (attempts : List Attempt),
    (s.linksRespond = false ∨ (s.port l).recv = .replying ∨
      ((s.port l).recv = .streaming ∧ c ≠ .stop)) →
    exec (instrOf l args phase attempts c) s = .next s) ∧
  ∀ (s : State) (l : Link) (failure : FrameFailure),
    (s.linksRespond = false ∨ (s.port l).recv = .replying ∨ (s.port l).recv = .streaming) →
    exec (.failedFrame l failure) s = .next s

/-- A deselect clears the port but not its operation, a select finds BUSY exactly while one is in flight; while
the ports do not respond only the level of the select signal is kept. When a reply has been sent, the receiver
is STREAMING after an accepted OPEN READOUT, BUSY while an operation is in flight, and IDLE otherwise; after a
token of a stream the readout is closed; and what an erase left to be sent goes out before anything else of the port
(the model's choice, log entry 14). A busy operation's end: the result, no operation in flight, OPERATION_DONE
on its own link alone, and a receiver in BUSY becomes IDLE. One that a snapshot ends has the result RESTART, and its
link no flag of it. -/
def Obligations.PortsFollowSelectionAndReplies : Prop :=
  (∀ (s : State) (l : Link),
    (s.linksRespond = true →
      (∀ g, s.arbiter.grant = some g → g.claim = .readout l →
        exec (.selectDeasserted l) s = .next { (s.withPort l { (s.port l) with
            selected := false, recv := .idle, frame := none, readout := none, tx := [],
            leaving := [] }) with
          arbiter := { s.arbiter with grant := some { g with stale := true } } }) ∧
      ((∀ g, s.arbiter.grant = some g → g.claim ≠ .readout l) →
        exec (.selectDeasserted l) s = .next (s.withPort l { (s.port l) with
          selected := false, recv := .idle, frame := none, readout := none, tx := [],
          leaving := [] })) ∧
      ((s.port l).selected = false →
        exec (.selectAsserted l) s = .next (s.withPort l { (s.port l) with
          selected := true, recv := if (s.port l).op.isSome then .busy else .idle }))) ∧
    (s.linksRespond = false →
      exec (.selectDeasserted l) s = .next (s.withPort l { (s.port l) with selected := false }) ∧
      exec (.selectAsserted l) s = .next (s.withPort l { (s.port l) with selected := true })) ∧
    ((s.port l).selected = true → exec (.selectAsserted l) s = .next s)) ∧
  (∀ (s : State) (l : Link),
    (s.linksRespond = false → exec (.replySent l) s = .next s) ∧
    (s.linksRespond = true →
      (∀ x rest, (s.port l).leaving = x :: rest →
        exec (.replySent l) s = .next (s.withPort l { (s.port l) with
          leaving := match x, rest with
            | .streamBlock d, r => .streamBlock d :: r
            | .reply _, .replyBlock _ :: r => r
            | _, r => r })) ∧
      ((s.port l).leaving = [] →
        (((s.port l).recv = .idle ∨ (s.port l).recv = .busy ∨ (s.port l).recv = .receiving) →
          exec (.replySent l) s = .next s) ∧
        ((s.port l).recv = .replying →
          exec (.replySent l) s = .next (s.withPort l { (s.port l) with
            recv := if (s.port l).readout.isSome then .streaming
              else if (s.port l).op.isSome then .busy else .idle
            tx := afterReply (s.port l).tx })) ∧
        ((s.port l).recv = .streaming →
          (∀ x rest, (s.port l).tx = x :: rest → (x = .endOfStream ∨ ∃ r, x = .dataFault r) →
            exec (.replySent l) s = .next (s.withPort l { (s.port l) with
              recv := .idle, tx := [], readout := none })) ∧
          ((∀ x rest, (s.port l).tx = x :: rest → x ≠ .endOfStream ∧ ∀ r, x ≠ .dataFault r) →
            exec (.replySent l) s = .next s))))) ∧
  (∀ (b : Byte) (x : TxItem) (rest : List TxItem),
    (∀ d, afterReply (.reply b :: .replyBlock d :: rest) = rest) ∧
    ((∀ d r, rest ≠ .replyBlock d :: r) → afterReply (.reply b :: rest) = rest) ∧
    ((∀ c, x ≠ .reply c) → afterReply (x :: rest) = afterReply rest)) ∧
  (∀ (s : State) (l : Link) (o : LinkOp) (out : OpOutcome) (r : Option Reason) (i : Option Nat)
    (n : List Nat), (s.port l).op = some o → out ≠ .restart →
    s.endOp l out r i n = (s.withPort l { (s.port l) with
      op := none
      last := some { command := some o.cmd.name, outcome := out, reason := r, index := i,
                     counts := n }
      recv := if (s.port l).recv = .busy then .idle else (s.port l).recv }).withFlags l
        { (s.attention.get l) with
          pending := (s.attention.get l).pending ||| 0x0001
          seen := (s.attention.get l).seen &&& 0xFFFE }) ∧
  ∀ (s : State) (l : Link),
    s.silence.port l = { (s.port l) with
      recv := .idle, frame := none, readout := none, tx := [], leaving := [], op := none
      last := match (s.port l).op with
        | none => (s.port l).last
        | some o => some { command := some o.cmd.name, outcome := .restart, reason := none,
                           index := none, counts := o.cmd.counts } } ∧
    s.silence.attention.get l = { (s.attention.get l) with pending := 0, seen := 0 }

/-- The data blocks of READ LIVE, READ TALLY, LINK STATUS, READ TIME and READ CONFIG, field by field at their
offsets, high byte first, with what is sent for an absent field, and the codes of their fields. The kind byte and
the conversions byte of a channel out of use in READ LIVE are the model's choice (log entry 21), and a due transfer time
that the counter never reaches is a free value (log entry 23). -/
def Obligations.BlocksAreLaidOut : Prop :=
  ((∀ (s : State) (set : BitVec 32), liveBlock s set =
    (((List.range 32).filter set.getLsbD).flatMap fun i => encodeLiveChannel i
      (s.norm.liveChannels.getD i none) (s.recorder.running.getD i none)) ++
    (encodeLiveStack 0 (s.norm.liveStacks.getD 0 none) ++
      encodeLiveStack 1 (s.norm.liveStacks.getD 1 none) ++
      encodeLiveStack 2 (s.norm.liveStacks.getD 2 none) ++
      encodeLiveStack 3 (s.norm.liveStacks.getD 3 none))) ∧
  (∀ (i : Nat) (e : Option NormChannel) (run : Option Nat) (b : List Byte),
    b = encodeLiveChannel i e run →
    b.length = 26 ∧ u8 b 0 = i % 256 ∧
    (e = none → ∀ k, 1 ≤ k → u8 b k = 0) ∧
    (∀ x, e = some x → u32 b 3 = x.second % 4294967296 ∧
      u32 b 11 = run.getD 0xFFFFFFFF % 4294967296 ∧
      (x.value = none →
        (List.range 8).map (b.getD 1 0).getLsbD =
          [true, false, false, false, false, run.isSome, false, false] ∧
        u8 b 2 = 0 ∧ u32 b 7 = 0xFFFFFFFF ∧ u8 b 15 = 255 ∧ u8 b 16 = 255 ∧ u8 b 17 = 255 ∧
        u32 b 18 = 0xFFFFFFFF ∧ u32 b 22 = 0xFFFFFFFF) ∧
      (∀ v, x.value = some v →
        (List.range 8).map (b.getD 1 0).getLsbD =
          [true, true, v.outOfCal, v.saturated, v.yRef.isSome, run.isSome, v.y.isSome,
            v.yDry.isSome] ∧
        u8 b 2 = verdictCode v.verdict ∧ u32 b 7 = v.yRef.getD 0xFFFFFFFF % 4294967296 ∧
        u8 b 15 = v.stack % 256 ∧ u8 b 16 = kindCode v.kind ∧
        u8 b 17 = v.conversions.getD 255 % 256 ∧
        u32 b 18 = v.y.getD 0xFFFFFFFF % 4294967296 ∧
        u32 b 22 = v.yDry.getD 0xFFFFFFFF % 4294967296))) ∧
  (∀ (k : Nat) (e : Option NormStack) (b : List Byte), b = encodeLiveStack k e →
    b.length = 7 ∧ u8 b 0 = k % 256 ∧ (e = none → ∀ n, 1 ≤ n → u8 b n = 0) ∧
    (∀ x, e = some x →
      (List.range 8).map (b.getD 1 0).getLsbD =
        [true, x.mark.inUse, x.mark.stale, false, false, false, false, false] ∧
      u8 b 2 = stackStateCode x.mark.state ∧ u32 b 3 = x.second % 4294967296))) ∧
  (∀ (t : TallySlot) (i : Nat) (b : List Byte) (c : ChannelTally), b = tallyChannelBlock t i →
    t.channels[i]? = some c →
    b.length = 66 ∧ u16 b 0 = t.year.getD 0 % 65536 ∧ u8 b 2 = tallyStateCode t.state ∧
    u8 b 3 = i % 256 ∧
    (c.label = none → u8 b 4 = 255 ∧ u8 b 5 = 255) ∧
    (∀ k n, c.label = some (k, n) → u8 b 4 = k % 256 ∧ u8 b 5 = kindCode n) ∧
    (List.range 14).map (fun n => u16 b (6 + 2 * n)) =
      [c.ivValid, c.ivInvalid, c.ivAbnormal, c.ivNotOp, c.ivUnrecorded, c.ivExceedances,
        c.dayValid, c.dayInvalid, c.dayNoOperation, c.dayUnrecorded, c.dayExceedances,
        c.annotated, c.annulled, c.loadGaps].map (· % 65536) ∧
    [34, 38, 42, 46].map (u32 b) =
      [c.maxInterval.map Prod.fst, c.maxInterval.map Prod.snd, c.maxDay.map Prod.fst,
        c.maxDay.map Prod.snd].map (fun v => v.getD 0xFFFFFFFF % 4294967296) ∧
    u32 b 50 = c.secsOutcal % 4294967296 ∧ u32 b 54 = c.secsSat % 4294967296 ∧
    u32 b 58 * 4294967296 + u32 b 62 = c.load % 18446744073709551616) ∧
  (∀ (t : TallySlot) (b : List Byte), b = tallyDeviceBlock t →
    b.length = 40 ∧ u16 b 0 = t.year.getD 0 % 65536 ∧ u8 b 2 = tallyStateCode t.state ∧
    u8 b 3 = 255 ∧ (∀ k, k < 4 → u32 b (4 + 4 * k) = t.stackAbn.getD k 0 % 4294967296) ∧
    [20, 24, 28, 32, 36].map (u32 b) =
      [t.overwritten, t.notStored, t.steps, t.restarts, t.lostReports].map (· % 4294967296)) ∧
  (∀ (s : State) (l : Link) (b : List Byte), b = linkStatusBlock s l →
    b.length = 33 ∧ u8 b 0 = modeCode s.supply.mode ∧
    u8 b 1 = (if s.supply.power = .starting then 1 else 0) ∧
    u8 b 2 = (if s.time.clockValid then 1 else 0) ∧ u8 b 3 = refStateCode s.time.reference ∧
    u8 b 4 = synthCode s.scan.synth ∧ u8 b 5 = (if s.scan.faultyA then 1 else 0) ∧
    u8 b 6 = (if s.scan.faultyB then 1 else 0) ∧ u8 b 7 = (if s.store.fault then 1 else 0) ∧
    u8 b 8 = stageCode s.config.stage.state ∧
    u8 b 9 = (if (s.port l).recv = .busy then 1 else 0) ∧
    u8 b 10 = (if (s.port l).op.isSome then 1 else 0) ∧
    ((s.port l).last = none → u8 b 11 = 0 ∧ u8 b 12 = 0 ∧ u8 b 13 = 0 ∧ u8 b 14 = 255 ∧
      ∀ n, n < 4 → u32 b (15 + 4 * n) = 0) ∧
    (∀ r, (s.port l).last = some r →
      u8 b 11 = (match r.command with | none => 0 | some c => busyCode c) ∧
      u8 b 12 = outcomeCode r.outcome ∧
      u8 b 13 = (match r.reason with | none => 0 | some c => reasonCode c) ∧
      u8 b 14 = r.index.getD 255 % 256 ∧
      ∀ n, n < 4 → u32 b (15 + 4 * n) = r.counts.getD n 0 % 4294967296) ∧
    u16 b 31 = (s.attention.get l).pending.toNat) ∧
  (∀ (t : TimeBase) (b : List Byte), b = readTimeBlock t →
    b.length = 12 ∧ u32 b 0 = t.counter % 4294967296 ∧ u16 b 4 = t.phase % 65536 ∧
    u8 b 6 = (if t.clockValid then 1 else 0) ∧ u8 b 7 = refStateCode t.reference ∧
    u16 b 8 = (BitVec.ofInt 16 t.pendingSlew).toNat ∧ u16 b 10 = t.badPulses % 65536) ∧
  (∀ (t : Tables) (b : List Byte), b = activeBlock t → t.channels.length = 32 →
    t.stackTab.length = 4 →
    b.length = 1265 ∧ u8 b 0 = 0 ∧
    (∀ c, c < 32 → (b.drop (1 + 37 * c)).take 37 = encodeChannelEntry c (t.channel c)) ∧
    (∀ k, k < 4 → (b.drop (1185 + 19 * k)).take 19 = encodeStackEntry k (t.stack k)) ∧
    b.drop 1261 = encodeDevice t.device) ∧
  (∀ (g : StageSet) (now : Nat) (b : List Byte), b = stageBlock g now →
    u8 b 0 = 1 ∧ u8 b 1 = stageCode g.state ∧
    (g.state ≠ .approved → u8 b 2 = 0 ∧ u32 b 3 = 0xFFFFFFFF) ∧
    (∀ l, g.state = .approved → g.approver = some l → u8 b 2 = classCode l ∧
      ((now / 1800 + 1) * 1800 ≤ 4294967295 → u32 b 3 = (now / 1800 + 1) * 1800) ∧
      (4294967295 < (now / 1800 + 1) * 1800 → u32 b 3 = (Config.boundaryBeyond now).toNat)) ∧
    u8 b 7 = g.channels.length % 256 ∧
    b.drop 8 = (g.channels.flatMap fun x => encodeChannelEntry x.1 x.2) ++
      BitVec.ofNat 8 g.stackTab.length :: ((g.stackTab.flatMap fun x => encodeStackEntry x.1 x.2) ++
        (match g.device with | none => [0] | some d => 1 :: encodeDevice d))) ∧
  [Verdict.good, .saturated, .dependency, .maintenance, .analyserFault, .converterFault,
    .lineBreak, .short, .stale].map verdictCode = [1, 2, 3, 4, 5, 6, 7, 8, 9] ∧
  [StackState.off, .startup, .operating, .shutdown, .abnormal].map stackStateCode =
    [0, 1, 2, 3, 4] ∧
  [TallyState.opened, .final, .reported].map tallyStateCode = [1, 2, 3] ∧
  [Mode.commissioning, .enteringService, .recording, .suspended, .withdrawn].map modeCode =
    [0, 1, 2, 3, 4] ∧
  [RefState.noReference, .tracking].map refStateCode = [0, 1] ∧
  [Synth.acquiring, .locked, .stopped].map synthCode = [0, 1, 2] ∧
  [StageState.empty, .opened, .approved].map stageCode = [0, 1, 2] ∧
  [OpOutcome.inFlight, .done, .partly, .refused, .restart].map outcomeCode = [1, 2, 3, 4, 5] ∧
  [Reason.sequence, .argument, .storeFault, .inputConflict, .stackNotInUse,
    .referenceMissing].map reasonCode = [1, 2, 3, 4, 5, 6] ∧
  [BusyName.stageChannel, .stageStack, .stageDevice, .withdrawStage, .approve, .rejectStage,
    .applyAnnotation, .commitCollection, .commitReport, .closeDays, .inService, .withdraw,
    .eraseArchive].map busyCode =
    [0x30, 0x31, 0x32, 0x33, 0x34, 0x35, 0x42, 0x50, 0x51, 0x52, 0x60, 0x61, 0x62]

/-! ### Attention -/

/-- READ EVENTS, ACKNOWLEDGE EVENTS and SET EVENT MASK act on the sending link's sets alone. -/
def Obligations.AttentionRequestsActOnTheirOwnLink : Prop :=
  ∀ (s : State) (l : Link) (args : List Byte) (a : Attention), a = s.attention.get l →
    (s.reaches .readEvents l args = true →
      exec (.readEvents l args) s =
        .next ((s.withFlags l { a with seen := a.seen ||| a.pending }).withReply l
          ((s.port l).replying (noticeByte l s.links.marks) (some (bytes2 a.pending.toNat))))) ∧
    (∀ removed, s.reaches .acknowledgeEvents l args = true → u16 args 0 < 16384 →
      removed = BitVec.ofNat 16 (u16 args 0) &&& a.pending &&& a.seen →
      exec (.acknowledgeEvents l args) s =
        .next ((s.withFlags l { a with
          pending := a.pending &&& ~~~removed, seen := a.seen &&& ~~~removed }).withReply l
          ((s.port l).replying (noticeByte l s.links.marks) (some (bytes2 removed.toNat))))) ∧
    (s.reaches .setEventMask l args = true → u16 args 0 < 16384 →
      exec (.setEventMask l args) s =
        .next ((s.withFlags l { a with mask := BitVec.ofNat 16 (u16 args 0) }).answered l)) ∧
    (s.reaches .acknowledgeEvents l args = true → 16384 ≤ u16 args 0 →
      exec (.acknowledgeEvents l args) s = .next (s.refusedWith l 0x20)) ∧
    (s.reaches .setEventMask l args = true → 16384 ≤ u16 args 0 →
      exec (.setEventMask l args) s = .next (s.refusedWith l 0x20))

/-- Raising flags makes them pending and not seen on every link, or holds them while the part is STARTING; a
link's output is asserted exactly while a pending flag is enabled. A flag raised again after it was read
survives an acknowledgement, and one that was not stays cleared. -/
def Obligations.FlagsArePendingUntilReadAndAcknowledged : Prop :=
  ((∀ (s : State) (f : FlagSet), s.supply.power ≠ .starting →
    (s.raiseAll f).time = s.time ∧ (s.raiseAll f).recorder = s.recorder ∧
    (s.raiseAll f).links = s.links ∧ ∀ l,
      ((s.raiseAll f).attention.get l).pending = (s.attention.get l).pending ||| f ∧
      ((s.raiseAll f).attention.get l).seen = (s.attention.get l).seen &&& ~~~f ∧
      ((s.raiseAll f).attention.get l).mask = (s.attention.get l).mask) ∧
  (∀ (s : State) (f : FlagSet), s.supply.power = .starting →
    (s.raiseAll f).attention = { s.attention with held := s.attention.held ||| f }) ∧
  (∀ (s : State) (l : Link), s.supply.power = .running →
    (s.atn l = true ↔ ∃ k, k < 16 ∧ (s.attention.get l).pending.getLsbD k = true ∧
      (s.attention.get l).mask.getLsbD k = true))) ∧
  (∀ (a : Attention) (raised named : FlagSet) (k : Nat), k < 16 →
    a.seen &&& ~~~a.pending = 0 →
    ((((a.markSeen).raise raised).acknowledge named).pending.getLsbD k =
      (raised.getLsbD k || (a.pending.getLsbD k && !named.getLsbD k))))

/-! ### Requests answered at once -/

/-- LINK STATUS is answered in every mode, while STARTING and during an operation; READ TIME, READ LIVE,
READ CONFIG and READ TALLY return their blocks (laid out as BlocksAreLaidOut says); none of them changes
anything but the marks it clears. The millisecond that READ TIME reports is the operand, never before the phase
reached (the model's choice, log entry 1); that a port held deselected answers too, its receiver reported as it stands,
is the model's choice (log entry 2). -/
def Obligations.ReadRequestsAreAnswered : Prop :=
  (∀ (s : State) (l : Link), s.listens l →
    exec (.linkStatus l []) s = .next (s.withReply l ((s.port l).replying
      (s.replyBits (noticeByte l s.links.marks)) (some (linkStatusBlock s l))))) ∧
  (∀ (s : State) (l : Link) (args : List Byte),
    (∀ phase, s.reaches .readTime l args = true →
      exec (.readTime l args phase) s = .next (s.withReply l ((s.port l).replying
        (noticeByte l s.links.marks) (some (bytes4 s.time.counter ++
          bytes2 (max s.time.phase (min phase 999)) ++
          byteBool s.time.clockValid ++ byte1 (refStateCode s.time.reference) ++
          bytesSigned2 s.time.pendingSlew ++ bytes2 s.time.badPulses))))) ∧
    (s.reaches .readLive l args = true →
      exec (.readLive l args) s = .next (s.withReply l ((s.port l).replying
        (noticeByte l s.links.marks) (some (liveBlock s (BitVec.ofNat 32 (u32 args 0))))))) ∧
    (s.reaches .readConfig l args = true → u8 args 0 = 0 →
      exec (.readConfig l args) s = .next (s.withReply l ((s.port l).replying
        (noticeByte l s.links.marks) (some (activeBlock s.config.active))))) ∧
    (s.reaches .readConfig l args = true → u8 args 0 = 1 →
      exec (.readConfig l args) s = .next (s.withReply l ((s.port l).replying
        (noticeByte l s.links.marks) (some (stageBlock s.config.stage s.time.counter))))) ∧
    (s.reaches .readConfig l args = true → 2 ≤ u8 args 0 →
      exec (.readConfig l args) s = .next (s.refusedWith l 0x20)) ∧
    (∀ slot, s.reaches .readTally l args = true →
      findSlot s.recorder.tally (u16 args 0) = some slot → u8 args 2 ≤ 31 →
      exec (.readTally l args) s = .next (s.withReply l ((s.port l).replying
        (noticeByte l s.links.marks) (some (tallyChannelBlock slot (u8 args 2)))))) ∧
    (∀ slot, s.reaches .readTally l args = true →
      findSlot s.recorder.tally (u16 args 0) = some slot → u8 args 2 = 255 →
      exec (.readTally l args) s = .next (s.withReply l ((s.port l).replying
        (noticeByte l s.links.marks) (some (tallyDeviceBlock slot))))) ∧
    (s.reaches .readTally l args = true →
      (findSlot s.recorder.tally (u16 args 0) = none ∨ (31 < u8 args 2 ∧ u8 args 2 ≠ 255)) →
      exec (.readTally l args) s = .next (s.refusedWith l 0x20)))

/-- SUBMIT VALUE fills the value slot of its channel, and SET STACK SIGNALS the link signal slot of its
stack, with the present second, and nothing else changes; or they are refused. That the outgoing tables decide while
a boundary waits for the write of an APPROVE is the model's choice (log entry 20). -/
def Obligations.PlantValuesFillTheirSlots : Prop :=
  (∀ (s : State) (l : Link) (args : List Byte), s.reaches .submitValue l args = true →
    (31 < u8 args 0 ∨ 1 < u8 args 5 →
      exec (.submitValue l args) s = .next (s.refusedWith l 0x20)) ∧
    (u8 args 0 ≤ 31 → u8 args 5 ≤ 1 → ((s.inForce.channel (u8 args 0)).inUse = false ∨
        (s.inForce.channel (u8 args 0)).source ≠ .link) →
      exec (.submitValue l args) s = .next (s.refusedWith l 0x40)) ∧
    (u8 args 0 ≤ 31 → u8 args 5 ≤ 1 → (s.inForce.channel (u8 args 0)).inUse = true →
      (s.inForce.channel (u8 args 0)).source = .link →
      exec (.submitValue l args) s = .next ({ s with scan := { s.scan with
        slots := s.scan.slots.set (u8 args 0)
          (some { value := s32 args 1, maintenance := u8 args 5 == 1,
                  arrival := s.time.counter }) } }.answered l))) ∧
  (∀ (s : State) (l : Link) (args : List Byte), s.reaches .setStackSignals l args = true →
    (3 < u8 args 0 ∨ 1 < u8 args 1 ∨ 1 < u8 args 2 ∨ 1 < u8 args 3 →
      exec (.setStackSignals l args) s = .next (s.refusedWith l 0x20)) ∧
    (u8 args 0 ≤ 3 → u8 args 1 ≤ 1 → u8 args 2 ≤ 1 → u8 args 3 ≤ 1 →
      ((s.inForce.stack (u8 args 0)).inUse = false ∨
        (s.inForce.stack (u8 args 0)).source = .lines) →
      exec (.setStackSignals l args) s = .next (s.refusedWith l 0x40)) ∧
    (∀ u v, u8 args 0 ≤ 3 → u8 args 1 ≤ 1 → u8 args 2 ≤ 1 → u8 args 3 ≤ 1 →
      (s.inForce.stack (u8 args 0)).inUse = true → (s.inForce.stack (u8 args 0)).source = .link →
      s.stackUnits[u8 args 0]? = some u →
      v = { levels := ⟨u8 args 1 == 1, u8 args 2 == 1, u8 args 3 == 1⟩,
            arrival := some s.time.counter } →
      exec (.setStackSignals l args) s = .next
        ({ s with
          stackUnits := s.stackUnits.set (u8 args 0) { u with slot := some v } }.answered l)))

/-! ### Busy operations -/

/-- A busy request that needs a write: in a READY store it becomes the operation in flight with its write
claim waiting, the arbiter takes its turn, and the request is answered with 0x00; in FAULT it is accepted,
and ended REFUSED with STORE_FAULT at that moment. Nothing else changes. -/
def Obligations.BusyRequestsAreAccepted : Prop :=
  (∀ (s : State) (l : Link) (args : List Byte) (c : Command) (cmd : BusyCmd),
    s.store.fault = false → s.reaches c l args = true →
    ((c = .stageChannel ∧ s.stageable ∧
        ∃ i e, readStageChannel args = some (i, e) ∧ cmd = .stageChannel i e) ∨
      (c = .stageStack ∧ s.stageable ∧
        ∃ k e, readStageStack args = some (k, e) ∧ cmd = .stageStack k e) ∨
      (c = .stageDevice ∧ s.stageable ∧
        ∃ d, readStageDevice args = some d ∧ cmd = .stageDevice d) ∨
      (c = .withdrawStage ∧ s.movable ∧ cmd = .withdrawStage) ∨
      (c = .approve ∧ s.movable ∧ cmd = .approve) ∨
      (c = .rejectStage ∧ s.config.stage.state ≠ .empty ∧ cmd = .rejectStage) ∨
      (c = .commitCollection ∧ ∃ r, ringOfCode (u8 args 0) = some r ∧
        (s.store.pointers r).collected ≤ u32 args 1 ∧ u32 args 1 ≤ (s.store.pointers r).newest ∧
        cmd = .commitCollection r (u32 args 1)) ∨
      (c = .commitReport ∧ s.supply.mode ≠ .suspended ∧
        (∃ i, slotOfYear s.recorder.tally (u16 args 0) = some i ∧ (s.slot i).state = .final) ∧
        cmd = .commitReport (u16 args 0) none) ∨
      (c = .inService ∧ s.serviceable ∧ cmd = .inService) ∨
      (c = .withdraw ∧ s.supply.mode = .recording ∧ cmd = .withdraw) ∨
      (c = .eraseArchive ∧ s.erasable ∧ cmd = .eraseArchive)) →
    exec (instrOf l args 0 [] c) s =
      .next ((s.withPort l ((s.port l).withOp cmd true)).settle.answered l)) ∧
  (∀ (s : State) (l : Link) (args : List Byte) (c : Command) (cmd : BusyCmd),
    s.store.fault = true → s.reaches c l args = true →
    ((c = .stageChannel ∧ s.stageable ∧
        ∃ i e, readStageChannel args = some (i, e) ∧ cmd = .stageChannel i e) ∨
      (c = .stageStack ∧ s.stageable ∧
        ∃ k e, readStageStack args = some (k, e) ∧ cmd = .stageStack k e) ∨
      (c = .stageDevice ∧ s.stageable ∧
        ∃ d, readStageDevice args = some d ∧ cmd = .stageDevice d) ∨
      (c = .withdrawStage ∧ s.movable ∧ cmd = .withdrawStage) ∨
      (c = .approve ∧ s.movable ∧ cmd = .approve) ∨
      (c = .rejectStage ∧ s.config.stage.state ≠ .empty ∧ cmd = .rejectStage) ∨
      (c = .commitCollection ∧ ∃ r, ringOfCode (u8 args 0) = some r ∧
        (s.store.pointers r).collected ≤ u32 args 1 ∧ u32 args 1 ≤ (s.store.pointers r).newest ∧
        cmd = .commitCollection r (u32 args 1)) ∨
      (c = .commitReport ∧ s.supply.mode ≠ .suspended ∧
        (∃ i, slotOfYear s.recorder.tally (u16 args 0) = some i ∧ (s.slot i).state = .final) ∧
        cmd = .commitReport (u16 args 0) none) ∨
      (c = .inService ∧ s.serviceable ∧ cmd = .inService) ∨
      (c = .withdraw ∧ s.supply.mode = .recording ∧ cmd = .withdraw) ∨
      (c = .eraseArchive ∧ s.erasable ∧ cmd = .eraseArchive)) →
    exec (instrOf l args 0 [] c) s = .next (((s.withPort l ((s.port l).withOp cmd false)).endOp l
      .refused (some .storeFault) none []).settle.answered l))

/-- A busy request whose own conditions do not hold is refused with ARGUMENT or SEQUENCE, and changes
nothing but its reply. That an ill-formed staged entry is refused with ARGUMENT whatever the mode and the stage
is the model's reading (log entry 2). -/
def Obligations.BusyRequestsAreRefused : Prop :=
  ∀ (s : State) (l : Link) (args : List Byte),
    (s.reaches .stageChannel l args = true →
      (readStageChannel args = none →
        exec (.stageChannel l args) s = .next (s.refusedWith l 0x20)) ∧
      ((readStageChannel args).isSome = true → ¬ s.stageable →
        exec (.stageChannel l args) s = .next (s.refusedWith l 0x40))) ∧
    (s.reaches .stageStack l args = true →
      (readStageStack args = none →
        exec (.stageStack l args) s = .next (s.refusedWith l 0x20)) ∧
      ((readStageStack args).isSome = true → ¬ s.stageable →
        exec (.stageStack l args) s = .next (s.refusedWith l 0x40))) ∧
    (s.reaches .stageDevice l args = true →
      (readStageDevice args = none →
        exec (.stageDevice l args) s = .next (s.refusedWith l 0x20)) ∧
      ((readStageDevice args).isSome = true → ¬ s.stageable →
        exec (.stageDevice l args) s = .next (s.refusedWith l 0x40))) ∧
    (s.reaches .withdrawStage l args = true → ¬ s.movable →
      exec (.withdrawStage l args) s = .next (s.refusedWith l 0x40)) ∧
    (s.reaches .approve l args = true → ¬ s.movable →
      exec (.approve l args) s = .next (s.refusedWith l 0x40)) ∧
    (s.reaches .rejectStage l args = true → s.config.stage.state = .empty →
      exec (.rejectStage l args) s = .next (s.refusedWith l 0x40)) ∧
    (s.reaches .commitCollection l args = true →
      (2 < u8 args 0 ∨ ∃ r, ringOfCode (u8 args 0) = some r ∧
        (u32 args 1 < (s.store.pointers r).collected ∨
          (s.store.pointers r).newest < u32 args 1)) →
      exec (.commitCollection l args) s = .next (s.refusedWith l 0x20)) ∧
    (s.reaches .commitReport l args = true →
      (s.supply.mode = .suspended →
        exec (.commitReport l args) s = .next (s.refusedWith l 0x40)) ∧
      (s.supply.mode ≠ .suspended → slotOfYear s.recorder.tally (u16 args 0) = none →
        exec (.commitReport l args) s = .next (s.refusedWith l 0x20)) ∧
      (∀ i, s.supply.mode ≠ .suspended → slotOfYear s.recorder.tally (u16 args 0) = some i →
        (s.slot i).state ≠ .final →
        exec (.commitReport l args) s = .next (s.refusedWith l 0x40))) ∧
    (s.reaches .inService l args = true → ¬ s.serviceable →
      exec (.inService l args) s = .next (s.refusedWith l 0x40)) ∧
    (s.reaches .withdraw l args = true → s.supply.mode ≠ .recording →
      exec (.withdraw l args) s = .next (s.refusedWith l 0x40)) ∧
    (s.reaches .eraseArchive l args = true → ¬ s.erasable →
      exec (.eraseArchive l args) s = .next (s.refusedWith l 0x40))

/-- A commit that finds its conditions still holding begins its write at the second of the commit: the spare
image is programmed with the effect, and nothing else changes; the write of an erase programs no image yet. One
whose conditions have gone ends its operation REFUSED, with the reason and where there is one the index, and
gives its grant back. -/
def Obligations.CommitsBeginTheirWrite : Prop :=
  (∀ (s : State) (g : Grant) (l : Link) (cmd : BusyCmd) (stage : StageSet), s.grants g (.op l) →
    s.opCmd l = some cmd → stage = s.config.stage →
    (∀ i e, cmd = .stageChannel i e → s.stageable →
      exec .stageCommit s = .next ((s.programmed { s.nextArea with stage := { stage with
        state := .opened, channels := stageEntry i e stage.channels } }).withBegun g)) ∧
    (∀ k e, cmd = .stageStack k e → s.stageable →
      exec .stageCommit s = .next ((s.programmed { s.nextArea with stage := { stage with
        state := .opened, stackTab := stageEntry k e stage.stackTab } }).withBegun g)) ∧
    (∀ d, cmd = .stageDevice d → s.stageable →
      exec .stageCommit s = .next ((s.programmed { s.nextArea with stage := { stage with
        state := .opened, device := some d } }).withBegun g)) ∧
    (cmd = .withdrawStage → s.movable →
      exec .withdrawStageCommit s =
        .next ((s.programmed { s.nextArea with stage := .emptied }).withBegun g)) ∧
    (cmd = .rejectStage → stage.state ≠ .empty →
      exec .rejectStageCommit s =
        .next ((s.programmed { s.nextArea with stage := .emptied }).withBegun g)) ∧
    (cmd = .approve → s.movable → s.supply.mode ≠ .commissioning → l ≠ .operator →
      approvalFailure (merged s.config.active stage) = none →
      exec .approveCommit s = .next ((s.programmed { s.nextArea with
        stage := { stage with state := .approved, approver := some l } }).withBegun g)) ∧
    (cmd = .approve → s.movable → s.supply.mode = .commissioning →
      approvalFailure (merged s.config.active stage) = none →
      exec .approveCommit s = .next ((s.programmed { s.nextArea with
        tables := merged s.config.active stage, stage := .emptied }).withBegun g)) ∧
    (∀ r n p, cmd = .commitCollection r n → n ≤ (s.store.pointers r).newest →
      p = { (s.store.pointers r) with collected := max n (s.store.pointers r).collected } →
      exec .collectionCommit s = .next ((s.programmed (match r with
        | .interval => { s.nextArea with interval := p }
        | .day => { s.nextArea with day := p }
        | .event => { s.nextArea with event := p })).withBegun g)) ∧
    (∀ y x i t w, cmd = .commitReport y x → slotOfYear s.recorder.tally y = some i →
      s.recorder.tally[i]? = some t → t.state = .final → (s.port l).op.map LinkOp.waiting = some w →
      exec .reportCommit s = .next ((({ s with store := { s.store with
        tallySpare := s.store.tallySpare.set i { t with state := .reported } } } : State).withPort l
          { (s.port l) with op := some { cmd := .commitReport y (some i), waiting := w } }).withBegun
            g)) ∧
    (cmd = .inService → s.serviceable → exec .inServiceCommit s =
      .next ((s.programmed { s.nextArea with mode := .enteringService }).withBegun g)) ∧
    (cmd = .withdraw → s.supply.mode = .recording → exec .withdrawCommit s =
      .next ((s.programmed { s.nextArea with mode := .withdrawn }).withBegun g)) ∧
    (cmd = .eraseArchive → s.erasable → exec .eraseGrant s = .next (s.withBegun g))) ∧
  (∀ (s : State) (g : Grant) (l : Link) (cmd : BusyCmd) (refused : Reason → Option Nat → State),
    s.grants g (.op l) → s.opCmd l = some cmd →
    (refused = fun r i => ((s.endOp l .refused (some r) i []).granted none).settle) →
    (((∃ i e, cmd = .stageChannel i e) ∨ (∃ k e, cmd = .stageStack k e) ∨
        ∃ d, cmd = .stageDevice d) → ¬ s.stageable →
      exec .stageCommit s = .next (refused .sequence none)) ∧
    (cmd = .withdrawStage → ¬ s.movable →
      exec .withdrawStageCommit s = .next (refused .sequence none)) ∧
    (cmd = .rejectStage → s.config.stage.state = .empty →
      exec .rejectStageCommit s = .next (refused .sequence none)) ∧
    (cmd = .approve → (¬ s.movable ∨ (l = .operator ∧ s.supply.mode ≠ .commissioning)) →
      exec .approveCommit s = .next (refused .sequence none)) ∧
    (∀ r i, cmd = .approve → s.movable → (l = .operator → s.supply.mode = .commissioning) →
      approvalFailure (merged s.config.active s.config.stage) = some (r, i) →
      exec .approveCommit s = .next (refused r (some i))) ∧
    (∀ r n, cmd = .commitCollection r n → (s.store.pointers r).newest < n →
      exec .collectionCommit s = .next (refused .argument none)) ∧
    (∀ y x, cmd = .commitReport y x → slotOfYear s.recorder.tally y = none →
      exec .reportCommit s = .next (refused .argument none)) ∧
    (∀ y x i, cmd = .commitReport y x → slotOfYear s.recorder.tally y = some i →
      (s.slot i).state ≠ .final → exec .reportCommit s = .next (refused .sequence none)) ∧
    (cmd = .inService → ¬ s.serviceable →
      exec .inServiceCommit s = .next (refused .sequence none)) ∧
    (cmd = .withdraw → s.supply.mode ≠ .recording →
      exec .withdrawCommit s = .next (refused .sequence none)) ∧
    (cmd = .eraseArchive → ¬ s.erasable →
      exec .eraseGrant s = .next (refused .sequence none)))

/-- The checks of an approval pass exactly when no input is used twice, every channel in use has its stack
in use, every reference that a pollutant needs is there, and every reference named fits. A failure reports the
first check of the five that fails, and within it the lowest index that does. -/
def Obligations.ApprovalChecksAreThose : Prop :=
  ∀ (t : Tables) (clash homeless lacksO2 lacksH2o misfit : Nat → Prop)
    (lowest : (Nat → Prop) → Nat → Nat → Prop),
    (∀ c, clash c ↔ (t.channel c).inUse = true ∧ ∃ i d, (t.channel c).source = .analog i ∧ d < c ∧
      (t.channel d).inUse = true ∧ (t.channel d).source = .analog i) →
    (∀ c, homeless c ↔ (t.channel c).inUse = true ∧ (t.stack (t.channel c).stack).inUse = false) →
    (∀ c, lacksO2 c ↔ (t.channel c).inUse = true ∧ (t.channel c).kind.peripheral = false ∧
      (t.channel c).o2Ref.isSome = true ∧
      ∀ o, (t.stack (t.channel c).stack).o2Chan = some o → (t.channel o).inUse = false) →
    (∀ c, lacksH2o c ↔ (t.channel c).inUse = true ∧ (t.channel c).kind.peripheral = false ∧
      (t.channel c).wet = true ∧
      ∀ h, (t.stack (t.channel c).stack).h2oChan = some h → (t.channel h).inUse = false) →
    (∀ k, misfit k ↔ (t.stack k).inUse = true ∧ ∃ r,
      ((t.stack k).o2Chan = some r ∧ ((t.channel r).kind ≠ .o2 ∨ (t.channel r).stack ≠ k)) ∨
      ((t.stack k).h2oChan = some r ∧ ((t.channel r).kind ≠ .h2o ∨ (t.channel r).stack ≠ k)) ∨
      ((t.stack k).flowChan = some r ∧ ((t.channel r).kind ≠ .flow ∨ (t.channel r).stack ≠ k))) →
    (∀ p bound i, lowest p bound i ↔ i < bound ∧ p i ∧ ∀ j, j < i → ¬ p j) →
    (approvalFailure t = none ↔ (∀ c, c < 32 → ¬ clash c ∧ ¬ homeless c ∧ ¬ lacksO2 c ∧
      ¬ lacksH2o c) ∧ ∀ k, k < 4 → ¬ misfit k) ∧
    (∀ reason i, approvalFailure t = some (reason, i) ↔
      (reason = .inputConflict ∧ lowest clash 32 i) ∨
      ((∀ c, c < 32 → ¬ clash c) ∧
        ((reason = .stackNotInUse ∧ lowest homeless 32 i) ∨
        ((∀ c, c < 32 → ¬ homeless c) ∧ reason = .referenceMissing ∧
          (lowest lacksO2 32 i ∨
          ((∀ c, c < 32 → ¬ lacksO2 c) ∧
            (lowest lacksH2o 32 i ∨
            ((∀ c, c < 32 → ¬ lacksH2o c) ∧ lowest misfit 4 i))))))))

/-! ### Readouts -/

/-- OPEN READOUT creates a readout, which takes its first step: a walk past the newest record ends at once,
one before the oldest ends with OVERTAKEN, any other claims its read. READOUT_READ_GRANT: a record numbered
as the position asks is walked, joins the forming block when it passes the filter, and sends the block when
it is its eighth; a position that is empty or holds another record ends the readout with OVERTAKEN. -/
def Obligations.ReadoutsWalkTheirRing : Prop :=
  (∀ (s : State) (l : Link) (args : List Byte) (ring : RingName) (r : Readout) (p : Pointers),
    s.reaches .openReadout l args = true →
    (2 < u8 args 0 ∨ u32 args 1 = 0 ∨ u16 args 5 = 0 →
      exec (.openReadout l args) s = .next (s.refusedWith l 0x20)) ∧
    (ringOfCode (u8 args 0) = some ring → u32 args 1 ≠ 0 → u16 args 5 ≠ 0 →
      r = { ring := ring, next := u32 args 1, walked := 0, count := u16 args 5,
            match3 := BitVec.ofNat 24 (u8 args 7 * 65536 + u16 args 8),
            mask3 := BitVec.ofNat 24 (u8 args 10 * 65536 + u16 args 11),
            forming := [], waiting := false, ended := false, stopping := false } →
      p = s.store.pointers ring →
      (p.newest < u32 args 1 →
        exec (.openReadout l args) s = .next ((s.withPort l { (s.port l) with
          readout := some { r with ended := true }
          tx := (s.port l).tx ++ [.endOfStream] }).settle.answered l)) ∧
      (u32 args 1 ≤ p.newest → u32 args 1 < p.oldest →
        exec (.openReadout l args) s = .next ((s.withPort l { (s.port l) with
          readout := some { r with ended := true }
          tx := (s.port l).tx ++ [.dataFault 0x01] }).settle.answered l)) ∧
      (p.oldest ≤ u32 args 1 → u32 args 1 ≤ p.newest →
        exec (.openReadout l args) s = .next ((s.withPort l { (s.port l) with
          readout := some { r with waiting := true } }).settle.answered l)))) ∧
  (∀ (s t : State) (l : Link) (g : Grant) (r r' : Readout) (p : Pointers), s.grants g (.readout l) →
    (s.port l).readout = some r →
    (g.stale = true ∨ r.ended = true →
      exec .readoutReadGrant s = .next (s.granted none).settle) ∧
    (g.stale = false → r.ended = false →
      ((s.store.readRecord r.ring r.next = .empty ∨
          ∃ q, s.store.readRecord r.ring r.next = .other q) →
        t = (s.granted none).withPort l { (s.port l) with
          readout := some { r with forming := [], waiting := false, ended := true }
          tx := (s.port l).tx ++ formedBlock r.forming ++ [.dataFault 0x01] } →
        exec .readoutReadGrant s = .next t.settle) ∧
      (∀ key bytes, s.store.readRecord r.ring r.next = .record (key, bytes) →
        p = s.store.pointers r.ring →
        r' = { r with
          walked := r.walked + 1
          next := r.next + 1
          waiting := false
          forming := if key &&& r.mask3 = r.match3 &&& r.mask3 then r.forming ++ [bytes]
            else r.forming } →
        (8 ≤ r'.forming.length →
          t = (s.granted none).withPort l { (s.port l) with
            readout := some { r' with forming := [] }
            tx := (s.port l).tx ++ [.streamBlock r'.forming.flatten] } →
          exec .readoutReadGrant s = .next t.settle) ∧
        (r'.forming.length < 8 → r'.walked ≠ r'.count → r'.next ≤ p.newest →
          p.oldest ≤ r'.next →
          t = (s.granted none).withPort l { (s.port l) with
            readout := some { r' with waiting := true } } →
          exec .readoutReadGrant s = .next t.settle) ∧
        (r'.forming.length < 8 → r'.walked ≠ r'.count → r'.next ≤ p.newest →
          r'.next < p.oldest →
          t = (s.granted none).withPort l { (s.port l) with
            readout := some { r' with forming := [], ended := true }
            tx := (s.port l).tx ++ formedBlock r'.forming ++ [.dataFault 0x01] } →
          exec .readoutReadGrant s = .next t.settle) ∧
        (r'.forming.length < 8 → (r'.walked = r'.count ∨ p.newest < r'.next) →
          t = (s.granted none).withPort l { (s.port l) with
            readout := some { r' with forming := [], ended := true }
            tx := (s.port l).tx ++ formedBlock r'.forming ++ [.endOfStream] } →
          exec .readoutReadGrant s = .next t.settle))))

/-- STOP closes the readout of a streaming port that is not sending a block, with one end-of-stream token,
whatever token was to follow, and its own reply; it waits for a block that is being sent; a read granted to the
readout is discarded; in any other state of the receiver STOP is refused. After a block (READOUT_BLOCK_SENT) the
readout takes its next step, goes on to the token of a walk that has ended, or closes for a STOP. That a STOP
of a wrong argument length is discarded is read from R173 (log entry 2). Where the reply of a STOP refused while the
part is STARTING stands, and that what an erase has left goes out before anything else, are the model's choice (log
entries 19 and 14). -/
def Obligations.ReadoutsEnd : Prop :=
  (∀ (s t : State) (l : Link) (args : List Byte) (r : Readout) (arb : Arbiter),
    (s.reaches .stop l args = true → exec (.stop l args) s = .next (s.refusedWith l 0x40)) ∧
    (s.linksRespond = true → (s.port l).recv = .streaming → args.length ≠ 0 →
      exec (.stop l args) s = .next s) ∧
    (s.supply.power = .starting → (s.port l).recv = .streaming →
      exec (.stop l []) s = .next (s.refusedWith l 0x01)) ∧
    (s.running = true → (s.port l).recv = .streaming → (s.port l).readout = some r →
      (((∀ g, s.arbiter.grant = some g → g.claim ≠ .readout l) ∧ arb = s.arbiter) ∨
        ∃ g, s.arbiter.grant = some g ∧ g.claim = .readout l ∧
          arb = { s.arbiter with grant := some { g with stale := true } }) →
      ((∀ d rest, (s.port l).tx ≠ .streamBlock d :: rest) →
        t = { (s.withPort l { (s.port l) with
          readout := none, recv := .replying, tx := [.endOfStream, .reply 0x00] }) with
            arbiter := arb } →
        exec (.stop l []) s = .next t.settle) ∧
      (∀ d rest, (s.port l).tx = .streamBlock d :: rest →
        t = { (s.withPort l { (s.port l) with
          readout := some { r with forming := [], waiting := false, stopping := true } }) with
            arbiter := arb } →
        exec (.stop l []) s = .next t.settle))) ∧
  (∀ (s t : State) (l : Link) (r : Readout) (d : List Byte) (rest : List TxItem) (p : Pointers),
    s.linksRespond = true →
    ((s.port l).leaving = .streamBlock d :: rest →
      t = s.withPort l { (s.port l) with leaving := rest } →
      exec (.readoutBlockSent l) s = .next t.settle) ∧
    ((s.port l).leaving = [] → (s.port l).tx = .streamBlock d :: rest →
      (s.port l).recv = .streaming → (s.port l).readout = some r → p = s.store.pointers r.ring →
      (r.stopping = true →
        t = s.withPort l { (s.port l) with
          readout := none, recv := .replying, tx := [.endOfStream, .reply 0x00] } →
        exec (.readoutBlockSent l) s = .next t.settle) ∧
      (r.stopping = false → r.ended = true → t = s.withPort l { (s.port l) with tx := rest } →
        exec (.readoutBlockSent l) s = .next t.settle) ∧
      (r.stopping = false → r.ended = false → r.walked ≠ r.count → r.next ≤ p.newest →
        (p.oldest ≤ r.next → p.newest ≠ 0 →
          t = s.withPort l { (s.port l) with
            readout := some { r with waiting := true }, tx := rest } →
          exec (.readoutBlockSent l) s = .next t.settle) ∧
        (r.next < p.oldest ∨ p.newest = 0 →
          t = s.withPort l { (s.port l) with
            readout := some { r with forming := [], waiting := false, ended := true }
            tx := rest ++ formedBlock r.forming ++ [.dataFault 0x01] } →
          exec (.readoutBlockSent l) s = .next t.settle)) ∧
      (r.stopping = false → r.ended = false → (r.walked = r.count ∨ p.newest < r.next) →
        t = s.withPort l { (s.port l) with
          readout := some { r with forming := [], waiting := false, ended := true }
          tx := rest ++ formedBlock r.forming ++ [.endOfStream] } →
        exec (.readoutBlockSent l) s = .next t.settle)))

/-! ### The store -/

/-- What the arbiter grants when it is idle: the recorder's claims before the links', and between two links
the one that the arbiter mode in force prefers; a grant to a link sets the rotation pointer. That the arbiter takes its turn at
the end of each step is the model's reading (log entry 7). -/
def Obligations.ArbiterGrantsInOrder : Prop :=
  ∀ (s : State) (a b : Option Claim), s.running = true → s.arbiter.grant = none →
    a = s.links.operator.claim .operator → b = s.links.inspection.claim .inspection →
    ((s.recorderClaim = none → a = none → b = none → s.settle = s) ∧
    (s.store.fault = false → s.supply.mode ≠ .suspended →
      (∀ rest, s.arbiter.recClaims = .transfer :: rest →
        s.settle = s.makeGrant .transfer none) ∧
      (∀ rest, s.arbiter.recClaims = .protection :: rest →
        s.settle = s.makeGrant .protection none) ∧
      (s.arbiter.recClaims = [] → s.recorder.queue ≠ [] →
        s.settle = s.makeGrant .queue none)) ∧
    ((s.store.fault = true ∨ s.supply.mode = .suspended ∨
        (s.arbiter.recClaims = [] ∧ s.recorder.queue = [])) →
      (∀ c, a = some c → b = none → s.settle = s.makeGrant c (some .operator)) ∧
      (∀ c, a = none → b = some c → s.settle = s.makeGrant c (some .inspection)) ∧
      (∀ c d, a = some c → b = some d →
        (s.inForce.device.arbiterMode = .operatorLast ∨
          (s.inForce.device.arbiterMode = .rotate ∧ s.arbiter.rotation = .operator) →
          s.settle = s.makeGrant d (some .inspection)) ∧
        (s.inForce.device.arbiterMode = .inspectionLast ∨
          (s.inForce.device.arbiterMode = .rotate ∧ s.arbiter.rotation ≠ .operator) →
          s.settle = s.makeGrant c (some .operator))))) ∧
    ∀ c o, (s.makeGrant c o).arbiter.rotation = o.getD s.arbiter.rotation ∧
      (s.makeGrant c o).arbiter.grant = some {
        claim := c, begun := false, failedOnce := false, part := 0
        second := s.time.counter, stale := false } ∧
      s.sameCore (s.makeGrant c o) ∧ (s.makeGrant c o).recorder = s.recorder ∧
      (s.makeGrant c o).store = s.store ∧ (s.makeGrant c o).config = s.config ∧
      (s.makeGrant c o).attention = s.attention

/-- A record offered to a queue of fewer than 96 joins its end; offered to a full one it is not stored, is
counted, and raises STORE. The grants of the recorder's writes begin them, each programming its image: the whole
configuration area with what the write is made for, or a tally image; a full ring first loses its oldest record,
which is counted and flagged where it was uncollected. -/
def Obligations.RecordsAreOfferedAndTheirWritesBegin : Prop :=
  (∀ (s : State) (x : QueueItem),
    (s.recorder.queue.length < 96 → s.offer x =
      { s with recorder := { s.recorder with queue := s.recorder.queue ++ [x] } }) ∧
    (s.recorder.queue.length = 96 → s.supply.power ≠ .starting → s.offer x =
      { s with
        recorder := { s.recorder with notStored := min (s.recorder.notStored + 1) 65535 }
        attention := s.attention.raiseAll 0x0400 })) ∧
  ∀ (s t : State) (g : Grant) (r : RingName) (p p' : Pointers) (writes : State → Pointers → State),
    (writes = fun v x => (v.programmed (v.nextArea.setPointers r {
      newest := x.newest + 1, collected := x.collected
      oldest := if x.oldest = 0 then x.newest + 1 else x.oldest })).withBegun g) →
    (s.grants g .transfer → exec .transferWriteGrant s = .next ((s.programmed { s.nextArea with
      tables := s.config.active, stage := s.config.stage }).withBegun g)) ∧
    (s.grants g .protection → exec .protectionWordGrant s = .next ((s.programmed { s.nextArea with
      protection := s.store.closedThrough }).withBegun g)) ∧
    (s.grants g .queue →
      (∀ i c rest, s.recorder.queue = .checkpoint i c :: rest →
        exec .queueWriteGrant s = .next (State.withBegun { s with store := { s.store with
          tallySpare := s.store.tallySpare.set i c } } g)) ∧
      (∀ item rest, s.recorder.queue = item :: rest → item.ring = some r →
        p = s.store.pointers r →
        (p.oldest = 0 ∨ p.newest + 1 - p.oldest ≠ r.capacity →
          exec .queueWriteGrant s = .next (writes s p)) ∧
        (p.oldest ≠ 0 → p.newest + 1 - p.oldest = r.capacity →
          p' = { p with collected := max p.collected p.oldest, oldest := p.oldest + 1 } →
          t = { s with
            store := (s.store.setPointers r p').dropAt r ((p.oldest - 1) % r.capacity) } →
          (p.oldest ≤ p.collected ∨
              s.store.numberAt r ((p.oldest - 1) % r.capacity) ≠ some p.oldest →
            exec .queueWriteGrant s = .next (writes t p')) ∧
          (p.collected < p.oldest →
            s.store.numberAt r ((p.oldest - 1) % r.capacity) = some p.oldest →
            exec .queueWriteGrant s = .next (writes { t with
              recorder := { s.recorder with
                overwritten := min (s.recorder.overwritten + 1) 65535 }
              attention := s.attention.raiseAll 0x0800 } p')))))

/-- A ring record that verifies takes the number newest + 1 and its position, and leaves the queue; the
pointers follow in the ring, the image of the configuration area programmed with it is current and the former
one spare, and every other position stays. A tally checkpoint that verifies is its slot's current image, the
former one the spare, and leaves the queue. -/
def Obligations.QueuedRecordsAreWritten : Prop :=
  (∀ (s : State) (g : Grant) (item : QueueItem) (rest : List QueueItem) (r : RingName) (q : Nat)
    (p : Pointers), s.programs g .queue → s.RingsOrdered → s.recorder.queue = item :: rest →
    item.ring = some r → q = (s.store.pointers r).newest + 1 →
    p = { newest := q, collected := (s.store.pointers r).collected,
          oldest := if (s.store.pointers r).oldest = 0 then q else (s.store.pointers r).oldest } →
    ∃ u, exec (.writeAttemptComplete .verified) s = .next u.settle ∧ s.sameCore u ∧
      u.links = s.links ∧ u.config = s.config ∧
      u.arbiter = { s.arbiter with grant := none } ∧
      s.store.sameButRings u.store ∧
      (∀ x, item = .interval x → u.recorder =
        { s.recorder with queue := rest, table := markStored x q s.recorder.table }) ∧
      ((∀ x, item ≠ .interval x) → u.recorder = { s.recorder with queue := rest }) ∧
      u.store.cell r ((q - 1) % r.capacity) = some (q, item) ∧
      (∀ r' n, (r' ≠ r ∨ n ≠ (q - 1) % r.capacity) → u.store.cell r' n = s.store.cell r' n) ∧
      u.store.pointers r = p ∧ (∀ r', r' ≠ r → u.store.pointers r' = s.store.pointers r') ∧
      u.store.area = s.store.areaSpare ∧ u.store.areaSpare = s.store.area ∧
      u.store.intervalSpare = s.store.intervalSpare ∧
      u.store.armed r = decide (3072 ≤ r.capacity - (p.newest - p.collected)) ∧
      u.attention = (if r.capacity - (p.newest - p.collected) < 3072 ∧ s.store.armed r = true then
        s.attention.raiseAll 0x0800 else s.attention)) ∧
  (∀ (s t : State) (g : Grant) (i : Nat) (c old : TallySlot) (rest : List QueueItem),
    s.programs g .queue → s.recorder.queue = .checkpoint i c :: rest →
    s.store.tally[i]? = some old →
    t = { s with
      recorder := { s.recorder with queue := rest }
      store := { s.store with
        tally := s.store.tally.set i c, tallySpare := s.store.tallySpare.set i old } } →
    exec (.writeAttemptComplete .verified) s = .next (t.granted none).settle)

/-- A first failed attempt is followed by a second, and pointers that fail behind a ring record by another
attempt at them; a second failure puts the store in FAULT, with a record that names the place: a ring record
stays at the head of the queue, its position empty, or holding it where only the pointers failed; a checkpoint,
a transfer, a protection word and a rewrite are not made; and a link operation ends REFUSED with STORE_FAULT.
What entering FAULT does: the record, the flag, the end of the grant, and the end of each link write that waits.
Which argument names the retention area, and which of the two tally images an erase failed at, are free (log
entries 9 and 10); that failed pointers give the configuration area is read from R134 (log entry 7); and a boundary
that waited for the write is crossed (log entry 20). -/
def Obligations.FailedWritesAreRetriedOnce : Prop :=
  (∀ (s : State) (w : Word), s.running = true → s.roomFor 1 →
    s.enterFault w = ((({ s with
      store := { s.store with fault := true }
      recorder := { s.recorder with queue := s.recorder.queue ++ [.event {
        time := s.time.counter, kind := .storeFault, stack := none, channel := none
        argument := w }] }
      attention := s.attention.raiseAll 0x0400 } : State).granted none).refuseWaiting
        .operator).refuseWaiting .inspection) ∧
  (∀ (s : State) (l : Link),
    ((s.port l).op = none → s.refuseWaiting l = s) ∧
    (∀ o, (s.port l).op = some o →
      ((∀ op, o.cmd ≠ .applyAnnotation op) →
        s.refuseWaiting l = if o.waiting then s.endOp l .refused (some .storeFault) none [] else s) ∧
      (∀ op, o.cmd = .applyAnnotation op →
        ((∃ old new, op.phase = .verified old new) → s.refuseWaiting l = s) ∧
        ((∀ old new, op.phase ≠ .verified old new) → s.roomFor 1 → s.running = true →
          s.refuseWaiting l = (State.endOp .operator .refused (some .storeFault) none op.counts.list
            { s with
              recorder := { s.recorder with queue := s.recorder.queue ++ [.event {
                time := s.time.counter, kind := .annotation, stack := some op.stack
                channel := op.channel, argument := BitVec.ofNat 32 op.counts.applied }] }
              attention := s.attention.raiseAll 0x1000 }))))) ∧
  ∀ (s : State) (g : Grant) (c : Claim) (a : Attempt), s.programs g c → a ≠ .verified →
    (∀ item rest r, c = .queue → s.recorder.queue = item :: rest → item.ring = some r → g.part = 0 →
      a = .pointersFailed → exec (.writeAttemptComplete a) s =
        .next (s.granted (some { g with part := 1, failedOnce := true }))) ∧
    ((a = .failed ∨ c ≠ .queue ∨ g.part ≠ 0 ∨
        ∃ i t rest, s.recorder.queue = .checkpoint i t :: rest) →
      (g.failedOnce = false → exec (.writeAttemptComplete a) s =
        .next (s.granted (some { g with failedOnce := true }))) ∧
      (g.failedOnce = true →
        (∀ item rest r n code, c = .queue → s.recorder.queue = item :: rest →
          item.ring = some r → n = (s.store.pointers r).newest % r.capacity →
          code = (match r with | .interval => 1 | .day => 2 | .event => 3) →
          (g.part = 0 → exec (.writeAttemptComplete a) s = .next (State.enterFault
            (BitVec.ofNat 32 (code * 16777216 + n))
            { s with store := s.store.dropAt r n }).settle) ∧
          (g.part ≠ 0 → ∃ st : Store, exec (.writeAttemptComplete a) s = .next (State.enterFault
              (BitVec.ofNat 32 (5 * 16777216)) { s with store := st }).settle ∧
            st.cell r n = some ((s.store.pointers r).newest + 1, item) ∧
            (∀ r' m, (r' ≠ r ∨ m ≠ n) → st.cell r' m = s.store.cell r' m) ∧
            (∀ r', st.pointers r' = s.store.pointers r' ∧ st.armed r' = s.store.armed r') ∧
            st.area = s.store.area ∧ st.areaSpare = s.store.areaSpare ∧
            st.intervalSpare = s.store.intervalSpare ∧ s.store.sameButRings st)) ∧
        (∀ i t rest, c = .queue → s.recorder.queue = .checkpoint i t :: rest →
          exec (.writeAttemptComplete a) s =
            .next (s.enterFault (BitVec.ofNat 32 (4 * 16777216 + i))).settle) ∧
        (c = .transfer ∨ c = .protection → exec (.writeAttemptComplete a) s =
          .next (s.enterFault (BitVec.ofNat 32 (5 * 16777216))).settle) ∧
        (∀ op q old new, c = .annRewrite → s.annotation = some op →
          op.phase = .programming q old new → exec (.writeAttemptComplete a) s =
            .next (s.enterFault (BitVec.ofNat 32 (16777216 + (q - 1) % 65536))).settle) ∧
        (∀ l cmd, c = .op l → s.opCmd l = some cmd →
          ((cmd = .approve ∨ cmd = .rejectStage ∨ cmd = .withdrawStage ∨ cmd = .inService ∨
              cmd = .withdraw ∨ (cmd = .eraseArchive ∧ 2 ≤ g.part) ∨
              (∃ r n, cmd = .commitCollection r n) ∨ (∃ i e, cmd = .stageChannel i e) ∨
              (∃ k e, cmd = .stageStack k e) ∨ ∃ d, cmd = .stageDevice d) →
            exec (.writeAttemptComplete a) s = .next ((s.enterFault (BitVec.ofNat 32
              (5 * 16777216))).endOp l .refused (some .storeFault) none []).passHeld.settle) ∧
          (∀ y i, cmd = .commitReport y (some i) →
            exec (.writeAttemptComplete a) s = .next ((s.enterFault (BitVec.ofNat 32
              (4 * 16777216 + i))).endOp l .refused (some .storeFault) none []).passHeld.settle) ∧
          (cmd = .eraseArchive → g.part = 0 → ∃ w,
            exec (.writeAttemptComplete a) s = .next ((State.enterFault w { s with
              freeDraws := s.freeDraws + 1 }).endOp l .refused (some .storeFault) none
                []).passHeld.settle) ∧
          (cmd = .eraseArchive → g.part = 1 → ∃ k, k < 2 ∧
            exec (.writeAttemptComplete a) s = .next ((State.enterFault (BitVec.ofNat 32
              (4 * 16777216 + k)) { s with freeDraws := s.freeDraws + 1 }).endOp l .refused
                (some .storeFault) none []).passHeld.settle))))

/-- A stage operation's write verifies: the stage set changes in the live state, the image of the configuration
area programmed at the commit is current, the change is recorded and flagged, and the operation ends DONE. An
approval in COMMISSIONING transfers in the same commit: the merged tables are in force, the stage is EMPTY, both
records are written, and a change of mains rejection unlocks the synthesizer. That the outgoing tables stay in
force until the next second boundary, the order of the records, and that a boundary which has waited for the
write is crossed last, are the model's reading (log entries 6, 18 and 20). -/
def Obligations.StageWritesTakeEffect : Prop :=
  (∀ (s u : State) (g : Grant) (l : Link) (cmd : BusyCmd) (stage : StageSet)
    (events : List EventRec), s.programs g (.op l) → s.opCmd l = some cmd → s.roomFor 1 →
    (cmd ≠ .approve ∨ s.supply.mode ≠ .commissioning) →
    ((∃ i e, cmd = .stageChannel i e ∧ stage = { s.config.stage with
        state := .opened, channels := stageEntry i e s.config.stage.channels }) ∨
      (∃ k e, cmd = .stageStack k e ∧ stage = { s.config.stage with
        state := .opened, stackTab := stageEntry k e s.config.stage.stackTab }) ∨
      (∃ d, cmd = .stageDevice d ∧ stage = { s.config.stage with
        state := .opened, device := some d }) ∨
      (cmd = .withdrawStage ∧ stage = .emptied) ∨ (cmd = .rejectStage ∧ stage = .emptied) ∨
      (cmd = .approve ∧ stage = { s.config.stage with state := .approved, approver := some l })) →
    ((cmd = .withdrawStage ∧ events = [.plain g.second .stageWithdrawn 0]) ∨
      (cmd = .rejectStage ∧
        events = [.plain g.second .stageRejected (stageCode s.config.stage.state)]) ∨
      (cmd = .approve ∧ events = [.plain g.second .stageApproved (classCode l)]) ∨
      (stage.state = .opened ∧ s.config.stage.state = .empty ∧
        events = [.plain g.second .stageOpened (classCode l)]) ∨
      (stage.state = .opened ∧ s.config.stage.state ≠ .empty ∧ events = [])) →
    u = { s.swapped with
      config := { s.config with stage := stage }
      recorder := { s.recorder with queue := s.recorder.queue ++ events.map .event }
      attention := if events = [] then s.attention else s.attention.raiseAll 0x0010 } →
    exec (.writeAttemptComplete .verified) s =
      .next ((u.endOp l .done none none []).granted none).passHeld.settle) ∧
  (∀ (s u v : State) (g : Grant) (l : Link) (new : Tables), s.programs g (.op l) →
    s.opCmd l = some .approve → s.supply.mode = .commissioning → s.roomFor 3 →
    new = merged s.config.active s.config.stage →
    u = { s.swapped with
      config := { s.config with
        active := new, stage := .emptied
        changeOver := some (s.config.changeOver.getD s.config.active) }
      recorder := { s.recorder with queue := s.recorder.queue ++
        [.event (.plain g.second .stageApproved (classCode l)),
          .event (.plain g.second .configTransferred g.second)] }
      attention := s.attention.raiseAll 0x0010 } →
    (v = if new.device.mains ≠ s.config.active.device.mains ∧ s.scan.synth = .locked then
        { u with
          scan := { u.scan with synth := .acquiring }
          sec := { u.sec with lockHeld := false }
          recorder := { u.recorder with queue := u.recorder.queue ++
            [.event (.plain s.time.counter .scanClockUnlocked 2)] }
          attention := u.attention.raiseAll 0x0080 }
      else u) →
    exec (.writeAttemptComplete .verified) s =
      .next ((v.endOp l .done none none []).granted none).passHeld.settle)

/-- The other operations' writes verify, and the image that each has programmed is current: COMMIT COLLECTION
raises collected-through, COMMIT REPORT makes its slot REPORTED (its image alone where the slot has been taken
since the commit), IN SERVICE and WITHDRAW change the mode; a transfer's write is no longer pending, and the
protection word is what its grant programmed. What becomes of a slot taken since the
commit (log entry 7), that the start boundary and the withdrawal's point follow from the commit, be it that the
boundary has waited for the write, and what becomes of such a boundary (log entries 15 and 20), are the model's
reading; a start boundary that the counter never reaches is a free value (log entry 23). -/
def Obligations.ArchiveWritesTakeEffect : Prop :=
  ∀ (s u : State) (g : Grant) (l : Link),
    (∀ r n, s.programs g (.op l) → s.opCmd l = some (.commitCollection r n) →
      ∃ v, exec (.writeAttemptComplete .verified) s = .next v.passHeld.settle ∧ s.sameCore v ∧
        v.recorder = s.recorder ∧ v.config = s.config ∧ s.store.sameButRings v.store ∧
        (∀ r' m, v.store.cell r' m = s.store.cell r' m) ∧
        v.store.intervalSpare = s.store.intervalSpare ∧
        v.store.pointers r = { (s.store.pointers r) with
          collected := max n (s.store.pointers r).collected } ∧
        (∀ r', r' ≠ r → v.store.pointers r' = s.store.pointers r' ∧
          v.store.armed r' = s.store.armed r') ∧
        v.store.armed r = (s.store.armed r ||
          decide (3072 ≤ (v.store.pointers r).headroom r)) ∧
        v.store.area = s.store.areaSpare ∧ v.store.areaSpare = s.store.area ∧
        v.arbiter = { s.arbiter with grant := none } ∧ (v.port l).op = none ∧
        ((v.port l).last.map OpResult.outcome) = some .done ∧
        ((v.port l).last.map OpResult.counts) =
          some [max n (s.store.pointers r).collected]) ∧
    (∀ y i image old, s.programs g (.op l) → s.opCmd l = some (.commitReport y (some i)) →
      s.store.tallySpare[i]? = some image → s.store.tally[i]? = some old →
      (∀ x, slotOfYear s.recorder.tally y = some i → s.recorder.tally[i]? = some x →
        u = { s with
          recorder := { s.recorder with tally := s.recorder.tally.set i { x with
            state := .reported } }
          store := { s.store with
            tally := s.store.tally.set i image, tallySpare := s.store.tallySpare.set i old } } →
        exec (.writeAttemptComplete .verified) s =
          .next ((u.endOp l .done none none []).granted none).passHeld.settle) ∧
      (slotOfYear s.recorder.tally y ≠ some i →
        u = { s with store := { s.store with
            tally := s.store.tally.set i image, tallySpare := s.store.tallySpare.set i old } } →
        exec (.writeAttemptComplete .verified) s =
          .next ((u.endOp l .done none none []).granted none).passHeld.settle)) ∧
    (∀ start, s.programs g (.op l) → s.opCmd l = some .inService → s.roomFor 1 →
      start = (if s.sec.held = some .edge ∧ s.time.counter % 1800 = 0 then s.time.counter
        else if (s.time.counter / 1800 + 1) * 1800 ≤ 4294967295 then
          (s.time.counter / 1800 + 1) * 1800
        else (Config.boundaryBeyond s.time.counter).toNat) →
      u = { s.swapped with
        supply := { s.supply with mode := .enteringService }
        recorder := { s.recorder with queue := s.recorder.queue ++
          [.event (.plain g.second .inService start)] } } →
      exec (.writeAttemptComplete .verified) s =
        .next ((u.endOp l .done none none []).granted none).passHeld.settle) ∧
    (s.programs g (.op l) → s.opCmd l = some .withdraw →
      u = { s.swapped with
        supply := { s.supply with mode := .withdrawn }
        recorder := { s.recorder with
          withdrawal := some { point := none, started := false, closed := 0 } } } →
      exec (.writeAttemptComplete .verified) s = .next (u.granted none).passHeld.settle) ∧
    (s.programs g .transfer →
      u = { s.swapped with config := { s.config with transferPending := false } } →
      exec (.writeAttemptComplete .verified) s = .next (u.granted none).settle) ∧
    (s.programs g .protection →
      exec (.writeAttemptComplete .verified) s = .next (s.swapped.granted none).settle)

/-- ERASE ARCHIVE: its three writes follow one another in one grant, and the last makes the part as it
leaves the factory, but for its clock, its stacks' year and its attention flags; a LOCKED synthesizer that
rejected 60 Hz acquires again. What becomes of what a port has to send, of the other link's operation and of the
images that are no longer current, and that the record of the unlocking comes after the queue has been emptied and
raises ACQUISITION on every link, are the model's choice (log entry 14). -/
def Obligations.EraseLeavesTheFactoryArchive : Prop :=
  ∀ (s : State) (g : Grant) (l : Link), s.programs g (.op l) → s.opCmd l = some .eraseArchive →
    (g.part = 0 → exec (.writeAttemptComplete .verified) s = .next
      (({ s with store := { s.store with
          mark := false, tallySpare := List.replicate 2 (.blank .unused none) } } : State).granted
        (some { g with part := 1, failedOnce := false }))) ∧
    (g.part = 1 → exec (.writeAttemptComplete .verified) s = .next
      (({ s with store := { s.store with
          tally := List.replicate 2 (.blank .unused none)
          tallySpare := s.store.tally, areaSpare := .factory } } : State).granted
        (some { g with part := 2, failedOnce := false }))) ∧
    (∀ unlocks : Prop, (unlocks ↔ s.scan.synth = .locked ∧ s.config.active.device.mains = .hz60) →
      2 ≤ g.part →
      ∃ u : State, exec (.writeAttemptComplete .verified) s = .next u.settle ∧
        u.store = { State.reset.store with
          tallySpare := s.store.tallySpare, areaSpare := s.store.area } ∧
        (¬ unlocks → u.recorder = State.reset.recorder ∧ u.scan.synth = s.scan.synth ∧
          ∀ k, k ≠ l → u.attention.get k = s.attention.get k) ∧
        (unlocks → u.recorder = { State.reset.recorder with
            queue := [.event (.plain s.time.counter .scanClockUnlocked 2)] } ∧
          u.scan.synth = .acquiring ∧ u.sec.lockHeld = false ∧
          ∀ k, k ≠ l → u.attention.get k = (s.attention.raiseAll 0x0080).get k) ∧
        u.config = State.reset.config ∧ u.norm = State.reset.norm ∧
        u.arbiter = State.reset.arbiter ∧ u.supply.mode = .commissioning ∧
        u.supply.power = s.supply.power ∧ u.supply.recoveredTo = none ∧
        u.stackUnits = List.replicate 4 (.initial (yearOfDay (dayOf s.time.counter))) ∧
        u.scan.slots = List.replicate 32 none ∧ u.scan.broken = List.replicate 32 false ∧
        u.scan.accs = List.replicate 32 .empty ∧ u.scan.linkStale = List.replicate 32 none ∧
        u.scan.faultyA = s.scan.faultyA ∧ u.scan.faultyB = s.scan.faultyB ∧
        u.scan.latches = s.scan.latches ∧ u.sec.cfg = .factory ∧ u.sec.held = none ∧
        u.sec.checkWaits = none ∧ u.sec.sampleWaits = none ∧ u.sec.before = .nothing ∧
        u.links.marks = .none ∧ u.time = s.time ∧ u.pins = s.pins ∧
        u.freeDraws = s.freeDraws ∧ u.pending = s.pending ∧ (u.port l).op = none ∧
        ((u.port l).last.map OpResult.outcome) = some .done ∧
        (∀ k, k ≠ l → (u.port k).op = (s.port k).op) ∧
        (∀ k, (u.port k).readout = none ∧ (k ≠ .inspection → (u.port k).recv = .idle ∧
            (u.port k).tx = []) ∧
          ((s.port k).readout = none →
            (k = .inspection → (u.port k).tx = (s.port k).tx ∧
              (u.port k).leaving = (s.port k).leaving) ∧
            (k ≠ .inspection → (u.port k).leaving = (s.port k).leaving ++ (s.port k).tx))) ∧
        ∀ k r, (s.port k).readout = some r → (u.port k).recv = .idle ∧ (u.port k).tx = [] ∧
          ∃ kept, (u.port k).leaving = (s.port k).leaving ++ kept ++ [.dataFault 0x01] ∧
            kept.Sublist (s.port k).tx ∧
            ∀ x ∈ (s.port k).tx, (x ∈ kept ↔ (∀ n, x ≠ .dataFault n) ∧ x ≠ .endOfStream))

/-! ### Annotations -/

/-- MARK START and MARK END set the marks by the first row that applies, and change nothing else; from the
commit of WITHDRAW on they find RECORDING no more. -/
def Obligations.MarksAreSet : Prop :=
  ∀ (s t : State) (l : Link) (args : List Byte),
    (s.reaches .markStart l args = true →
      (3 < u8 args 0 ∨ (31 < u8 args 1 ∧ u8 args 1 ≠ 255) ∨ u32 args 2 % 1800 ≠ 0 →
        exec (.markStart l args) s = .next (s.refusedWith l 0x20)) ∧
      (∀ c, u8 args 0 ≤ 3 → u32 args 2 % 1800 = 0 →
        (u8 args 1 = 255 ∧ c = none ∨ u8 args 1 ≤ 31 ∧ c = some (u8 args 1)) →
        (s.supply.mode ≠ .recording ∨ s.committed = some .withdraw →
          exec (.markStart l args) s = .next (s.refusedWith l 0x40)) ∧
        (s.supply.mode = .recording → s.committed ≠ some .withdraw →
          t = { s with links := { s.links with
                  marks := .startMarked (u8 args 0) c (u32 args 2) } } →
          exec (.markStart l args) s = .next (t.withPort l ((s.port l).replying
            (if s.links.marks = .none then 0x00 else 0x40) none))))) ∧
    (s.reaches .markEnd l args = true →
      (u32 args 0 % 1800 ≠ 0 → exec (.markEnd l args) s = .next (s.refusedWith l 0x20)) ∧
      (u32 args 0 % 1800 = 0 → (s.supply.mode ≠ .recording ∨
          s.committed = some .withdraw ∨ s.links.marks = .none) →
        exec (.markEnd l args) s = .next (s.refusedWith l 0x40)) ∧
      (∀ k c a, u32 args 0 % 1800 = 0 → s.supply.mode = .recording →
        s.committed ≠ some .withdraw →
        (s.links.marks = .startMarked k c a ∨ ∃ b, s.links.marks = .bothMarked k c a b) →
        (u32 args 0 < a → exec (.markEnd l args) s = .next (s.refusedWith l 0x40)) ∧
        (a ≤ u32 args 0 → 336 < (u32 args 0 - a) / 1800 + 1 →
          exec (.markEnd l args) s = .next (s.refusedWith l 0x20)) ∧
        (a ≤ u32 args 0 → (u32 args 0 - a) / 1800 + 1 ≤ 336 →
          t = { s with links := { s.links with marks := .bothMarked k c a (u32 args 0) } } →
          exec (.markEnd l args) s =
            .next (t.withPort l ((s.port l).replying 0x00 none)))))

/-- APPLY ANNOTATION: refused with ARGUMENT or SEQUENCE by the first row that applies; accepted, the marks
are taken into the operation, which walks on from its first candidate. The candidates of an interval and what
is found at each are those of R119 and R120. The walk counts a candidate that is absent or whose day has closed and
goes on, takes the intervals in order and ends behind the last, waits at one that is queued, claims the read of one
that is stored, and ends REFUSED at either in FAULT. That it waits in the operation, and at which event it goes on, is
the model's reading (log entry 8). From the commit of WITHDRAW on it finds RECORDING no more. -/
def Obligations.AnnotationsBegin : Prop :=
  (∀ (s t : State) (l : Link) (args : List Byte), s.reaches .applyAnnotation l args = true →
    (u8 args 0 = 0 ∨ 5 < u8 args 0 →
      exec (.applyAnnotation l args) s = .next (s.refusedWith l 0x20)) ∧
    (1 ≤ u8 args 0 → u8 args 0 ≤ 5 →
      (s.supply.mode ≠ .recording ∨ s.committed = some .withdraw ∨
        ∀ k c a b, s.links.marks ≠ .bothMarked k c a b) →
      exec (.applyAnnotation l args) s = .next (s.refusedWith l 0x40)) ∧
    (∀ kind k c a b op cand rest q, annKindOfCode (u8 args 0) = some kind →
      s.supply.mode = .recording → s.committed ≠ some .withdraw →
      s.links.marks = .bothMarked k c a b →
      op = { stack := k, channel := c, first := a, last := b, kind := kind,
             remark := u8 args 1, interval := a, todo := candidates s.recorder.table k c a
             counts := { applied := 0, refusedClosed := 0, refusedKind := 0, absent := 0 }
             phase := .examine : AnnOp } →
      op.todo = cand :: rest → s.finding k a cand = .stored q → s.store.fault = false →
      t = ({ s with links := { s.links with marks := .none } } : State).withPort .operator
        ((s.port .operator).withOp (.applyAnnotation { op with phase := .waitRead q }) true) →
      exec (.applyAnnotation l args) s = .next
        (t.settle.withPort l ((t.settle.port l).replying 0x00 none))) ∧
    (∀ kind k c a b op, annKindOfCode (u8 args 0) = some kind →
      s.supply.mode = .recording → s.committed ≠ some .withdraw →
      s.links.marks = .bothMarked k c a b →
      op = { stack := k, channel := c, first := a, last := b, kind := kind,
             remark := u8 args 1, interval := a, todo := candidates s.recorder.table k c a
             counts := { applied := 0, refusedClosed := 0, refusedKind := 0, absent := 0 }
             phase := .examine : AnnOp } →
      t = (State.walkOn op (({ s with links := { s.links with marks := .none } } : State).withPort
        .operator ((s.port .operator).withOp (.applyAnnotation op) false))).settle →
      exec (.applyAnnotation l args) s = .next
        (t.withPort l ((t.port l).replying 0x00 none)))) ∧
  (∀ (s : State) (op : AnnOp) (o : LinkOp) (c : Option Nat) (rest : List (Option Nat)) (q : Nat)
    (on : AnnCounts → AnnOp),
    (s.port .operator).op = some o →
    on = (fun n => { op with counts := n, todo := rest, phase := .examine }) →
    (op.todo = [] → op.last ≤ op.interval → s.walkOn op = s.endAnnotation op
      (if op.counts.refusedClosed = 0 ∧ op.counts.refusedKind = 0 ∧ op.counts.absent = 0
        then .done else .partly) none) ∧
    (op.todo = [] → op.interval < op.last → s.walkOn op = s.walkOn { op with
      interval := op.interval + 1800
      todo := candidates s.recorder.table op.stack op.channel (op.interval + 1800) }) ∧
    (op.todo = c :: rest →
      (s.finding op.stack op.interval c = .refusedClosed → s.walkOn op =
        s.walkOn (on { op.counts with refusedClosed := op.counts.refusedClosed + 1 })) ∧
      (s.finding op.stack op.interval c = .absent → s.walkOn op =
        s.walkOn (on { op.counts with absent := op.counts.absent + 1 })) ∧
      (s.store.fault = true → (s.finding op.stack op.interval c = .queued ∨
          s.finding op.stack op.interval c = .stored q) →
        s.walkOn op = s.endAnnotation op .refused (some .storeFault)) ∧
      (s.store.fault = false → s.finding op.stack op.interval c = .queued →
        s.walkOn op = s.withPort .operator { (s.port .operator) with op := some {
          cmd := .applyAnnotation { op with phase := .waitQueued }, waiting := o.waiting } }) ∧
      (s.store.fault = false → s.finding op.stack op.interval c = .stored q →
        s.walkOn op = s.withPort .operator { (s.port .operator) with op := some {
          cmd := .applyAnnotation { op with phase := .waitRead q }, waiting := true } })) ∧
    (∀ out reason, s.running = true → s.roomFor 1 → s.endAnnotation op out reason =
      State.endOp .operator out reason none op.counts.list { s with
        recorder := { s.recorder with queue := s.recorder.queue ++ [.event {
          time := s.time.counter, kind := .annotation, stack := some op.stack
          channel := op.channel, argument := BitVec.ofNat 32 op.counts.applied }] }
        attention := s.attention.raiseAll 0x1000 })) ∧
  (∀ (s : State) (k start c : Nat) (m : MapSlot),
    (candidates s.recorder.table k (some c) start = [some c]) ∧
    (some c ∈ candidates s.recorder.table k none start ↔
      c < 32 ∧ ∃ m, slotAt s.recorder.table start c = some m ∧ m.state ≠ .none ∧
        m.stack = k) ∧
    (candidates s.recorder.table k none start = [none] ↔
      ∀ d m, d < 32 → slotAt s.recorder.table start d = some m → m.state ≠ .none →
        m.stack ≠ k) ∧
    ((∃ d, s.store.closedThrough = some d ∧ dayOf start ≤ d) →
      ∀ x, s.finding k start x = .refusedClosed) ∧
    ((∀ d, s.store.closedThrough = some d → d < dayOf start) →
      s.finding k start none = .absent ∧
      (slotAt s.recorder.table start c = none → s.finding k start (some c) = .absent) ∧
      (slotAt s.recorder.table start c = some m →
        ((m.state = .none ∨ m.state = .notStored ∨ m.stack ≠ k) →
          s.finding k start (some c) = .absent) ∧
        (m.state = .queued → m.stack = k → s.finding k start (some c) = .queued) ∧
        ∀ q, m.state = .stored q → m.stack = k → s.finding k start (some c) = .stored q)))

/-- When an annotation kind applies, and the record's new contents, with the annotation mark, the remark and
the revision; and what the rewrite moves in its day entry, whatever the kind, RESTORE's move back among them: the
counts, the sum and the marks leave with the old contents and join with the new, the maximum is found again from
the interval map, and what does not depend on the class stays. -/
def Obligations.KindsRewriteRecords : Prop :=
  (∀ (k : AnnKind) (r n : IntervalRec) (remark : Nat) (atClose : Bool),
    n = r.annotate k remark atClose →
    (k.applies r = true ↔ (k = .invalidate ∧ r.origClass ≠ .notOperating) ∨
      ((k = .startupShutdown ∨ k = .abnormal) ∧ r.origClass = .operating) ∨
      (k = .restore ∧ r.annotated = true) ∨ k = .remark) ∧
    (k = .invalidate → n.finalClass = r.origClass ∧ n.finalValid = .invalid ∧
      n.exceeded = false ∧ n.annKind = some .invalidate) ∧
    (k = .startupShutdown → n.finalClass = .notOperating ∧ n.finalValid = .none ∧
      n.exceeded = false ∧ n.annKind = some .startupShutdown) ∧
    (k = .abnormal → n.finalClass = .abnormal ∧ n.finalValid = r.origValid ∧
      n.exceeded = false ∧ n.annKind = some .abnormal) ∧
    (k = .restore → n.finalClass = r.origClass ∧ n.finalValid = r.origValid ∧
      n.exceeded = atClose ∧ n.annKind = none) ∧
    (k = .remark → n.finalClass = r.finalClass ∧ n.finalValid = r.finalValid ∧
      n.exceeded = r.exceeded ∧ n.annKind = some (r.annKind.getD .remark)) ∧
    n.annotated = decide (k ≠ .restore) ∧ n.remark = (if k = .restore then 0 else remark) ∧
    n.revision = min (r.revision + 1) 255 ∧ n.start = r.start ∧ n.channel = r.channel ∧
    n.stack = r.stack ∧ n.kind = r.kind ∧ n.origClass = r.origClass ∧
    n.origValid = r.origValid ∧ n.validated = r.validated ∧ n.load = r.load ∧
    n.average = r.average ∧ n.secsRec = r.secsRec ∧ n.secsAbn = r.secsAbn ∧
    n.truncated = r.truncated ∧ n.interrupted = r.interrupted) ∧
  (∀ (old new : IntervalRec) (e d : DayEntry) (vo vn io iv : Bool) (fits : MapSlot → Prop),
    d = DayEntry.move old new e →
    vo = decide (old.finalClass = .operating ∧ old.finalValid = .valid) →
    vn = decide (new.finalClass = .operating ∧ new.finalValid = .valid) →
    io = decide (old.finalClass = .operating ∧ old.finalValid = .invalid) →
    iv = decide (new.finalClass = .operating ∧ new.finalValid = .invalid) →
    (∀ m, fits m ↔ m.state ≠ .none ∧ m.finalClass = .operating ∧ m.finalValid = .valid) →
    d.nValid = e.nValid - vo.toNat + vn.toNat ∧ d.nInvalid = e.nInvalid - io.toNat + iv.toNat ∧
    d.nAbnormal = e.nAbnormal - (decide (old.finalClass = .abnormal)).toNat +
      (decide (new.finalClass = .abnormal)).toNat ∧
    d.nNotOp = e.nNotOp - (decide (old.finalClass = .notOperating)).toNat +
      (decide (new.finalClass = .notOperating)).toNat ∧
    d.sumValidated = e.sumValidated - (if vo then old.validated.getD 0 else 0) +
      (if vn then new.validated.getD 0 else 0) ∧
    d.secsAbn = e.secsAbn - (if old.finalClass = .abnormal then old.secsAbn else 0) +
      (if new.finalClass = .abnormal then new.secsAbn else 0) ∧
    d.exceedances = e.exceedances - (old.exceeded && !new.exceeded).toNat +
      (new.exceeded && !old.exceeded).toNat ∧
    d.annotated = e.annotated - (old.annotated && !new.annotated).toNat +
      (new.annotated && !old.annotated).toNat ∧
    d.annulled = (d.map.countP fun m =>
      decide (m.state ≠ .none) && m.exceededAtClose && !m.exceeded) ∧
    (∀ i m, e.map[i]? = some m → d.map[i]? = some (if i = new.start % 86400 / 1800 then
      { m with finalClass := new.finalClass, finalValid := new.finalValid
               exceeded := new.exceeded, annotated := new.annotated } else m)) ∧
    (d.maximum = none ↔ ∀ m ∈ d.map, fits m → m.validated = none) ∧
    (∀ v t, d.maximum = some (v, t) ↔ ∃ i m, d.map[i]? = some m ∧ fits m ∧
      m.validated = some v ∧ t = new.start / 86400 * 86400 + i * 1800 ∧
      ∀ j n w, d.map[j]? = some n → fits n → n.validated = some w → w ≤ v ∧ (j < i → w < v)) ∧
    d.recorded = e.recorded ∧ d.loadSum = e.loadSum ∧ d.loadGaps = e.loadGaps ∧
    d.secsOutcal = e.secsOutcal ∧ d.secsSat = e.secsSat ∧ d.channel = e.channel ∧
    d.label = e.label)

/-- An annotation under way: a queued candidate that has been stored claims its read, a record that the kind
applies to claims its rewrite, a rewrite of a day still open is programmed and once verified is the current
image of its position, the former one the spare, and a candidate that ends the walk, one that is absent when it is
read among them, ends the operation with its counts; from any other candidate the walk goes on, and from a queued one as it is found
when the wait ends. How a candidate waits between its rows is the model's reading (log
entry 8). -/
def Obligations.AnnotationsGoOn : Prop :=
  ∀ (s : State) (g : Grant) (o : LinkOp) (op : AnnOp) (c : Option Nat) (rest : List (Option Nat))
    (q : Nat) (old new : IntervalRec) (next : AnnPhase → Bool → State)
    (ends : AnnCounts → OpOutcome → State → State) (on : AnnCounts → AnnOp),
    (s.port .operator).op = some o → o.cmd = .applyAnnotation op → op.todo = c :: rest →
    (next = fun p w => s.withPort .operator { (s.port .operator) with
      op := some { cmd := .applyAnnotation { op with phase := p }, waiting := w } }) →
    (ends = fun n out v => ((State.raiseAll 0x1000 { v with
      recorder := { v.recorder with queue := v.recorder.queue ++ [.event {
        time := v.time.counter, kind := .annotation, stack := some op.stack
        channel := op.channel, argument := BitVec.ofNat 32 n.applied }] } }).endOp
          .operator out none none n.list).settle) →
    on = (fun n => { op with counts := n, todo := rest, phase := .examine }) →
    (s.running = true → op.phase = .waitQueued →
      exec .annotationQueuedWaitEnd s = .next (s.walkOn { op with phase := .examine }).settle) ∧
    (s.grants g .annRead → op.phase = .waitRead q →
      (∀ r, s.store.interval.read .interval q = .record r → op.kind.applies r = false →
        exec .annotationReadGrant s = .next ((s.granted none).walkOn
          (on { op.counts with refusedKind := op.counts.refusedKind + 1 })).settle) ∧
      ((∀ r, s.store.interval.read .interval q ≠ .record r) →
        exec .annotationReadGrant s = .next ((s.granted none).walkOn
          (on { op.counts with absent := op.counts.absent + 1 })).settle)) ∧
    (∀ d, s.grants g .annRewrite → op.phase = .waitRewrite q old new →
      s.store.closedThrough = some d → dayOf old.start ≤ d →
      exec .annotationRewriteGrant s = .next ((s.granted none).walkOn
        (on { op.counts with refusedClosed := op.counts.refusedClosed + 1 })).settle) ∧
    (∀ v, s.running = true → op.phase = .verified old new → s.recorder.work = [] →
      v = { (s.withPort .operator { (s.port .operator) with op := some {
            cmd := .applyAnnotation (on { op.counts with applied := op.counts.applied + 1 })
            waiting := o.waiting } }) with
          recorder := { s.recorder with
            table := modEntry (dayOf new.start) new.channel (DayEntry.move old new)
              s.recorder.table } } →
      exec .annotationRewriteComplete s = .next (v.walkOn
        (on { op.counts with applied := op.counts.applied + 1 })).settle) ∧
    (s.running = true → op.phase = .waitQueued →
      s.finding op.stack op.interval c = .stored q → s.store.fault = false →
      exec .annotationQueuedWaitEnd s = .next (next (.waitRead q) true).settle) ∧
    (s.running = true → op.phase = .waitQueued →
      s.finding op.stack op.interval c = .queued → s.store.fault = false →
      exec .annotationQueuedWaitEnd s = .next s.settle) ∧
    (s.grants g .annRead → op.phase = .waitRead q → s.store.interval.read .interval q =
        .record old →
      op.kind.applies old = true →
      new = old.annotate op.kind op.remark (s.closeMark old) →
      exec .annotationReadGrant s =
        .next ((next (.waitRewrite q old new) true).granted none).settle) ∧
    (s.grants g .annRead → op.phase = .waitRead q → s.store.interval.read .interval q =
        .record old →
      op.kind.applies old = false → rest = [] → op.last ≤ op.interval → s.roomFor 1 →
      exec .annotationReadGrant s = .next (ends { op.counts with
        refusedKind := op.counts.refusedKind + 1 } .partly (s.granted none))) ∧
    (s.grants g .annRead → op.phase = .waitRead q →
      (s.store.interval.read .interval q = .empty ∨
        ∃ n, s.store.interval.read .interval q = .other n) →
      rest = [] → op.last ≤ op.interval → s.roomFor 1 →
      exec .annotationReadGrant s = .next (ends { op.counts with
        absent := op.counts.absent + 1 } .partly (s.granted none))) ∧
    (s.grants g .annRewrite → op.phase = .waitRewrite q old new →
      (∀ d, s.store.closedThrough = some d → d < dayOf old.start) →
      exec .annotationRewriteGrant s =
        .next (State.withBegun { (next (.programming q old new) o.waiting) with
          store := { s.store with
            intervalSpare := putCell ((q - 1) % 65536) (q, new) s.store.intervalSpare } } g)) ∧
    (∀ d, s.grants g .annRewrite → op.phase = .waitRewrite q old new →
      s.store.closedThrough = some d → dayOf old.start ≤ d → rest = [] →
      op.last ≤ op.interval → s.roomFor 1 →
      exec .annotationRewriteGrant s = .next (ends { op.counts with
        refusedClosed := op.counts.refusedClosed + 1 } .partly (s.granted none))) ∧
    (s.programs g .annRewrite → op.phase = .programming q old new → s.RingsOrdered →
      ∃ u, exec (.writeAttemptComplete .verified) s = .next (State.settle { u with
          links := ((next (.verified old new) o.waiting).granted none).links
          arbiter := { s.arbiter with grant := none } }) ∧
        s.sameCore u ∧ u.recorder = s.recorder ∧ u.config = s.config ∧
        u.attention = s.attention ∧
        u.store.cell .interval ((q - 1) % 65536) = some (q, .interval new) ∧
        (∀ r n, (r ≠ .interval ∨ n ≠ (q - 1) % 65536) →
          u.store.cell r n = s.store.cell r n) ∧
        (∀ r, u.store.pointers r = s.store.pointers r) ∧ u.store.area = s.store.area ∧
        u.store.areaSpare = s.store.areaSpare ∧
        u.store.intervalSpare = putCell ((q - 1) % 65536) (q, old) s.store.intervalSpare ∧
        s.store.sameButRings u.store) ∧
    (∀ v, s.running = true → op.phase = .verified old new → rest = [] →
      op.last ≤ op.interval → s.roomFor 1 → s.recorder.work = [] →
      v = { s with recorder := { s.recorder with
        table := modEntry (dayOf new.start) new.channel (DayEntry.move old new)
          s.recorder.table } } →
      exec .annotationRewriteComplete s = .next (ends { op.counts with
          applied := op.counts.applied + 1 }
        (if op.counts.refusedClosed = 0 ∧ op.counts.refusedKind = 0 ∧ op.counts.absent = 0
          then .done else .partly) v))

/-! ### From a sample to a year's tally -/

/-- Rounding: half up with an exact half going up, half away from zero with the sign kept, and integer
division with its remainder. -/
def Obligations.QuotientsAreRounded : Prop :=
  (∀ a b : Nat, 0 < b →
    2 * b * roundHalfUp a b ≤ 2 * a + b ∧ 2 * a + b < 2 * b * (roundHalfUp a b + 1) ∧
    roundHalfUp a b = (2 * a + b) / (2 * b) ∧
    roundHalfAway (a : Int) b = (roundHalfUp a b : Nat) ∧
    roundHalfAway (-(a : Int)) b = -((roundHalfUp a b : Nat) : Int) ∧
    a / b * b + a % b = a ∧ a % b < b) ∧
  roundHalfUp 21945 2 = 10973 ∧ roundHalfUp 3412249 1000 = 3412 ∧
  roundHalfAway (-5) 2 = -3 ∧ roundHalfAway 5 2 = 3

/-- The calendar: day 0 is 2000-01-01, and every date up to 2136-02-07, where the counter ends, has a day number,
the next date the next one, by the lengths of the months and the leap rule; what is no date, or a later one, has none.
A date's day number lies in its year, 1 January begins the year and 31 December ends it, and a later date has a
greater number. -/
def Obligations.DatesAreReckoned : Prop :=
  (∀ (len : Nat → Nat → Nat),
    (len = fun y m =>
      if m = 2 then (if y % 4 = 0 ∧ (y % 100 ≠ 0 ∨ y % 400 = 0) then 29 else 28)
      else if m = 4 ∨ m = 6 ∨ m = 9 ∨ m = 11 then 30 else 31) →
    dayNumber 2000 1 1 = some 0 ∧
    (∀ y m d, (dayNumber y m d).isSome = true ↔ 2000 ≤ y ∧ 1 ≤ m ∧ m ≤ 12 ∧ 1 ≤ d ∧ d ≤ len y m ∧
      (y < 2136 ∨ (y = 2136 ∧ (m = 1 ∨ (m = 2 ∧ d ≤ 7))))) ∧
    (∀ y m d n, dayNumber y m d = some n → n < 4294967295 / 86400 →
      (d < len y m → dayNumber y m (d + 1) = some (n + 1)) ∧
      (d = len y m → m < 12 → dayNumber y (m + 1) 1 = some (n + 1)) ∧
      (d = len y m → m = 12 → dayNumber (y + 1) 1 1 = some (n + 1)))) ∧
  (∀ n, n ≤ 4294967295 / 86400 → ∃ y m d, dayNumber y m d = some n) ∧
  (∀ y m d n, dayNumber y m d = some n → yearOfDay n = y ∧
    (isFirstOfYear n = true ↔ m = 1 ∧ d = 1) ∧ (isLastOfYear n = true ↔ m = 12 ∧ d = 31)) ∧
  (∀ y m d n y' m' d' n', dayNumber y m d = some n → dayNumber y' m' d' = some n' →
    (n < n' ↔ y < y' ∨ (y = y' ∧ (m < m' ∨ (m = m' ∧ d < d'))))) ∧
  (∀ t, 1800 * (intervalStart t / 1800) = intervalStart t ∧ intervalStart t ≤ t ∧
    t < intervalStart t + 1800 ∧ dayOf (intervalStart t) = dayOf t ∧ dayOf t = t / 86400)

/-- What a sample becomes: scaling, calibration with its clamps, dry basis, oxygen reference and the final
verdict. NORMALISE_SECOND: the second whose two sets are at hand is normalised, shown in the live value
buffer, and, where it began in RECORDING, handed to the recorder. That the second in progress keeps what the buffer
showed, for a step that skips it, is the model's reading of R43 (log entry 12); its sets are the last that are handed,
whatever numbers older sets carry. -/
def Obligations.SecondsAreNormalised : Prop :=
  (∀ (set : SampleSet) (p : Sample) (e : ChannelEntry) (k : StackEntry) (n : NormValue)
    (h o : Option Nat), e = set.cfg.channel p.channel → k = set.cfg.stack e.stack →
    n = set.normalise p → h = set.reference k.h2oChan → o = set.reference k.o2Chan →
    (∀ c q, set.sampleOf c = some q → (set.cfg.channel c).kind.peripheral = true →
      set.reference (some c) =
        if (set.normalise q).verdict.valid then (set.normalise q).y else none) ∧
    n.stack = e.stack ∧ n.kind = e.kind ∧ n.conversions = p.conversions ∧
    (p.verdict.valid = false → n.verdict = p.verdict ∧ n.y = none ∧ n.yRef = none ∧
      n.outOfCal = false ∧ n.saturated = false) ∧
    (∀ v y w, p.verdict.valid = true →
      ((∃ i r m, e.source = .analog i ∧ e.range = some r ∧ p.value = some m ∧
          v = e.offset +
            roundHalfAway (e.slope * roundHalfAway ((m - 4000) * r) 16000) 10000) ∨
        ((e.source = .link ∨ ∃ x, e.source = .constant x) ∧ p.value = some v)) →
      y = (max 0 (min v 5125000)).toNat →
      w = (if 5125000 < v then Verdict.saturated else p.verdict) →
      n.y = some y ∧ n.outOfCal = decide (e.ceiling ≠ 0 ∧ e.ceiling < y) ∧
      n.saturated = decide (w = .saturated) ∧
      (e.kind.peripheral = true → n.verdict = w ∧ n.yDry = some y ∧ n.yRef = some y) ∧
      (e.kind.peripheral = false →
        ((e.wet = true ∧ h = none ∨ e.o2Ref.isSome = true ∧ o = none) →
          n.verdict = .dependency ∧ n.yRef = none) ∧
        (e.wet = true → h = none → n.yDry = none) ∧
        (e.wet = false → n.yDry = some y) ∧
        (∀ x, e.wet = true → h = some x →
          n.yDry = some (roundHalfUp (y * 10000) (10000 - min x 3000))) ∧
        (∀ d, n.yDry = some d →
          (e.o2Ref = none → n.verdict = w ∧ n.yRef = some d) ∧
          (∀ r x, e.o2Ref = some r → o = some x → n.verdict = w ∧
            n.yRef = some (roundHalfUp (d * (2100 - r)) (2100 - min x k.o2Cap))))))) ∧
  (∀ (s : State) (p : SampleSet) (ps : List SampleSet) (q : StackSet) (qs : List StackSet)
      (b : SecondBefore),
    (b = if s.sec.sampleFormed = true ∧ s.sec.checkWaits = none ∧ s.sec.sampled = true ∧
        s.sec.sampleWaits = none ∧ ps = [] then { s.sec.before with live := some {
        channels := s.norm.liveChannels, marks := s.norm.liveStacks
        running := s.recorder.running } } else s.sec.before) →
    s.running = true → s.norm.samples = p :: ps → s.norm.stackSets = q :: qs →
    (p.second ≠ q.second → exec .normaliseSecond s = .next s) ∧
    (p.second = q.second → ∃ (n : NormSet) (r : List (Option Nat)),
      exec .normaliseSecond s = .next { s with
        sec := { s.sec with before := b }
        norm := {
          samples := ps, stackSets := qs, liveChannels := n.channels.map some
          liveStacks := n.marks.map some }
        recorder := { s.recorder with
          handed := if p.mode = .recording then s.recorder.handed ++ [n] else s.recorder.handed
          running := r } } ∧
      n.second = p.second ∧ n.channels.length = 32 ∧ n.marks.length = 4 ∧
      (∀ c, c < 32 → n.channels[c]? = some {
        second := p.second, value := (p.sampleOf c).map p.normalise }) ∧
      (∀ k m, k < 4 → q.marks[k]? = some m → n.marks[k]? = some {
        second := p.second, mark := m }) ∧
      (p.mode ≠ .recording → r = List.replicate 32 none) ∧
      (∀ a, p.mode = .recording → s.recorder.handed = [] → s.recorder.accSets = [a] →
        a.start = intervalStart p.second → ∀ c x, c < 32 →
          (a.add n).accs.find? (fun x => decide (x.channel = c)) = some x →
          r[c]? = some (if x.validReg = 0 then none
            else some (roundHalfUp x.sumReg x.validReg)))))

/-- What a second adds to an accumulator, in a regulated second and in any other. ACCUMULATE_SECOND: the
first handed second enters the set of its interval and no other; the last second of an interval closes it,
and every record of the close joins the queue and its day. That INTERVAL_CLOSED is raised for a set without a
channel too, that the running averages stay where the buffer shows another second, and that the second in progress
keeps the set it joined, for a step that skips it, are the model's reading (log entry 12). -/
def Obligations.SecondsAreAccumulated : Prop :=
  (∀ (x y : Accumulator) (v : NormValue) (k : StackState) (good regulated : Prop), y = x.add v k →
    (good ↔ v.verdict = .good ∨ v.verdict = .saturated) →
    (regulated ↔ k = .operating ∨ k = .abnormal) →
    y.channel = x.channel ∧ y.truncated = x.truncated ∧ y.interrupted = x.interrupted ∧
    y.secsRec = x.secsRec + 1 ∧
    y.secsOp = x.secsOp + (if k = .operating then 1 else 0) ∧
    y.secsAbn = x.secsAbn + (if k = .abnormal then 1 else 0) ∧
    (regulated → good → y.validReg = x.validReg + 1 ∧
      y.sumReg = x.sumReg + v.yRef.getD 0 ∧ y.sumDry = x.sumDry + v.yDry.getD 0) ∧
    ((¬ regulated ∨ ¬ good) → y.validReg = x.validReg ∧ y.sumReg = x.sumReg ∧
      y.sumDry = x.sumDry) ∧
    (regulated → v.verdict = .maintenance → y.secsMaint = x.secsMaint + 1) ∧
    ((¬ regulated ∨ v.verdict ≠ .maintenance) → y.secsMaint = x.secsMaint) ∧
    y.secsOutcal = x.secsOutcal + (if v.outOfCal then 1 else 0) ∧
    y.secsSat = x.secsSat + (if v.saturated then 1 else 0) ∧
    (good → y.validAll = x.validAll + 1 ∧ y.sumAll = x.sumAll + v.yRef.getD 0) ∧
    (¬ good → y.validAll = x.validAll ∧ y.sumAll = x.sumAll)) ∧
  (∀ (s : State) (n : NormSet) (rest : List NormSet) (sets : List AccSet)
      (b : SecondBefore),
    (b = if n.second = s.time.counter then { s.sec.before with
        sums := s.recorder.accSets.find? fun a =>
          decide (a.start = n.second - n.second % 1800) } else s.sec.before) →
    s.running = true →
    s.recorder.handed = n :: rest → s.recorder.work = [] →
    (sets = s.recorder.accSets.map fun a =>
      if a.start = n.second - n.second % 1800 then { a with
        accs := a.accs.map fun x => match (n.channels[x.channel]?).bind NormChannel.value with
          | none => x
          | some v => x.add v (((n.marks[(a.cfg.channel x.channel).stack]?).map fun m =>
              m.mark.state).getD .off) } else a) →
    (n.second % 1800 ≠ 1799 → ∃ r, exec .accumulateSecond s = .next (State.settle { s with
        sec := { s.sec with before := b }
        recorder := { s.recorder with handed := rest, accSets := sets, running := r } }) ∧
      ((s.norm.liveChannels.getD 0 none).map NormChannel.second ≠ some n.second →
        r = s.recorder.running)) ∧
    (∀ a rs, n.second % 1800 = 1799 →
      sets.find? (fun b => decide (b.start = n.second - n.second % 1800)) = some a →
      rs = a.accs.map a.record → s.roomFor rs.length →
      ∃ u : State, exec .accumulateSecond s = .next u.settle ∧ u.time = s.time ∧
        u.scan = s.scan ∧ u.sec = { s.sec with before := b } ∧ u.stackUnits = s.stackUnits ∧ u.norm = s.norm ∧
        u.config = s.config ∧ u.store = s.store ∧ u.arbiter = s.arbiter ∧ u.links = s.links ∧
        u.supply = s.supply ∧ u.pending = s.pending ∧ u.recorder.handed = rest ∧
        u.recorder.accSets = sets.filter (fun b => decide (b.start ≠ a.start)) ∧
        u.recorder.queue = s.recorder.queue ++ rs.map .interval ∧
        u.recorder.tally = s.recorder.tally ∧ u.recorder.work = [] ∧
        u.recorder.table = rs.foldl (fun table x => modEntry (dayOf x.start) x.channel
          (DayEntry.contribute x .queued) (joinDay (dayOf x.start) table)) s.recorder.table ∧
        u.attention = s.attention.raiseAll (if rs.any IntervalRec.exceeded then 0x0006
          else 0x0002)))

/-- An interval is judged: its class by the first row that applies, validity by two thirds of its regulated
seconds, averages, the validated value, EXCEEDED, and the load; its record carries the counts, and no annotation. -/
def Obligations.IntervalsAreJudged : Prop :=
  ∀ (a : AccSet) (x : Accumulator) (e : ChannelEntry) (r : IntervalRec) (ci : Nat),
    e = a.cfg.channel x.channel → r = a.record x →
    ci = (match e.dayLimit with | none => 0 | some d => roundHalfUp (d * e.ciPercent) 100) →
    r.start = a.start ∧ r.channel = x.channel ∧ r.stack = e.stack ∧ r.kind = e.kind ∧
    r.finalClass = r.origClass ∧ r.finalValid = r.origValid ∧ r.truncated = x.truncated ∧
    r.interrupted = x.interrupted ∧ r.annotated = false ∧ r.annKind = none ∧ r.remark = 0 ∧
    r.revision = 0 ∧ r.secsRec = x.secsRec ∧ r.secsOp = x.secsOp ∧ r.secsAbn = x.secsAbn ∧
    r.validReg = x.validReg ∧ r.secsMaint = x.secsMaint ∧ r.secsOutcal = x.secsOutcal ∧
    r.secsSat = x.secsSat ∧ r.validAll = x.validAll ∧
    (x.secsOp + x.secsAbn = 0 → r.origClass = .notOperating ∧ r.origValid = .none) ∧
    (x.secsOp + x.secsAbn ≠ 0 →
      (1 ≤ x.secsAbn → r.origClass = .abnormal) ∧ (x.secsAbn = 0 → r.origClass = .operating) ∧
      (r.origValid = .valid ↔ (x.secsOp + x.secsAbn) * 2 ≤ x.validReg * 3) ∧
      (r.origValid = .invalid ↔ x.validReg * 3 < (x.secsOp + x.secsAbn) * 2)) ∧
    r.average = (if x.validReg = 0 then none else some (roundHalfUp x.sumReg x.validReg)) ∧
    r.allAverage = (if x.validAll = 0 then none else some (roundHalfUp x.sumAll x.validAll)) ∧
    r.validated = r.average.map (fun v => v - ci) ∧
    (r.exceeded = true ↔ r.origClass = .operating ∧ r.origValid = .valid ∧
      ∃ l v, e.intervalLimit = some l ∧ r.validated = some v ∧ l < v) ∧
    (∀ m, r.load = some m ↔ e.kind.peripheral = false ∧ r.origValid = .valid ∧
      x.validReg ≠ 0 ∧ ∃ f y, (a.cfg.stack e.stack).flowChan = some f ∧
        a.accs.find? (fun y => decide (y.channel = f)) = some y ∧
        (a.record y).origValid = .valid ∧ ∃ w, (a.record y).average = some w ∧
          m = roundHalfUp (roundHalfUp x.sumDry x.validReg * w * (x.secsOp + x.secsAbn))
            (if e.kind = .hg then 360000000 else 360000)) ∧
    (r.loadGap = true ↔ e.kind.peripheral = false ∧ x.secsOp + x.secsAbn ≠ 0 ∧ r.load = none)

/-- What a record adds to its day entry at its close, by its class and validity; a map slot follows it. -/
def Obligations.RecordsContributeToTheirDay : Prop :=
  ∀ (r : IntervalRec) (e d : DayEntry) (st : MapState) (valid : Prop),
    d = DayEntry.contribute r st e →
    (valid ↔ r.finalClass = .operating ∧ r.finalValid = .valid) →
    d.channel = e.channel ∧ d.recorded = e.recorded + 1 ∧
    (valid → d.nValid = e.nValid + 1 ∧
      d.sumValidated = e.sumValidated + r.validated.getD 0) ∧
    (¬ valid → d.nValid = e.nValid ∧ d.sumValidated = e.sumValidated ∧
      d.maximum = e.maximum) ∧
    d.nInvalid = e.nInvalid +
      (if r.finalClass = .operating ∧ r.finalValid = .invalid then 1 else 0) ∧
    d.nAbnormal = e.nAbnormal + (if r.finalClass = .abnormal then 1 else 0) ∧
    d.nNotOp = e.nNotOp + (if r.finalClass = .notOperating then 1 else 0) ∧
    (valid → e.maximum = none → d.maximum = some (r.validated.getD 0, r.start)) ∧
    (∀ m t, valid → e.maximum = some (m, t) → d.maximum =
      some (if m < r.validated.getD 0 then (r.validated.getD 0, r.start) else (m, t))) ∧
    d.exceedances = e.exceedances + (if r.exceeded then 1 else 0) ∧
    d.loadSum = e.loadSum + r.load.getD 0 ∧
    d.loadGaps = e.loadGaps + (if r.loadGap then 1 else 0) ∧
    d.secsAbn = e.secsAbn + (if r.finalClass = .abnormal then r.secsAbn else 0) ∧
    d.secsOutcal = e.secsOutcal + r.secsOutcal ∧ d.secsSat = e.secsSat + r.secsSat ∧
    d.annotated = e.annotated ∧ d.annulled = e.annulled ∧
    (∀ i m, e.map[i]? = some m → d.map[i]? = some (if i = r.start % 86400 / 1800 then {
        state := st, stack := r.stack, finalClass := r.finalClass, finalValid := r.finalValid
        validated := r.validated, exceeded := r.exceeded, annotated := r.annotated
        exceededAtClose := r.exceeded } else m))

/-- A day record: its fields, class, validity, average and EXCEEDED; what it adds to its channel's section of
the year tally; and the abnormal seconds of each stack, counted once a day. -/
def Obligations.DaysAreJudgedAndTallied : Prop :=
  (∀ (e : DayEntry) (gov : Tables) (cause : CloseCause) (day : Nat) (r : DayRec)
    (t u : ChannelTally), r = e.record gov cause day → u = t.add r →
    r.day = day ∧ r.cause = cause ∧ r.channel = e.channel ∧ r.nUnrecorded = 48 - e.recorded ∧
    r.recorded = e.recorded ∧ r.nValid = e.nValid ∧ r.nInvalid = e.nInvalid ∧
    r.nAbnormal = e.nAbnormal ∧ r.nNotOp = e.nNotOp ∧ r.maximum = e.maximum ∧
    r.exceedances = e.exceedances ∧ r.annulled = e.annulled ∧ r.annotated = e.annotated ∧
    r.loadSum = e.loadSum ∧ r.loadGaps = e.loadGaps ∧ r.secsAbn = e.secsAbn ∧
    r.secsOutcal = e.secsOutcal ∧ r.secsSat = e.secsSat ∧
    r.dayInvalidMax = gov.device.dayInvalidMax ∧
    (∀ k kind, e.label = some (k, kind) → r.stack = k ∧ r.kind = kind) ∧
    (e.nValid + e.nInvalid + e.nAbnormal = 0 → 48 ≤ e.recorded →
      r.dayClass = .noOperation ∧ r.validity = .none) ∧
    (e.nValid + e.nInvalid + e.nAbnormal = 0 → e.recorded < 48 →
      r.dayClass = .unrecorded ∧ r.validity = .none) ∧
    (e.nValid + e.nInvalid + e.nAbnormal ≠ 0 → r.dayClass = .operating ∧
      r.validity = if 1 ≤ e.nValid ∧ e.nInvalid + (48 - e.recorded) ≤ gov.device.dayInvalidMax
        then .valid else .invalid) ∧
    r.average = (if e.nValid = 0 then none
      else some (roundHalfUp e.sumValidated e.nValid)) ∧
    (r.exceeded = true ↔ r.validity = .valid ∧ ∃ l a, (gov.channel e.channel).dayLimit = some l ∧
      r.average = some a ∧ l < a) ∧
    u.label = some (r.stack, r.kind) ∧
    u.ivValid = t.ivValid + e.nValid ∧ u.ivInvalid = t.ivInvalid + e.nInvalid ∧
    u.ivAbnormal = t.ivAbnormal + e.nAbnormal ∧ u.ivNotOp = t.ivNotOp + e.nNotOp ∧
    u.ivUnrecorded = t.ivUnrecorded + (48 - e.recorded) ∧
    u.ivExceedances = t.ivExceedances + e.exceedances ∧
    u.dayValid = t.dayValid + (if r.validity = .valid then 1 else 0) ∧
    u.dayInvalid = t.dayInvalid + (if r.validity = .invalid then 1 else 0) ∧
    u.dayNoOperation = t.dayNoOperation + (if r.dayClass = .noOperation then 1 else 0) ∧
    u.dayUnrecorded = t.dayUnrecorded + (if r.dayClass = .unrecorded then 1 else 0) ∧
    u.dayExceedances = t.dayExceedances + (if r.exceeded then 1 else 0) ∧
    u.load = t.load + e.loadSum ∧ u.loadGaps = t.loadGaps + e.loadGaps ∧
    u.secsOutcal = t.secsOutcal + e.secsOutcal ∧ u.secsSat = t.secsSat + e.secsSat ∧
    u.annotated = t.annotated + e.annotated ∧ u.annulled = t.annulled + e.annulled ∧
    (e.maximum = none → u.maxInterval = t.maxInterval) ∧
    (t.maxInterval = none → u.maxInterval = e.maximum) ∧
    (∀ m p, t.maxInterval = some m → e.maximum = some p →
      u.maxInterval = some (if m.1 < p.1 then p else m)) ∧
    (r.validity ≠ .valid → u.maxDay = t.maxDay) ∧
    (∀ v, t.maxDay = none → r.validity = .valid → r.average = some v →
      u.maxDay = some (v, day)) ∧
    (∀ m v, t.maxDay = some m → r.validity = .valid → r.average = some v →
      u.maxDay = some (if m.1 < v then (v, day) else m))) ∧
  (∀ (t : TallySlot) (records : List DayRec) (k n m : Nat), t.stackAbn[k]? = some n →
    (∀ r ∈ records, r.stack = k → r.secsAbn ≤ m) →
    ((∃ r ∈ records, r.stack = k ∧ r.secsAbn = m) ∨ m = 0) →
    (t.addAbn records).stackAbn[k]? = some (n + m) ∧ (t.addAbn records).channels = t.channels) ∧
  ∀ (t : TallySlot) (r : DayRec) (c : Nat) (x : ChannelTally), t.channels[c]? = some x →
    (t.add r).channels[c]? = some (if c = r.channel then x.add r else x)

/-- DAY_CLOSE: the oldest day of the occasion in progress closes. With entries it takes the slot of its year, one
that is UNUSED or has the lower year where none is named so, and offers, in this order, the record of a report
discarded so, its day records in channel order, and a checkpoint of the slot, which the records and the pending counts
have entered and which 31 December turns FINAL. The closed-through date becomes its day, the day leaves the table, and
its flags are raised; a protection claim is made where none stands or is granted with its write not begun. The tables
in force govern a close of WITHDRAW, those that the occasion holds any other. A close that is not the last leaves the occasion counting; the last of a boundary lets the
boundary's day join, and the last of CLOSE DAYS ends it DONE with its count. How close occasions wait their turn is the
model's reading (log entry 11). -/
def Obligations.DaysCloseOldestFirst : Prop :=
  ∀ (s t : State) (o : Occasion) (p : ProvDay) (later : List ProvDay) (records : List DayRec)
    (year i lost : Nat) (x v w : TallySlot) (before more : List QueueItem) (turns : Prop)
    (tally : List TallySlot) (work : List RecorderWork) (flags : FlagSet)
    (gov : Tables) (claimed : Bool), s.running = true →
    s.annotation = none → s.recorder.work = [.occasion o] → s.recorder.table = p :: later →
    o.range.holds p.day = true → (∀ d ∈ later, p.day < d.day) →
    (o.cause ≠ .scheduled → ∀ a ∈ s.recorder.accSets, dayOf a.start ≠ p.day) →
    gov = (if o.cause = .withdrawal then s.config.active else o.gov) →
    (claimed = true ↔ .protection ∈ s.arbiter.recClaims ∨
      ∃ g, s.arbiter.grant = some g ∧ g.claim = .protection ∧ g.begun = false) →
    records = (p.closing gov).map (fun e => e.record gov o.cause p.day) →
    year = yearOfDay p.day → (turns ↔ isLastOfYear p.day = true ∧ x.state = .opened) →
    (slotOfYear s.recorder.tally year = some i ∧ s.recorder.tally[i]? = some x ∧ before = [] ∨
      records = [] ∧ slotOfYear s.recorder.tally year = none ∧ x.state = .unused ∧ before = [] ∨
      records ≠ [] ∧ slotOfYear s.recorder.tally year = none ∧
        x = { TallySlot.blank .opened (some year) with lostReports := lost } ∧
        ∃ a b old, s.recorder.tally = [a, b] ∧ i = (if a.state = .unused then 0
            else if b.state = .unused then 1 else if a.year.getD 0 ≤ b.year.getD 0 then 0 else 1) ∧
          old = (if i = 0 then a else b) ∧
          (∀ y j, s.committed ≠ some (.commitReport y (some j))) ∧
          (old.state = .unused ∨ old.state = .reported → lost = 0 ∧ before = []) ∧
          (old.state ≠ .unused → old.state ≠ .reported → lost = 1 ∧ before = [.event
            (.plain s.time.counter .yearReportUncollected (old.year.getD 0))])) →
    v = (records.foldl TallySlot.add x).addAbn records →
    (records ≠ [] → (turns → w.state = .final) ∧ (¬ turns → w.state = x.state) ∧
      w = { v with
        state := w.state, notStored := v.notStored + s.recorder.notStored
        steps := v.steps + s.recorder.steps, restarts := v.restarts + s.recorder.restarts
        overwritten := v.overwritten + s.recorder.overwritten } ∧
      more = before ++ records.map QueueItem.day ++ [.checkpoint i w] ∧
      tally = s.recorder.tally.set i w) →
    (records = [] → turns → w = { x with state := .final } ∧ more = [.checkpoint i w] ∧
      tally = s.recorder.tally.set i w) →
    (records = [] → ¬ turns → more = [] ∧ tally = s.recorder.tally) →
    (turns ∨ before ≠ [] → flags &&& 0x2000 = 0x2000) →
    (¬ turns → before = [] → flags &&& 0x2000 = 0) →
    flags ||| 0x2000 = 0x2008 ||| (if ∃ r ∈ records, r.exceeded = true then 0x0004 else 0) →
    s.roomFor more.length →
    t = { s with
      recorder := { s.recorder with
        queue := s.recorder.queue ++ more, table := later, tally := tally, work := work
        notStored := if records = [] then s.recorder.notStored else 0
        steps := if records = [] then s.recorder.steps else 0
        restarts := if records = [] then s.recorder.restarts else 0
        overwritten := if records = [] then s.recorder.overwritten else 0
        withdrawal := if o.cause = .withdrawal then
            s.recorder.withdrawal.map fun z => { z with closed := z.closed + 1 }
          else s.recorder.withdrawal }
      store := { s.store with closedThrough := some p.day }
      arbiter := { s.arbiter with
        recClaims := if claimed then s.arbiter.recClaims
          else s.arbiter.recClaims ++ [.protection] }
      attention := s.attention.raiseAll flags } →
    ((∃ d ∈ later, o.range.holds d.day = true) →
      work = [.occasion { o with closed := o.closed + 1 }] →
      exec .dayClose s = .next t.settle) ∧
    ((∀ d ∈ later, o.range.holds d.day = false) → work = [] →
      (o.cause = .scheduled → o.joins = none → exec .dayClose s = .next t.settle) ∧
      (∀ day, o.cause = .scheduled → o.joins = some day → exec .dayClose s =
        .next (State.settle { t with
          recorder := { t.recorder with table := Machine.joinDay day later } })) ∧
      (o.cause = .commanded → o.joins = none → exec .dayClose s =
        .next (t.endOp .inspection .done none none [o.closed + 1]).settle))

/-- CLOSE DAYS: by the first row that applies it is refused, or becomes the operation in flight with no
claim; from the commit of WITHDRAW on it does not find RECORDING. CLOSE_DAYS_COMMIT: taken up when no close occasion is
in progress, it ends REFUSED outside RECORDING, ends DONE with 0 where there is no day to close, and otherwise records
its last day and becomes an occasion. -/
def Obligations.CloseDaysIsDecidedAndTakenUp : Prop :=
  (∀ (s : State) (l : Link) (args : List Byte), s.reaches .closeDays l args = true →
    (dayNumber (u16 args 0) (u8 args 2) (u8 args 3) = none →
      exec (.closeDays l args) s = .next (s.refusedWith l 0x20)) ∧
    (∀ d, dayNumber (u16 args 0) (u8 args 2) (u8 args 3) = some d →
      (s.supply.mode ≠ .recording ∨ s.committed = some .withdraw →
        exec (.closeDays l args) s = .next (s.refusedWith l 0x40)) ∧
      (s.supply.mode = .recording → s.committed ≠ some .withdraw → dayOf s.time.counter ≤ d →
        exec (.closeDays l args) s = .next (s.refusedWith l 0x20)) ∧
      (s.supply.mode = .recording → s.committed ≠ some .withdraw → d < dayOf s.time.counter →
        exec (.closeDays l args) s =
          .next ((s.withPort l ((s.port l).withOp (.closeDays d false) false)).answered l)))) ∧
  (∀ (s t : State) (day : Nat) (o : LinkOp), s.running = true →
    (s.port .inspection).op = some o → o.cmd = .closeDays day false →
    ((∃ x, RecorderWork.occasion x ∈ s.recorder.work) → exec .closeDaysCommit s = .next s) ∧
    ((∀ x, RecorderWork.occasion x ∉ s.recorder.work) →
      (s.supply.mode ≠ .recording → exec .closeDaysCommit s =
        .next (s.endOp .inspection .refused (some .sequence) none []).settle) ∧
      (s.supply.mode = .recording → (∀ p ∈ s.recorder.table, day < p.day) →
        exec .closeDaysCommit s = .next (s.endOp .inspection .done none none [0]).settle) ∧
      (∀ before p after, s.supply.mode = .recording → s.recorder.table = before ++ p :: after →
        p.day ≤ day → (∀ x ∈ after, day < x.day) → s.roomFor 1 →
        t = ({ s with recorder := { s.recorder with
            queue := s.recorder.queue ++
              [.event (.plain s.time.counter .daysClosedEarly p.day)]
            work := s.recorder.work ++ [.occasion {
              cause := .commanded, range := .through day, joins := none
              gov := s.config.active, closed := 0 }] } } : State).withPort .inspection
          { (s.port .inspection) with
            op := some { o with cmd := .closeDays day true } } →
        exec .closeDaysCommit s = .next t.settle)))

/-- WITHDRAWAL_WORK does nothing in SUSPENDED, before the withdrawal point, while a recorded second is on its way, or
once it has started. Otherwise the open interval closes TRUNCATED, every provisional day closes with cause WITHDRAWAL,
the WITHDRAWN record counts them, every OPEN tally slot turns FINAL and is checkpointed, and the operation ends DONE. How
this work waits its turn is the model's choice (log entry 11). -/
def Obligations.WithdrawalsEnd : Prop :=
  ∀ (s : State) (w : Withdrawal), s.running = true → s.recorder.withdrawal = some w →
    ((s.supply.mode = .suspended ∨ w.point = none ∨ w.started = true ∨ s.recorder.handed ≠ [] ∨
        ∃ x ∈ s.norm.samples, x.mode = .recording) →
      exec .withdrawalWork s = .next s) ∧
    (∀ (point n : Nat) (table : List ProvDay), s.supply.mode ≠ .suspended → w.point = some point →
      w.started = false → s.recorder.handed = [] → (∀ x ∈ s.norm.samples, x.mode ≠ .recording) →
      s.recorder.work = [] → s.annotation = none → (s.recorder.accSets.map AccSet.start).Nodup →
      s.recorder.table.Pairwise (fun a b => a.day < b.day) →
      table = s.recorder.accSets.foldl (fun t a =>
        if a.accs = [] then t else Machine.joinDay (dayOf a.start) t) s.recorder.table →
      n = w.closed + table.length →
      ∃ u : State, exec .withdrawalWork s = .next u.settle ∧ u.time = s.time ∧ u.scan = s.scan ∧
        u.config = s.config ∧ u.supply = s.supply ∧ u.norm = s.norm ∧
        u.store = { s.store with closedThrough := match table.getLast? with
          | none => s.store.closedThrough
          | some d => some d.day } ∧
        u.recorder.accSets = [] ∧ u.recorder.table = [] ∧ u.recorder.work = [] ∧
        u.recorder.withdrawal = none ∧ u.recorder.running = List.replicate 32 none ∧
        (∀ x ∈ u.recorder.tally, x.state ≠ .opened) ∧
        (table ≠ [] → ∀ l, (u.attention.get l).pending &&& 0x0008 = 0x0008) ∧
        (∀ o, (s.port .inspection).op = some o → o.cmd = .withdraw →
          (u.port .inspection).op = none ∧ (u.port .inspection).last = some {
            command := some .withdraw, outcome := .done, reason := none, index := none
            counts := [n] }) ∧
        ((s.port .inspection).op = none → u.links = s.links) ∧
        (s.recorder.accSets = [] → s.recorder.table = [] → s.roomFor 3 →
          s.recorder.tally.length ≤ 2 →
          (∃ more, u.recorder.queue = s.recorder.queue ++
            .event (.plain point .withdrawn n) :: more ∧
            ∀ q ∈ more, ∃ i x, q = .checkpoint i x ∧ x.state = .final) ∧
          ∀ (i : Nat) (x : TallySlot), s.recorder.tally[i]? = some x → u.recorder.tally[i]? =
            some (if x.state = .opened then { x with state := .final } else x)) ∧
        (∀ (a : AccSet) (p p' : ProvDay) (records : List IntervalRec) (days : List DayRec),
          s.recorder.accSets = [a] → s.recorder.table = [p] → p.day = dayOf a.start →
          records = (a.accs.map fun x => a.record { x with truncated := true }) →
          p' = { p with entries := records.foldl (fun es r =>
            putEntry r.channel (DayEntry.contribute r .queued) es) p.entries } →
          days = (p'.closing s.config.active).map (fun e =>
            e.record s.config.active .withdrawal p.day) →
          s.roomFor (records.length + days.length + 5) → s.recorder.tally.length = 2 →
          (∀ y i, s.committed ≠ some (.commitReport y (some i))) →
          ∃ before slot more, u.recorder.queue = s.recorder.queue ++
            records.map QueueItem.interval ++ before ++ days.map QueueItem.day ++ slot ++
            .event (.plain point .withdrawn n) :: more ∧
            (∀ q ∈ before, ∃ e, q = .event e ∧ e.kind = .yearReportUncollected) ∧
            (days ≠ [] → slot.length = 1) ∧ (∀ q ∈ slot, ∃ i x, q = .checkpoint i x) ∧
            ∀ q ∈ more, ∃ i x, q = .checkpoint i x ∧ x.state = .final))

/-! ### Time -/

/-- SET TIME, by the first row that applies: refused; a set in COMMISSIONING; a slew within 2,000 ms; a forward step
beyond, here in the modes with no interval and within one interval (StepsLeaveTheirInterval has the others); and from
SUSPENDED the target that recovery goes on with, never before the recovery floor. The second in progress is skipped:
its sets go, and the scan unit, the stacks, the live values and the sums stand as it found them. A pending change-over
is made, and a step is the boundary that a withdrawal waits for; where the write of a committed command decides what the
boundary finds, the boundary is held, and one that is held already is crossed first. The model's readings and choices: the
millisecond at which it is taken is the operand, never before the phase reached (log entry 1); a SUSPENDED part
refuses the operator link after the check of the milliseconds (log entry 2); what a skipped second leaves all the same (log
entry 12); that the slew step and the pulse edge are cleared (log entry 13); that a ring without a newest record counts as 0
for the floor (log entry 17); that a resumed recovery gives a grant back (log entry 19); the holding of the boundary (log
entry 20); and that a set to the first second of a year is no year boundary (log entry 22). -/
def Obligations.SetTimeIsDecided : Prop :=
  (∀ (s p k b t : State) (l : Link) (args : List Byte) (phase target ms : Nat) (offset : Int)
    (clock : TimeBase) (sec : SecondWork), s.reaches .setTime l args = true →
    target = u32 args 0 → ms = u16 args 4 → p = s.passHeld → k = p.skipSecond →
    b = k.finishChangeOver →
    offset = ((target * 1000 + ms : Nat) : Int) -
      ((s.time.counter * 1000 + max s.time.phase (min phase 999) : Nat) : Int) →
    clock = { p.time with
      counter := target, phase := ms, pendingSlew := 0, slewStep := 0, pulseEdge := none } →
    sec = { processed := true, mode := p.supply.mode, cfg := p.config.active
            lockHeld := decide (p.scan.synth = .locked), nextSlot := 0, slotFloor := ms
            sampleFormed := false, sampled := false, held := none, checkWaits := none
            sampleWaits := none, before := .nothing } →
    (999 < ms → exec (.setTime l args phase) s = .next (s.refusedWith l 0x20)) ∧
    (ms ≤ 999 → s.supply.mode = .suspended →
      (l = .operator → exec (.setTime l args phase) s = .next (s.refusedWith l 0x40)) ∧
      (l = .inspection → target < s.recoveryFloor →
        exec (.setTime l args phase) s = .next (s.refusedWith l 0x20)) ∧
      (l = .inspection → s.recoveryFloor ≤ target → s.roomFor 1 →
        t = { s.returnGrant with
          time := { s.time with
            counter := target, phase := ms, pendingSlew := 0, slewStep := 0, pulseEdge := none
            clockValid := true, setMark := true }
          recorder := { s.recorder with
            queue := s.recorder.queue ++
              [.event (.plain target .timeStep s.recoveryFloor)]
            steps := min (s.recorder.steps + 1) 65535 }
          attention := s.attention.raiseAll 0x0100
          supply := { s.supply with
            power := .starting, mode := s.supply.beneath, resumed := true } } →
        exec (.setTime l args phase) s = .next (t.answered l))) ∧
    (ms ≤ 999 → s.supply.mode = .commissioning →
      t = { b with
        time := { clock with clockValid := true, setMark := true }
        attention := p.attention.raiseAll 0x0100
        scan := { b.scan with accs := List.replicate 32 .empty, latches := 0 }
        sec := if p.boundaryWaits then { sec with held := some .set } else sec } →
      exec (.setTime l args phase) s = .next (t.settle.withReply l
        ((t.settle.port l).replying (noticeByte l s.links.marks) none))) ∧
    (ms ≤ 999 → s.supply.mode ≠ .suspended → s.supply.mode ≠ .commissioning →
      (offset < -2000 → exec (.setTime l args phase) s = .next (s.refusedWith l 0x20)) ∧
      (2000 < offset → l = .operator →
        exec (.setTime l args phase) s = .next (s.refusedWith l 0x20)) ∧
      (-2000 ≤ offset → offset ≤ 2000 →
        t = { s with time := { s.time with pendingSlew := offset - s.time.slewStep } } →
        exec (.setTime l args phase) s = .next (t.answered l)) ∧
      (2000 < offset → l = .inspection → p.boundaryWaits = false →
        p.roomFor 1 →
        (p.supply.mode = .recording → k.openInterval s.time.counter = target - target % 1800) →
        t = { b with
          time := clock
          recorder := { k.recorder with
            accSets := if p.supply.mode = .recording then
                markSet (target - target % 1800) true false k.recorder.accSets
              else k.recorder.accSets
            withdrawal := p.recorder.withdrawal.map fun w =>
              { w with point := some (w.point.getD target) }
            queue := p.recorder.queue ++
              [.event (.plain target .timeStep s.time.counter)]
            steps := min (p.recorder.steps + 1) 65535 }
          attention := p.attention.raiseAll 0x0100
          supply := { p.supply with recoveredTo := none }
          scan := { b.scan with accs := List.replicate 32 .empty, latches := 0 }
          sec := sec } →
        exec (.setTime l args phase) s = .next (t.settle.answered l)) ∧
      (2000 < offset → l = .inspection → p.boundaryWaits = true →
        t = { b with
          time := clock
          attention := p.attention.raiseAll 0x0100
          scan := { b.scan with accs := List.replicate 32 .empty, latches := 0 }
          sec := { sec with held := some (.step s.time.counter ms) } } →
        exec (.setTime l args phase) s = .next (t.settle.answered l)))) ∧
  (∀ (s : State) (found : SecondBefore), found = s.sec.before → s.skipSecond = { s with
    scan := { s.scan with
      faultyA := (found.scan.map ScanBefore.faultyA).getD s.scan.faultyA
      faultyB := (found.scan.map ScanBefore.faultyB).getD s.scan.faultyB
      broken := (found.scan.map ScanBefore.broken).getD s.scan.broken
      linkStale := (found.scan.map ScanBefore.linkStale).getD s.scan.linkStale }
    sec := { s.sec with before := .nothing }
    stackUnits := match found.units with
      | none => s.stackUnits
      | some us => List.zipWith (fun now v : StackUnit => { v with
          slot := now.slot, runMark := v.runMark || now.runMark
          yearMark := v.yearMark || now.yearMark }) s.stackUnits us
    norm := {
      samples := if s.sec.sampleFormed = true ∧ s.sec.checkWaits = none then
        s.norm.samples.dropLast else s.norm.samples
      stackSets := if s.sec.sampled = true ∧ s.sec.sampleWaits = none then
        s.norm.stackSets.dropLast else s.norm.stackSets
      liveChannels := (found.live.map LiveBefore.channels).getD s.norm.liveChannels
      liveStacks := (found.live.map LiveBefore.marks).getD s.norm.liveStacks }
    recorder := { s.recorder with
      handed := s.recorder.handed.filter (fun n => decide (n.second ≠ s.time.counter))
      running := match found.live with
        | none => s.recorder.running
        | some v => if s.supply.mode = .withdrawn ∧ s.recorder.withdrawal = none then
            List.replicate 32 none else v.running
      accSets := match found.sums with
        | none => s.recorder.accSets
        | some a => s.recorder.accSets.map fun x => if x.start = a.start then a else x } }) ∧
  ∀ (s : State) (e i : Nat),
    (∀ r, s.store.event.read .event s.store.event.ptr.newest = .record r → e = r.time) →
    ((∀ r, s.store.event.read .event s.store.event.ptr.newest ≠ .record r) → e = 0) →
    (∀ r, s.store.interval.read .interval s.store.interval.ptr.newest = .record r →
      i = r.start + 1800) →
    ((∀ r, s.store.interval.read .interval s.store.interval.ptr.newest ≠ .record r) → i = 0) →
    (∀ p, s.store.mark = true → s.store.snapshot = some p → s.recoveryFloor = p.second) ∧
    (s.store.mark = false ∨ s.store.snapshot = none → s.recoveryFloor = max e i)

/-- INTERNAL_SECOND_EDGE: the counter rises by one, the slew step is taken where the discipline runs, and where the
part processes seconds a boundary that is held is crossed first, a change-over left by a transfer in COMMISSIONING is made,
a withdrawal reaches its point, and a new second begins; the counter does not wrap. The edges at an interval boundary are
those of IntervalBoundariesOpenIntervals. That sets without their partner are dropped is the model's choice (log entry 12),
that no step is taken where the discipline does not run its reading (log entry 13), and that the edge is held, but for that
change-over, while the write of a committed command decides what it finds its choice (log entry 20). -/
def Obligations.SecondsAdvanceTheClock : Prop :=
  ∀ (s p b t : State) (d : Int) (clock : TimeBase) (norm : Normaliser) (sec : SecondWork),
    p = s.passHeld → b = p.finishChangeOver →
    norm = { p.norm with
      samples := p.norm.samples.take p.norm.stackSets.length
      stackSets := p.norm.stackSets.take p.norm.samples.length } →
    sec = { processed := true, mode := p.supply.mode, cfg := p.config.active
            lockHeld := decide (p.scan.synth = .locked), nextSlot := 0, slotFloor := 0
            sampleFormed := false, sampled := false, held := none, checkWaits := none
            sampleWaits := none, before := .nothing } →
    (4294967295 ≤ s.time.counter → exec .internalSecondEdge s = .next s) ∧
    (s.time.counter < 4294967295 → (s.running = false ∨ s.supply.mode = .suspended) →
      d = (if s.supply.power = .running ∨ s.supply.power = .snapshotting then
        max (-10) (min 10 s.time.pendingSlew) else 0) →
      exec .internalSecondEdge s = .next { s with
        time := { s.time with
          counter := s.time.counter + 1, phase := 0
          pendingSlew := s.time.pendingSlew - d, slewStep := d }
        sec := { s.sec with processed := false } }) ∧
    (s.time.counter < 4294967295 → s.running = true → s.supply.mode ≠ .suspended →
      d = max (-10) (min 10 p.time.pendingSlew) →
      clock = { p.time with
        counter := p.time.counter + 1, phase := 0
        pendingSlew := p.time.pendingSlew - d, slewStep := d } →
      (p.time.counter + 1) % 1800 ≠ 0 →
      (p.boundaryWaits = false →
        t = { b with
          time := clock, norm := norm, sec := sec
          scan := { b.scan with accs := List.replicate 32 .empty, latches := 0 }
          recorder := { p.recorder with withdrawal := p.recorder.withdrawal.map fun w =>
            { w with point := some (w.point.getD (p.time.counter + 1)) } }
          supply := { p.supply with recoveredTo := none } } →
        exec .internalSecondEdge s = .next t.runWork.settle) ∧
      (p.boundaryWaits = true →
        t = { b with
          time := clock, norm := norm, sec := { sec with held := some .edge }
          scan := { b.scan with accs := List.replicate 32 .empty, latches := 0 } } →
        exec .internalSecondEdge s = .next t.runWork.settle)) ∧
    (p.config.changeOver = none → b = p) ∧
    (∀ old, p.config.changeOver = some old → b = { p.changeOver old p.config.active with
      config := { p.config with changeOver := none } })

/-- A forward step out of the open interval in RECORDING. It makes the recorder's work of the TRUNCATED close of that
interval, of the TIME_STEP record and of the crossed day boundaries in date order under the tables in force before it;
then an APPROVED stage transfers, its records behind them, and the target's interval opens, TRUNCATED unless the target is
its very beginning. The work waits while seconds of the interval it left are on their way, and the interval's records come
before TIME_STEP. The first of January crossed starts the year counters again. A boundary that is held is crossed first.
The model's readings and choices: the operand's millisecond is that of the step (log entry 1); days which recovery has run are
not run again (log entry 5); how the work waits and the time of a transfer's record (log entry 11); what a skipped second
leaves (log entry 12); the slew step and the pulse edge are cleared (log entry 13); and the order of a transfer's two records
(log entry 18). -/
def Obligations.StepsLeaveTheirInterval : Prop :=
  (∀ (s p k b t c u r : State) (args : List Byte) (phase target ms start reached days : Nat)
    (old new : Tables) (unlocks : Bool), s.reaches .setTime .inspection args = true →
    target = u32 args 0 → ms = u16 args 4 → ms ≤ 999 → s.supply.mode ≠ .commissioning →
    s.supply.mode ≠ .suspended → p = s.passHeld → p.supply.mode = .recording →
    (2000 : Int) < ((target * 1000 + ms : Nat) : Int) -
      ((s.time.counter * 1000 + max s.time.phase (min phase 999) : Nat) : Int) →
    p.boundaryWaits = false → k = p.skipSecond →
    b = k.finishChangeOver → start = k.openInterval s.time.counter →
    start ≠ target - target % 1800 →
    reached = max s.time.counter (p.supply.recoveredTo.getD s.time.counter) →
    days = target / 86400 - reached / 86400 → old = p.config.active →
    t = { b with
      time := { p.time with
        counter := target, phase := ms, pendingSlew := 0, slewStep := 0, pulseEdge := none }
      attention := p.attention.raiseAll 0x0100
      stackUnits := (List.range days).foldl (fun us i =>
        if isFirstOfYear (reached / 86400 + 1 + i) = true then us.map fun v =>
          { v with yearCounter := 0, yearMark := false
                   counterYear := yearOfDay (reached / 86400 + 1 + i) }
        else us) b.stackUnits
      recorder := { k.recorder with
        work := p.recorder.work ++
          [.closeStepped start, .record (.plain target .timeStep s.time.counter)] ++
          (List.range days).map fun i => .occasion {
            cause := .scheduled, joins := some (reached / 86400 + 1 + i), gov := old, closed := 0
            range := if old.device.window + 1 ≤ reached / 86400 + 1 + i then
                .through (reached / 86400 + 1 + i - old.device.window - 1) else .nothing } } } →
    (p.config.stage.state ≠ .approved ∨ p.store.fault = true → new = old ∧ c = t) →
    (p.config.stage.state = .approved → p.store.fault = false →
      new = merged old p.config.stage ∧
      (unlocks = true ↔ old.device.mains ≠ new.device.mains ∧ p.scan.synth = .locked) ∧
      c = { t.changeOver old new with
        config := { t.config with active := new, stage := .emptied, transferPending := true }
        arbiter := { p.arbiter with
          recClaims := if .transfer ∈ p.arbiter.recClaims then p.arbiter.recClaims
            else p.arbiter.recClaims ++ [.transfer] }
        scan := { (t.changeOver old new).scan with
          synth := if unlocks then .acquiring else p.scan.synth }
        sec := { t.sec with lockHeld := p.sec.lockHeld && !unlocks }
        recorder := { t.recorder with
          work := t.recorder.work ++
            [.record (.plain (target - target % 1800) .configTransferred
              (target - target % 1800))] ++
            (if unlocks then [.record (.plain target .scanClockUnlocked 2)] else []) ++
            (if new.device.window < old.device.window then [.occasion {
              cause := .scheduled, joins := none, gov := new, closed := 0
              range := if new.device.window + 1 ≤ target / 86400 then
                  .through (target / 86400 - new.device.window - 1) else .nothing }] else []) }
        attention := t.attention.raiseAll (if unlocks then 0x0090 else 0x0010) }) →
    u = { c with recorder := { c.recorder with
      accSets := c.recorder.accSets ++ [{
        start := target - target % 1800, cfg := new, accs := new.inUse.map fun x =>
          { channel := x, secsRec := 0, secsOp := 0, secsAbn := 0, validReg := 0, sumReg := 0
            sumDry := 0, secsMaint := 0, secsOutcal := 0, secsSat := 0, validAll := 0, sumAll := 0
            truncated := decide (target % 1800 ≠ 0 ∨ ms ≠ 0), interrupted := false } }] } } →
    r = u.runWork →
    exec (.setTime .inspection args phase) s = .next ((State.settle { r with
      recorder := { r.recorder with withdrawal := r.recorder.withdrawal.map fun w =>
        { w with point := some (w.point.getD target) } }
      supply := { r.supply with recoveredTo := none }
      scan := { r.scan with accs := List.replicate 32 .empty, latches := 0 }
      sec := {
        processed := true, mode := r.supply.mode, cfg := r.config.active
        lockHeld := decide (r.scan.synth = .locked), nextSlot := 0, slotFloor := ms
        sampleFormed := false, sampled := false, held := none, checkWaits := none
        sampleWaits := none, before := .nothing } }).answered .inspection)) ∧
  (∀ (s : State) (a : AccSet) (before : List AccSet), s.recorder.accSets = before ++ [a] →
    s.openInterval s.time.counter = a.start) ∧
  (∀ (s : State) (start : Nat) (e : EventRec) (rest : List RecorderWork) (a : AccSet),
    s.running = true → s.recorder.work = .closeStepped start :: .record e :: rest →
    ((∃ n ∈ s.recorder.handed, n.second - n.second % 1800 ≤ start) ∨
      (∃ x ∈ s.norm.samples, x.mode = .recording ∧ x.second - x.second % 1800 ≤ start) →
      s.runWork = s) ∧
    ((∀ n ∈ s.recorder.handed, start < n.second - n.second % 1800) →
      (∀ x ∈ s.norm.samples, x.mode = .recording → start < x.second - x.second % 1800) →
      s.recorder.accSets.find? (fun x => decide (x.start = start)) = some a →
      s.roomFor (a.accs.length + 1) →
      ∃ u : State, s.runWork = u.runWork ∧ u.recorder.work = rest ∧
        u.recorder.queue = s.recorder.queue ++
          a.accs.map (fun x => .interval (a.record { x with truncated := true })) ++ [.event e] ∧
        u.recorder.accSets = s.recorder.accSets.filter (fun x => decide (x.start ≠ start)) ∧
        u.time = s.time ∧ u.config = s.config ∧ u.store = s.store ∧ u.scan = s.scan ∧
        ∀ l, (u.attention.get l).pending &&& 0x0002 = 0x0002))

/-- What a boundary does. The edge onto an interval boundary transfers an APPROVED stage, opens the next interval in
RECORDING, and starts recording in ENTERING_SERVICE; at a day boundary in RECORDING the scheduled closes follow, and on 1
January the year counters start again; boundaries that recovery has run are not run twice. A transfer changes the blocks
over, claims its write, writes its record and that of a scan clock it unlocks, and calls for the closes of a lowered
window. While WITHDRAW is being programmed the transfer is made at its boundary, and the rest of the boundary is held. A held
boundary is crossed when the write it waits for ends, and a self-check and a sampling point that waited for it
are then made, on the latches and the slots of their own moment but for those that the boundary has emptied or filled. That
what recovery has run is not run again (log entry 5), the slot of a LINK channel that enters use (log entry 6), that sets
without their partner are dropped at the edge (log entry 12), the order of a transfer's two records (log entry
18), the holding of a boundary (log entry 20) and the slot of a stack out of use (log entry 22) are the model's reading and
choice. -/
def Obligations.IntervalBoundariesOpenIntervals : Prop :=
  (∀ (s : State) (fresh : Tables → AccSet), s.supply.power = .running →
    (fresh = fun cfg => { start := s.time.counter, cfg := cfg, accs := cfg.inUse.map fun c =>
      { channel := c, secsRec := 0, secsOp := 0, secsAbn := 0, validReg := 0, sumReg := 0
        sumDry := 0, secsMaint := 0, secsOutcal := 0, secsSat := 0, validAll := 0
        sumAll := 0, truncated := false, interrupted := false } }) →
    (s.supply.mode = .commissioning ∨ s.supply.mode = .suspended → s.intervalBoundary = s) ∧
    ∀ (old new : Tables) (c : State) (unlocks : Bool), old = s.config.active →
      (s.config.stage.state ≠ .approved ∨ s.store.fault = true → new = old ∧ c = s) →
      (s.config.stage.state = .approved → s.store.fault = false → s.roomFor 2 ∧
        new = merged old s.config.stage ∧
        (unlocks = true ↔ old.device.mains ≠ new.device.mains ∧ s.scan.synth = .locked) ∧
        c = { s.changeOver old new with
          config := { s.config with
            active := new, stage := .emptied, transferPending := true }
          arbiter := { s.arbiter with
            recClaims := if .transfer ∈ s.arbiter.recClaims then s.arbiter.recClaims
              else s.arbiter.recClaims ++ [.transfer] }
          scan := { (s.changeOver old new).scan with
            synth := if unlocks then .acquiring else s.scan.synth }
          sec := { s.sec with lockHeld := s.sec.lockHeld && !unlocks }
          recorder := { s.recorder with
            queue := s.recorder.queue ++
              [.event (.plain s.time.counter .configTransferred s.time.counter)] ++
              (if unlocks then [.event (.plain s.time.counter .scanClockUnlocked 2)] else [])
            work := s.recorder.work ++ (if new.device.window < old.device.window then
              [.occasion {
                cause := .scheduled, joins := none, gov := new, closed := 0
                range := if new.device.window + 1 ≤ s.time.counter / 86400 then
                    .through (s.time.counter / 86400 - new.device.window - 1)
                  else .nothing }] else []) }
          attention := s.attention.raiseAll (if unlocks then 0x0090 else 0x0010) }) →
      s.transferAt s.time.counter (s.time.counter / 86400) = c ∧
      (s.supply.mode = .withdrawn → s.intervalBoundary = c) ∧
      (s.supply.mode = .recording → s.intervalBoundary = { c with
        recorder := { c.recorder with accSets := c.recorder.accSets ++ [fresh new] } }) ∧
      (s.supply.mode = .enteringService → s.intervalBoundary = { c with
        supply := { s.supply with mode := .recording }
        recorder := { c.recorder with
          accSets := c.recorder.accSets ++ [fresh new]
          table := joinDay (s.time.counter / 86400) c.recorder.table } })) ∧
  (∀ (s : State) (old new : Tables), ∃ (slots : List (Option ValueSlot))
    (stackUnits : List StackUnit), s.changeOver old new = { s with
      scan := { s.scan with slots := slots }, stackUnits := stackUnits } ∧
    (∀ c, slots[c]? = (s.scan.slots[c]?).map fun v =>
      if (new.channel c).source = .link ∧ ((old.channel c).source ≠ .link ∨
        (new.channel c).inUse = true ∧ (old.channel c).inUse = false) then none else v) ∧
    ∀ k : Nat, stackUnits[k]? = (s.stackUnits[k]?).map fun u : StackUnit =>
      { u with
        slot := if (old.stack k).source = .lines ∧ (new.stack k).source = .link then
          some { levels := u.raw, arrival := none } else u.slot
        wasInUse := u.wasInUse && (new.stack k).inUse
        wasLink := u.wasLink && decide ((new.stack k).source = .link) }) ∧
  (∀ (s b mid u : State) (time day : Nat) (years : List StackUnit), time = s.time.counter →
    day = time / 86400 →
    b = { s.finishChangeOver with recorder := { s.recorder with
      withdrawal := s.recorder.withdrawal.map fun w =>
        { w with point := some (w.point.getD time) } } } →
    mid = (if time % 1800 = 0 ∧ s.supply.recoveredTo ≠ some time then b.intervalBoundary else b) →
    years = (if isFirstOfYear day = true then mid.stackUnits.map fun v =>
      { v with yearCounter := 0, yearMark := false, counterYear := yearOfDay day }
      else mid.stackUnits) →
    (time % 86400 ≠ 0 ∨ s.supply.recoveredTo = some time → u = mid) →
    (time % 86400 = 0 → s.supply.recoveredTo ≠ some time →
      (s.supply.mode = .recording → u = { mid with
        stackUnits := years
        recorder := { mid.recorder with work := mid.recorder.work ++ [.occasion {
          cause := .scheduled, joins := some day, gov := mid.config.active, closed := 0
          range := if mid.config.active.device.window + 1 ≤ day then
              .through (day - mid.config.active.device.window - 1) else .nothing }] } }) ∧
      (s.supply.mode ≠ .recording → u = { mid with stackUnits := years })) →
    s.cross .edge = { u with supply := { u.supply with recoveredTo := none } }) ∧
  (∀ (s p t c u : State) (next : Nat) (held : Option HeldBoundary), s.running = true →
    s.supply.mode ≠ .suspended → s.time.counter < 4294967295 → p = s.passHeld →
    next = p.time.counter + 1 →
    t = { p with
      time := { p.time with
        counter := next, phase := 0
        pendingSlew := p.time.pendingSlew - max (-10) (min 10 p.time.pendingSlew)
        slewStep := max (-10) (min 10 p.time.pendingSlew) }
      norm := { p.norm with
        samples := p.norm.samples.take p.norm.stackSets.length
        stackSets := p.norm.stackSets.take p.norm.samples.length } } →
    c = t.finishChangeOver →
    (p.boundaryWaits = false → u = t.cross .edge ∧ held = none) →
    (p.boundaryWaits = true → held = some .edge ∧
      u = if next % 1800 = 0 ∧ p.supply.recoveredTo ≠ some next ∧ p.committed = some .withdraw ∧
          p.supply.mode = .recording then c.transferAt next (next / 86400) else c) →
    exec .internalSecondEdge s = .next (State.runWork { u with
      scan := { u.scan with accs := List.replicate 32 .empty, latches := 0 }
      sec := {
        processed := true, mode := u.supply.mode, cfg := u.config.active
        lockHeld := decide (u.scan.synth = .locked), nextSlot := 0, slotFloor := 0
        sampleFormed := false, sampled := false, held := held, checkWaits := none
        sampleWaits := none, before := .nothing } }).settle) ∧
  (∀ s u : State, (s.sec.held = none → s.passHeld = s) ∧
    (∀ h, s.sec.held = some h → u = s.cross h → s.passHeld = State.runWork (State.makeSample
      (State.makeCheck { u with
        sec := { u.sec with mode := u.supply.mode, cfg := u.config.active, held := none } }))) ∧
    (s.sec.checkWaits = none → s.makeCheck = s) ∧
    (∀ c, s.sec.checkWaits = some c → s.makeCheck = State.withInputs s.scan.latches s.scan.slots
      (State.endSelfCheck c.lock c.readingA c.readingB { s with
        sec := { s.sec with checkWaits := none }
        scan := { s.scan with
          latches := c.latches
          slots := s.scan.slots.mapIdx fun i v => if v = none then none else c.slots.getD i v } })) ∧
    (s.sec.sampleWaits = none → s.makeSample = s) ∧
    (∀ kept, s.sec.sampleWaits = some kept → s.makeSample =
      State.withLinkSlots (s.stackUnits.map StackUnit.slot) (State.sampleStacks { s with
        sec := { s.sec with sampleWaits := none }
        stackUnits := s.stackUnits.mapIdx fun k u => { u with
          slot := if (u.slot.bind LinkSlot.arrival).isNone = true then u.slot
            else kept.getD k u.slot } }))) ∧
  (∀ (s : State) (latches : BitVec 16) (slots : List (Option ValueSlot)),
    s.withInputs latches slots = { s with
      scan := { s.scan with latches := latches, slots := slots } }) ∧
  ∀ (s : State) (slots : List (Option LinkSlot)), s.withLinkSlots slots = { s with
    stackUnits := s.stackUnits.mapIdx fun k u => { u with slot := slots.getD k u.slot } }

/-- TREF_PULSE: the first pulse of an edge's window is its reference pulse: it replaces the pending slew and
makes the state TRACKING; a further one is a bad pulse. REFERENCE_WINDOW_CLOSE: a window without a pulse
counts as missed while TRACKING, and the third in a row loses the reference, with its record and the TIME
flag. Both happen also while a snapshot is being written. That an offset is measured at its pulse, which may lie at the
very end of a lengthened second, that it is clipped to 0 to 500 where the second is shortened, and that a window closes at
phase 500, are the model's reading (log entries 1 and 13). -/
def Obligations.ReferencePulsesSetTheSlew : Prop :=
  (∀ (s t : State) (p e phase : Nat) (offset slew : Int),
    (s.supply.power = .running ∨ s.supply.power = .snapshotting) → s.time.phase ≤ p →
    (p : Int) ≤ 1000 - s.time.slewStep → phase = max s.time.phase (min p 999) →
    s.time.counter < 4294967295 →
    (p < 500 ∧ e = s.time.counter ∧ offset = -(p : Int) ∧ slew = offset - s.time.slewStep ∨
      500 ≤ p ∧ e = s.time.counter + 1 ∧
        offset = max 0 (min 500 (1000 - s.time.slewStep - p)) ∧ slew = offset) →
    (s.time.pulseEdge = some e →
      t = { s with time := { s.time with
        phase := phase, badPulses := min (s.time.badPulses + 1) 65535 } } →
      exec (.trefPulse p) s = .next t.settle) ∧
    (s.time.pulseEdge ≠ some e → s.time.reference = .tracking →
      t = { s with time := { s.time with
        phase := phase, pulseEdge := some e, missed := 0, pendingSlew := slew } } →
      exec (.trefPulse p) s = .next t.settle) ∧
    (s.time.pulseEdge ≠ some e → s.time.reference = .noReference → s.roomFor 1 →
      t = { s with
        time := { s.time with
          phase := phase, pulseEdge := some e, missed := 0, badPulses := 0
          reference := .tracking, pendingSlew := slew }
        recorder := { s.recorder with queue := s.recorder.queue ++ [.event {
          time := e, kind := .referenceRegained, stack := none, channel := none
          argument := BitVec.ofInt 32 offset }] }
        attention := s.attention.raiseAll 0x0100 } →
      exec (.trefPulse p) s = .next t.settle)) ∧
  ∀ (s t : State) (phase : Nat), (s.supply.power = .running ∨ s.supply.power = .snapshotting) →
    phase = max s.time.phase 500 → phase ≤ 999 →
    (s.time.pulseEdge = some s.time.counter ∨ s.time.reference = .noReference →
      t = { s with time := { s.time with phase := phase } } →
      exec .referenceWindowClose s = .next t.settle) ∧
    (s.time.pulseEdge ≠ some s.time.counter → s.time.reference = .tracking →
      (s.time.missed ≤ 1 →
        t = { s with time := { s.time with phase := phase, missed := s.time.missed + 1 } } →
        exec .referenceWindowClose s = .next t.settle) ∧
      (s.time.missed = 2 → s.roomFor 1 →
        t = { s with
          time := { s.time with phase := phase, missed := 3, reference := .noReference }
          recorder := { s.recorder with queue := s.recorder.queue ++
            [.event (.plain s.time.counter .referenceLost s.time.badPulses)] }
          attention := s.attention.raiseAll 0x0100 } →
        exec .referenceWindowClose s = .next t.settle))

/-! ### Acquisition and stacks -/

/-- SCAN_SLOT: in a taken slot every listed input gives one conversion, clipped and marked by its range, and
no other input and nothing else changes; STATUS_LINE_ACTIVE sets the latch of its line; LOSS_OF_LOCK and
ACQUISITION_COMPLETE move the synthesizer, with their records and the ACQUISITION flag. The phase a slot leaves is its end
(the model's choice, log entry 1). -/
def Obligations.ScanUnitFollowsItsEvents : Prop :=
  (∀ (s : State) (slot : Nat) (readings : List Nat), s.running = true → s.sec.processed = true →
    s.sec.sampleFormed = false → s.sec.nextSlot ≤ slot → slot ≤ 9 →
    s.time.phase ≤ 90 * (slot + 1) →
    ∃ accs, exec (.scanSlot slot readings) s = .next { s with
        time := { s.time with phase := 90 * (slot + 1) }
        sec := { s.sec with nextSlot := slot + 1 }
        scan := { s.scan with accs := accs } } ∧
      ((s.sec.lockHeld = false ∨ 90 * slot < s.sec.slotFloor) → accs = s.scan.accs) ∧
      (s.sec.lockHeld = true → s.sec.slotFloor ≤ 90 * slot → ∀ i a r, s.scan.accs[i]? = some a →
        readings[i]? = some r → r ≤ 25000 →
        ((∀ c, c < 32 → (s.sec.cfg.channel c).inUse = true →
            (s.sec.cfg.channel c).source ≠ .analog i) → accs[i]? = some a) ∧
        (∀ c, c < 32 → (s.sec.cfg.channel c).inUse = true →
          (s.sec.cfg.channel c).source = .analog i →
          accs[i]? = some {
            n := a.n + 1
            sum := a.sum + (if 20500 < r then 20500 else r)
            lineBreak := a.lineBreak || decide (r < 3600)
            saturated := a.saturated || decide (20500 < r) }))) ∧
  ∀ (s t : State) (line : Nat), s.running = true →
    (line ≤ 15 → ∃ latches, exec (.statusLineActive line) s =
        .next { s with scan := { s.scan with latches := latches } } ∧
      ∀ k, k < 16 → latches.getLsbD k = (decide (k = line) || s.scan.latches.getLsbD k)) ∧
    (16 ≤ line → exec (.statusLineActive line) s = .next s) ∧
    (s.scan.synth = .locked → s.roomFor 1 →
      t = { s with
        scan := { s.scan with synth := .acquiring }
        sec := { s.sec with lockHeld := false }
        recorder := { s.recorder with queue := s.recorder.queue ++
          [.event (.plain s.time.counter .scanClockUnlocked 1)] }
        attention := s.attention.raiseAll 0x0080 } →
      exec .lossOfLock s = .next t.settle) ∧
    (s.scan.synth ≠ .locked → exec .lossOfLock s = .next s) ∧
    (s.scan.synth = .acquiring → s.roomFor 1 →
      t = { s with
        scan := { s.scan with synth := .locked }
        recorder := { s.recorder with queue := s.recorder.queue ++
          [.event (.plain s.time.counter .scanClockLocked
            (mainsCode s.config.active.device.mains))] }
        attention := s.attention.raiseAll 0x0080 } →
      exec .acquisitionComplete s = .next t.settle) ∧
    (s.scan.synth ≠ .acquiring → exec .acquisitionComplete s = .next s)

/-- SELF_CHECK_END: the converters' fault states and the line-break states follow the second's checks and
conversions, with the records of their changes in order and the ACQUISITION flag; and the sample set of the second is
handed on, with a verdict for every channel in use, a value where it is valid, and SIGNALS_STALE where a submitted value
goes stale. A check that ends while a second boundary is held waits for it. That the set is formed here (log entry 18),
the order of the records and the clamp of a reading in them (log entry 13), the phase it leaves, 960 (log entry 1), the
wait (log entry 20) and what the second keeps for a step that skips it (log entry 12) are the model's reading and
choice. -/
def Obligations.SelfCheckEndsTheScan : Prop :=
  (∀ (s t : State) (a b : Nat), s.running = true → s.sec.processed = true →
    s.sec.sampleFormed = false →
    t = { s with time := { s.time with phase := max s.time.phase 960 } } →
    (s.sec.held = none → exec (.selfCheckEnd a b) s =
      .next (State.endSelfCheck s.sec.lockHeld a b t).settle) ∧
    (s.sec.held ≠ none → exec (.selfCheckEnd a b) s = .next { t with sec := { s.sec with
      sampleFormed := true, nextSlot := 10
      checkWaits := some {
        lock := s.sec.lockHeld, readingA := a, readingB := b
        latches := s.scan.latches, slots := s.scan.slots } } })) ∧
  ∀ (s : State) (a b : Nat) (ok : Nat → Bool) (noted : Nat → Nat → Bool → List QueueItem)
    (breaks : List QueueItem) (stale : Nat → Bool), s.running = true → s.sec.processed = true →
    s.sec.sampleFormed = false → s.sec.held = none → (ok = fun x => decide (11940 ≤ x ∧ x ≤ 12060)) →
    (noted = fun converter reading before =>
      if s.sec.lockHeld = false ∨ before = !ok reading then []
      else [.event (.plain s.time.counter
        (if before then .converterFaultEnd else .converterFaultBegin)
        (converter * 65536 + min reading 25000))]) →
    breaks = (List.range 32).filterMap (fun i => (s.sec.cfg.channelOfInput i).bind fun c =>
      if s.scan.broken.getD i false = false ∧ (s.scan.accs.getD i .empty).lineBreak = true then
        some (.event {
          time := s.time.counter, kind := .lineBreakBegin
          stack := some (s.sec.cfg.channel c).stack, channel := some c
          argument := BitVec.ofNat 32 i }) else none) →
    (stale = fun c => decide ((s.sec.cfg.channel c).inUse = true ∧
      (s.sec.cfg.channel c).source = .link ∧
      latched s.scan.latches (s.sec.cfg.channel c).maintLine = false ∧
      latched s.scan.latches (s.sec.cfg.channel c).faultLine = false ∧
      ∀ v, s.scan.slots.getD c none = some v → v.arrival + 2 < s.time.counter)) →
    s.scan.broken.length = 32 →
    ∃ (u : State) (set : SampleSet), exec (.selfCheckEnd a b) s = .next u.settle ∧
      u.scan.faultyA = (if s.sec.lockHeld then !ok a else s.scan.faultyA) ∧
      u.scan.faultyB = (if s.sec.lockHeld then !ok b else s.scan.faultyB) ∧
      (∀ (i : Nat) (acc : SecondAcc) (br : Bool), i < 32 → s.scan.accs[i]? = some acc →
        s.scan.broken[i]? = some br →
        u.scan.broken[i]? = some (if (s.sec.cfg.channelOfInput i).isSome then
            (if acc.lineBreak then true else if 1 ≤ acc.n then false else br) else br)) ∧
      (s.roomFor 34 → u.recorder.queue = s.recorder.queue ++ noted 0 a s.scan.faultyA ++
          noted 1 b s.scan.faultyB ++ breaks ∧
        ∀ l, (u.attention.get l).pending = (s.attention.get l).pending |||
          (if noted 0 a s.scan.faultyA ++ noted 1 b s.scan.faultyB ++ breaks = [] then 0
            else 0x0080) |||
          (if ∃ c ∈ List.range 32, stale c = true ∧ s.scan.linkStale.getD c none = some false then 0x0040
            else 0)) ∧
      (∀ c, c < 32 → u.scan.linkStale[c]? = some (if (s.sec.cfg.channel c).inUse = true ∧
        (s.sec.cfg.channel c).source = .link then some (stale c) else none)) ∧
      u.scan.accs = s.scan.accs ∧ u.scan.slots = s.scan.slots ∧
      u.scan.latches = s.scan.latches ∧ u.scan.synth = s.scan.synth ∧
      u.sec = { s.sec with
        sampleFormed := true, nextSlot := 10
        before := { s.sec.before with scan := some {
          faultyA := s.scan.faultyA, faultyB := s.scan.faultyB, broken := s.scan.broken
          linkStale := s.scan.linkStale } } } ∧
      u.norm = { s.norm with samples := s.norm.samples ++ [set] } ∧
      set.second = s.time.counter ∧ set.mode = s.sec.mode ∧ set.cfg = s.sec.cfg ∧
      set.samples.map Sample.channel = s.sec.cfg.inUse ∧
      (∀ x ∈ set.samples, ∀ v, (s.sec.cfg.channel x.channel).source = .constant v →
        x.verdict = .good ∧ x.value = some v ∧ x.conversions = none) ∧
      (∀ x ∈ set.samples, ∀ (i : Nat) (acc : SecondAcc),
        (s.sec.cfg.channel x.channel).source = .analog i →
        s.scan.accs[i]? = some acc →
        x.verdict = (if latched s.scan.latches (s.sec.cfg.channel x.channel).maintLine then
            .maintenance
          else if latched s.scan.latches (s.sec.cfg.channel x.channel).faultLine then
            .analyserFault
          else if s.sec.lockHeld = true ∧ ok (if i ≤ 15 then a else b) = false then
            .converterFault
          else if acc.lineBreak then .lineBreak
          else if acc.n < 5 then .short
          else if acc.saturated then .saturated else .good) ∧
        x.conversions = some acc.n ∧
        x.value = (if x.verdict = .good ∨ x.verdict = .saturated then
            some ((roundHalfUp acc.sum acc.n : Nat) : Int) else none)) ∧
      (∀ x ∈ set.samples, (s.sec.cfg.channel x.channel).source = .link →
        x.conversions = none ∧
        (latched s.scan.latches (s.sec.cfg.channel x.channel).maintLine = true →
          x.verdict = .maintenance ∧ x.value = none) ∧
        (latched s.scan.latches (s.sec.cfg.channel x.channel).maintLine = false →
          latched s.scan.latches (s.sec.cfg.channel x.channel).faultLine = true →
          x.verdict = .analyserFault ∧ x.value = none) ∧
        (stale x.channel = true → x.verdict = .stale ∧ x.value = none) ∧
        ∀ v, latched s.scan.latches (s.sec.cfg.channel x.channel).maintLine = false →
          latched s.scan.latches (s.sec.cfg.channel x.channel).faultLine = false →
          s.scan.slots.getD x.channel none = some v → s.time.counter ≤ v.arrival + 2 →
          x.verdict = (if v.maintenance then .maintenance else .good) ∧
          x.value = (if v.maintenance then none else some v.value)) ∧
      u.stackUnits = s.stackUnits ∧ u.config = s.config ∧ u.store = s.store ∧
      u.links = s.links ∧ u.supply = s.supply ∧ u.pending = s.pending ∧
      u.time = { s.time with phase := max s.time.phase 960 }

/-- The debounce of a signal: the table of R53, the rule that a level that differs and holds reaches the
filtered signal with its second s0 + d and not before, and that the three signals of a stack are debounced
separately, its state following from the filtered levels. -/
def Obligations.SignalsAreDebounced : Prop :=
  (∀ d raw filtered timer,
    (raw = filtered → debounce d raw filtered timer = (filtered, 0)) ∧
    (raw ≠ filtered → timer + 1 ≤ d → debounce d raw filtered timer = (filtered, timer + 1)) ∧
    (raw ≠ filtered → d < timer + 1 → debounce d raw filtered timer = (raw, 0)) ∧
    (timer ≤ d → (debounce d raw filtered timer).2 ≤ d)) ∧
  (∀ d n raw filtered timer, raw ≠ filtered → timer = 0 →
    (n ≤ d → (fun p => debounce d raw p.1 p.2)^[n] (filtered, timer) = (filtered, n)) ∧
    (d < n → ((fun p => debounce d raw p.1 p.2)^[n] (filtered, timer)).1 = raw)) ∧
  (∀ (u v : StackUnit) (e : StackEntry) (pins : Signals) (t : Nat), e.inUse = true →
    u.wasInUse = true → v = u.evaluate e pins t →
    (v.filtered.fire, v.fireTimer) = debounce e.debounce v.raw.fire u.filtered.fire u.fireTimer ∧
    (v.filtered.feed, v.feedTimer) = debounce e.debounce v.raw.feed u.filtered.feed u.feedTimer ∧
    (v.filtered.abn, v.abnTimer) = debounce e.debounce v.raw.abn u.filtered.abn u.abnTimer ∧
    (v.state, v.runOut) = decideState v.filtered u.state u.runOut e.runOut)

/-- The state of a second by the first row that decides, and the course of a run-out: it holds its state for
its time, then the stack is in SHUTDOWN or OFF. SAMPLING_POINT: every stack in use takes its signals from its pins or from
its link slot, which is STALE from its tenth second on, debounces them, or takes them directly as it enters use, and its
state is decided; its abnormal seconds are counted, a limit reached is recorded once and raises ABNORMAL_LIMIT, and a
stack gone STALE raises SIGNALS_STALE; the pins are kept, and the stack state set of the second is handed on. A
sampling point that falls while a second boundary is held waits for it, its pins and link slots read. The phase it leaves, 960 (log entry
1), that a stack out of use keeps its STALE mark (log entry 13), the order of the limit records (log entry 18), the wait
(log entry 20) and what the second keeps for a step that skips it (log entry 12) are the model's reading and choice. -/
def Obligations.StacksAreSampled : Prop :=
  ((∀ f before r time,
    (f.feed = true → decideState f before r time =
      (if f.abn then .abnormal else .operating, none)) ∧
    (f.feed = false → r = none → before ≠ .operating → before ≠ .abnormal →
      decideState f before r time =
        (if f.fire then (if before = .shutdown then .shutdown else .startup) else .off,
          none))) ∧
  (∀ f held time n, f.feed = false → f.abn = false → (held = .operating ∨ held = .abnormal) →
    (1 ≤ n → n ≤ time →
      ((fun p => decideState f p.1 p.2 time)^[n] (held, none)).1 = held) ∧
    (fun p => decideState f p.1 p.2 time)^[time + 1] (held, none) =
      (if f.fire then .shutdown else .off, none))) ∧
  (∀ (s t : State) (lines : List Signals), s.running = true → s.sec.processed = true →
    s.sec.sampled = false →
    t = { s with
      time := { s.time with phase := max s.time.phase 960 }
      pins := (List.range 4).map fun k => lines.getD k .allOff } →
    (s.sec.held = none → exec (.samplingPoint lines) s = .next t.sampleStacks.settle) ∧
    (s.sec.held ≠ none → exec (.samplingPoint lines) s =
      .next { t with sec := { s.sec with 
        sampled := true, sampleWaits := some (s.stackUnits.map StackUnit.slot) } })) ∧
  ∀ (s : State) (lines : List Signals) (v : Nat → StackUnit) (e : Nat → StackEntry) (rec : Bool),
    s.running = true → s.sec.processed = true → s.sec.sampled = false → s.sec.held = none →
    s.stackUnits.length = 4 →
    (∀ k, k < 4 → s.stackUnits[k]? = some (v k)) → (e = fun k => s.sec.cfg.stack k) →
    rec = decide (s.sec.mode = .recording) →
    ∃ (u : State) (w : Nat → StackUnit) (run year : Nat → Bool),
      exec (.samplingPoint lines) s = .next u.settle ∧ u.stackUnits.length = 4 ∧
      (∀ k, k < 4 → u.pins[k]? = some (lines.getD k .allOff)) ∧
      (∀ k, k < 4 → u.stackUnits[k]? = some (w k) ∧ (w k).slot = (v k).slot ∧
        (w k).wasInUse = (e k).inUse ∧
        ((e k).inUse = false → (w k).state = .off ∧ (w k).runOut = none ∧
          (w k).raw = (v k).raw ∧ (w k).filtered = (v k).filtered ∧
          (w k).fireTimer = (v k).fireTimer ∧ (w k).feedTimer = (v k).feedTimer ∧
          (w k).abnTimer = (v k).abnTimer ∧
          ((e k).source = .link → (w k).stale = (v k).stale)) ∧
        ((e k).source = .lines → (w k).stale = false) ∧
        ((e k).inUse = true → (w k).wasLink = decide ((e k).source = .link) ∧
          ((e k).source = .lines → (w k).raw = lines.getD k .allOff) ∧
          ((e k).source = .link → (v k).slot = none → (w k).raw = .allOff ∧ (w k).stale = true) ∧
          (∀ x, (e k).source = .link → (v k).slot = some x → (w k).raw = x.levels ∧
            ((w k).stale = true ↔ ∀ a, x.arrival = some a → a + 9 < s.time.counter)) ∧
          ((v k).wasInUse = true →
            ((w k).filtered.fire, (w k).fireTimer) =
              debounce (e k).debounce (w k).raw.fire (v k).filtered.fire (v k).fireTimer ∧
            ((w k).filtered.feed, (w k).feedTimer) =
              debounce (e k).debounce (w k).raw.feed (v k).filtered.feed (v k).feedTimer ∧
            ((w k).filtered.abn, (w k).abnTimer) =
              debounce (e k).debounce (w k).raw.abn (v k).filtered.abn (v k).abnTimer ∧
            ((w k).state, (w k).runOut) =
              decideState (w k).filtered (v k).state (v k).runOut (e k).runOut) ∧
          ((v k).wasInUse = false → (w k).filtered = (w k).raw ∧ (w k).fireTimer = 0 ∧
            (w k).feedTimer = 0 ∧ (w k).abnTimer = 0 ∧
            ((w k).state, (w k).runOut) = decideState (w k).raw .off none (e k).runOut)) ∧
        (w k).counterYear = yearOfDay (s.time.counter / 86400) ∧
        (w k).runCounter = (if rec = true ∧ (w k).state = .abnormal then
          min ((v k).runCounter + 1) 4294967295 else 0) ∧
        (w k).yearCounter = (if rec = true ∧ (w k).state = .abnormal then 1 else 0) +
          (if (v k).counterYear = (w k).counterYear then (v k).yearCounter else 0) ∧
        run k = (rec && decide ((e k).runLimit ≤ (w k).runCounter) &&
          !((v k).runMark && decide ((w k).state = .abnormal))) ∧
        (w k).runMark = (rec && decide ((w k).state = .abnormal) && (v k).runMark || run k) ∧
        year k = (rec && decide ((e k).yearLimit ≤ (w k).yearCounter) &&
          !((v k).yearMark && decide ((v k).counterYear = (w k).counterYear))) ∧
        (w k).yearMark = (((v k).yearMark && decide ((v k).counterYear = (w k).counterYear)) ||
          year k)) ∧
      (s.roomFor 8 → u.recorder.queue = s.recorder.queue ++ (List.range 4).flatMap (fun k =>
          (if run k then [.event {
            time := s.time.counter, kind := .abnormalRunLimit, stack := some k, channel := none
            argument := BitVec.ofNat 32 (w k).runCounter }] else []) ++
          (if year k then [.event {
            time := s.time.counter, kind := .abnormalYearLimit, stack := some k, channel := none
            argument := BitVec.ofNat 32 (w k).yearCounter }] else [])) ∧
        ∀ l, (u.attention.get l).pending = (s.attention.get l).pending |||
          (if ∃ k ∈ List.range 4, (run k = true ∨ year k = true) then 0x0020 else 0) |||
          (if ∃ k ∈ List.range 4, (e k).inUse = true ∧ (e k).source = .link ∧ (v k).wasInUse = true ∧
            (v k).wasLink = true ∧ (v k).stale = false ∧ (w k).stale = true then 0x0040
            else 0)) ∧
      (∃ set : StackSet, u.norm = { s.norm with stackSets := s.norm.stackSets ++ [set] } ∧
        set.second = s.time.counter ∧ set.marks.length = 4 ∧ ∀ k, k < 4 → set.marks[k]? = some {
          inUse := (e k).inUse, state := (w k).state, stale := (w k).stale }) ∧
      u.sec = { s.sec with
        sampled := true, before := { s.sec.before with units := some s.stackUnits } } ∧
      u.scan = s.scan ∧ u.config = s.config ∧
      u.store = s.store ∧ u.links = s.links ∧ u.supply = s.supply ∧ u.pending = s.pending ∧
      u.time = { s.time with phase := max s.time.phase 960 }

/-! ### Supply loss and restart -/

/-- PFAIL_ACTIVE, RSTN_ACTIVE and RESTART: a running part takes a snapshot of its records, days, tally and
stacks, one that is SUSPENDED or STARTING halts at once, and during a snapshot or the halt nothing happens. Before
the snapshot is taken the begun grant runs to its end, a verified rewrite is counted, the pending transfer is written in
a READY store, handed seconds are accumulated and recorder work that has begun is completed. The operations in flight
end with RESTART. SNAPSHOT_WRITE_END: the snapshot is kept with its mark, cut off, or failed with the store in FAULT,
and the part is in the halt; BACKUP_SUPPLY_LOSS: in the halt the set mark is lost. That the reply of RESTART counts as
sent and that a grant is dropped at a halt without a snapshot (log entry 3), that a grant not begun is dropped, that a
change-over still to be made is made first, the order of all this and which operations the snapshot holds (log entry 4),
that a withdrawal is held with its point and as not started (log entry 5), and that a failure in a store already in FAULT
is recorded too, its argument free (log entry 9), are the model's reading and choice. -/
def Obligations.SnapshotsBeginAndEnd : Prop :=
  (∀ (s : State) (attempts : List Attempt) (i : Instr) (cause : SnapCause) (sup : Supply)
    (l : Link) (args : List Byte) (ended : Option OpSnapshot → LinkPort → Option OpResult),
    (ended = fun x v => match x with
      | none => v.last
      | some o => some { command := some o.command, outcome := .restart, reason := none
                         index := none, counts := o.counts }) →
    ((i = .pfailActive attempts ∧ cause = .pfail ∧ sup = { s.supply with pfail := true }) ∨
      (i = .rstnActive attempts ∧ cause = .rstn ∧ sup = { s.supply with rstn := true }) ∨
      (i = .restart l args attempts ∧ cause = .restart ∧ sup = s.supply ∧
        s.reaches .restart l args = true)) →
    (s.supply.power = .halt ∨ s.supply.power = .snapshotting → cause ≠ .restart →
      exec i s = .next { s with supply := sup }) ∧
    (s.supply.power = .starting ∨ s.running = true ∧ s.supply.mode = .suspended →
      ∃ u : State, exec i s = .next u ∧ u.supply = { sup with power := .halt, taking := none } ∧
        u.store = s.store ∧ u.time = s.time ∧ u.recorder = s.recorder ∧ u.config = s.config ∧
        u.stackUnits = s.stackUnits ∧ u.scan = s.scan ∧ u.arbiter.grant = none ∧
        ∀ k, (u.port k).recv = .idle ∧ (u.port k).op = none ∧ (u.port k).readout = none ∧
          (u.port k).tx = [] ∧ (u.port k).leaving = [] ∧ (u.port k).last = (ended
            ((s.port k).op.map fun o => { command := o.cmd.name, counts := o.cmd.counts })
            (s.port k)) ∧
          (u.attention.get k).pending = 0) ∧
    (∀ p, s.running = true → s.supply.mode ≠ .suspended →
      (∀ g, s.arbiter.grant = some g → g.begun = false) →
      (∀ op old new, s.annotation = some op → op.phase ≠ .verified old new) →
      (s.config.transferPending = false ∨ s.store.fault = true) → s.recorder.handed = [] →
      s.recorder.work = [] → s.roomFor 1 →
      p = { second := s.time.counter, cause := cause, mode := s.supply.mode
            withdrawal := s.recorder.withdrawal.map fun w =>
              { w with point := some (w.point.getD (s.time.counter + 1)), started := false }
            accSets := s.recorder.accSets, table := s.recorder.table
            queue := if cause = .pfail then s.recorder.queue ++
              [.event (.plain s.time.counter .powerLoss 0)] else s.recorder.queue
            notStored := s.recorder.notStored, steps := s.recorder.steps
            restarts := s.recorder.restarts, overwritten := s.recorder.overwritten
            tally := s.recorder.tally, closedThrough := s.store.closedThrough
            interval := s.store.interval.ptr, day := s.store.day.ptr, event := s.store.event.ptr
            stackUnits := s.finishChangeOver.stackUnits
            ops := [.plant, .operator, .inspection].map fun k => (s.port k).op.map fun o =>
              { command := o.cmd.name, counts := o.cmd.counts }
            tables := if s.config.transferPending then some (s.config.active, s.config.stage)
              else none : Snapshot } →
      ∃ u : State, exec i s = .next u ∧
        u.supply = { sup with power := .snapshotting, taking := some p, recoveredTo := none } ∧
        u.store = { s.store with mark := false } ∧ u.time = s.time ∧
        u.config = { s.config with changeOver := none } ∧ u.stackUnits = p.stackUnits ∧
        u.scan = { s.finishChangeOver.scan with synth := .stopped } ∧
        u.sec.processed = false ∧ u.norm = State.reset.norm ∧
        u.recorder = { s.recorder with queue := p.queue, running := List.replicate 32 none } ∧
        u.arbiter = { s.arbiter with grant := none, recClaims := [] } ∧
        u.links.marks = s.links.marks ∧ u.pending = s.pending ∧
        ∀ k, (u.port k).recv = .idle ∧ (u.port k).op = none ∧ (u.port k).readout = none ∧
          (u.port k).tx = [] ∧ (u.port k).leaving = [] ∧ (u.port k).last = (ended
            ((s.port k).op.map fun o => { command := o.cmd.name, counts := o.cmd.counts })
            (s.port k)) ∧
          (u.attention.get k).pending = 0 ∧ (u.attention.get k).seen = 0 ∧
          (u.attention.get k).mask = (s.attention.get k).mask)) ∧
  (∀ (s start w : State) (attempts : List Attempt) (i : Instr) (cause : SnapCause) (l : Link)
    (args : List Byte) (g : List Attempt × State) (snap : LinkPort → Option OpSnapshot)
    (kept : Link → Option OpSnapshot) (p : Snapshot),
    ((i = .pfailActive attempts ∧ cause = .pfail ∧
        start = { s with supply := { s.supply with pfail := true } }) ∨
      (i = .rstnActive attempts ∧ cause = .rstn ∧
        start = { s with supply := { s.supply with rstn := true } }) ∨
      (i = .restart l args attempts ∧ cause = .restart ∧ s.reaches .restart l args = true ∧
        start = s.withPort l ((s.port l).replying 0x00 none))) →
    s.running = true → s.supply.mode ≠ .suspended → g = start.finishGrant attempts →
    w = ((g.2.finishRewrite.finishTransfer g.1).finishWork).finishChangeOver → w.roomFor 1 →
    (snap = fun v => v.op.map fun o => { command := o.cmd.name, counts := o.cmd.counts }) →
    (kept = fun k => if (w.port k).op.isSome then snap (w.port k)
      else if g.2.store.fault || ((g.2.port k).op.isSome && w.store.fault) then none
      else snap (start.port k)) →
    p = { second := w.time.counter, cause := cause, mode := w.supply.mode
          withdrawal := w.recorder.withdrawal.map fun x =>
            { x with point := some (x.point.getD (w.time.counter + 1)), started := false }
          accSets := w.recorder.accSets, table := w.recorder.table
          queue := if cause = .pfail then w.recorder.queue ++
            [.event (.plain w.time.counter .powerLoss 0)] else w.recorder.queue
          notStored := w.recorder.notStored, steps := w.recorder.steps
          restarts := w.recorder.restarts, overwritten := w.recorder.overwritten
          tally := w.recorder.tally, closedThrough := w.store.closedThrough
          interval := w.store.interval.ptr, day := w.store.day.ptr, event := w.store.event.ptr
          stackUnits := w.stackUnits, ops := [.plant, .operator, .inspection].map kept
          tables := if w.config.transferPending then some (w.config.active, w.config.stage)
            else none : Snapshot } →
    ∃ u : State, exec i s = .next u ∧
      u.supply = { w.supply with power := .snapshotting, taking := some p, recoveredTo := none } ∧
      u.store = { w.store with mark := false } ∧ u.time = w.time ∧ u.config = w.config ∧
      u.stackUnits = w.stackUnits ∧ u.scan = { w.scan with synth := .stopped } ∧
      u.sec.processed = false ∧ u.norm = State.reset.norm ∧
      u.recorder = { w.recorder with queue := p.queue, running := List.replicate 32 none } ∧
      u.arbiter = { w.arbiter with grant := none, recClaims := [] } ∧
      u.links.marks = w.links.marks ∧ u.pending = w.pending ∧
      ∀ k, (u.port k).op = none ∧ (u.port k).last = (match kept k with
          | none => (w.port k).last
          | some o => some { command := some o.command, outcome := .restart, reason := none
                             index := none, counts := o.counts }) ∧
        (u.port k).recv = .idle ∧ (u.port k).readout = none ∧ (u.port k).tx = [] ∧
        (u.port k).leaving = [] ∧ (u.attention.get k).pending = 0 ∧
        (u.attention.get k).seen = 0) ∧
  (∀ (s x : State) (attempts : List Attempt),
    ((∀ g, s.arbiter.grant = some g → g.begun = false) →
      s.finishGrant attempts = (attempts, s.granted none)) ∧
    (∀ g a, s.running = true → s.arbiter.grant = some g → g.begun = true →
      a = attempts.headD .verified →
      exec (.writeAttemptComplete a) s = .next (s.attemptEnds g a).settle ∧
      s.finishGrant attempts = (s.attemptEnds g a).finishGrant attempts.tail) ∧
    ((∀ op old new, s.annotation = some op → op.phase ≠ .verified old new) →
      s.finishRewrite = s) ∧
    (∀ o op old new, (s.port .operator).op = some o → o.cmd = .applyAnnotation op →
      op.phase = .verified old new →
      s.finishRewrite = { (s.withPort .operator { (s.port .operator) with op := some {
          cmd := .applyAnnotation { op with
            counts := { op.counts with applied := op.counts.applied + 1 }
            todo := op.todo.tail, phase := .examine }, waiting := o.waiting } }) with
        recorder := { s.recorder with
          table := modEntry (dayOf new.start) new.channel (DayEntry.move old new)
            s.recorder.table } }) ∧
    (s.config.transferPending = false ∨ s.store.fault = true →
      s.finishTransfer attempts = s) ∧
    (s.config.transferPending = true → s.store.fault = false →
      x = s.programmed { s.nextArea with tables := s.config.active, stage := s.config.stage } →
      ((attempts.headD .verified = .verified ∨ attempts.tail.headD .verified = .verified) →
        s.finishTransfer attempts = { x.swapped with
          config := { s.config with transferPending := false } }) ∧
      ((attempts.headD .verified ≠ .verified ∧ attempts.tail.headD .verified ≠ .verified) →
        s.finishTransfer attempts = x.enterFault (BitVec.ofNat 32 (5 * 16777216)))) ∧
    (x = State.runWork (s.recorder.handed.foldl (fun t n => t.addHanded n) { s with
        norm := State.reset.norm
        recorder := { s.recorder with handed := [], running := List.replicate 32 none } }) →
      s.finishWork = { x with recorder := { x.recorder with work := [] } }) ∧
    ∀ n : NormSet, n.second % 1800 ≠ 1799 → s.addHanded n = { s with
      recorder := { s.recorder with accSets := s.recorder.accSets.map fun a =>
        if a.start = n.second - n.second % 1800 then { a with
          accs := a.accs.map fun y => match (n.channels[y.channel]?).bind NormChannel.value with
            | none => y
            | some v => y.add v (((n.marks[(a.cfg.channel y.channel).stack]?).map fun m =>
                m.mark.state).getD .off) } else a } }) ∧
  (∀ (s : State) (way : SnapshotEnd),
    (s.supply.power ≠ .snapshotting → exec (.snapshotWriteEnd way) s = .next s) ∧
    (∀ p t, s.supply.power = .snapshotting → s.supply.taking = some p →
      t = ({ s with supply := { s.supply with power := .halt, taking := none } } : State) →
      exec (.snapshotWriteEnd .complete) s = .next { t with
        store := { s.store with mark := true, snapshot := some p } } ∧
      exec (.snapshotWriteEnd .cutOff) s = .next { t with
        store := { s.store with mark := false } } ∧
      (s.roomFor 1 → ∃ w, exec (.snapshotWriteEnd .failedTwice) s = .next { t with
        store := { s.store with fault := true, mark := false }
        recorder := { s.recorder with queue := s.recorder.queue ++ [.event {
          time := s.time.counter, kind := .storeFault, stack := none, channel := none
          argument := w }] }
        attention := s.attention.raiseAll 0x0400
        freeDraws := s.freeDraws + 1 })) ∧
    (s.supply.power = .halt → exec .backupSupplyLoss s = .next { s with
      time := { s.time with setMark := false }
      supply := { s.supply with backupLost := true } }) ∧
    (s.supply.power ≠ .halt → exec .backupSupplyLoss s = .next s))

/-- HALT_END: the self-test decides the store's state and the backup domain the clock; the state is taken
from the snapshot where its mark is present, and from the store where it is not: the provisional days are then
rebuilt from the interval ring, read back to the closed-through date or its oldest record. That the converters count as OK
from here on is the model's choice (log entry 22), and so is that this much of a recovery is done at
the end of the halt and the rest at END_OF_RECOVERY (log entry 5). -/
def Obligations.RecoveryTakesUpItsState : Prop :=
  ∀ (s : State) (passes : Bool),
    (s.supply.power ≠ .halt → exec (.haltEnd passes) s = .next s) ∧
    (s.supply.power = .halt → ∃ u : State, exec (.haltEnd passes) s = .next u ∧
      u.supply.power = .starting ∧ u.supply.backupLost = false ∧ u.supply.pfail = false ∧
      u.supply.rstn = false ∧ u.supply.resumed = false ∧
      u.store.fault = (!passes) ∧ u.store.area = s.store.area ∧ u.store.mark = s.store.mark ∧
      u.store.tally = s.store.tally ∧ (∀ r n, u.store.cell r n = s.store.cell r n) ∧
      (∀ r, u.store.armed r = true) ∧
      (s.supply.backupLost = true → u.time.counter = 0 ∧ u.time.phase = 0 ∧
        u.time.clockValid = false ∧ u.time.setMark = false) ∧
      (s.supply.backupLost = false → u.time.counter = s.time.counter ∧
        u.time.phase = s.time.phase ∧ u.time.clockValid = s.time.setMark ∧
        u.time.setMark = s.time.setMark) ∧
      u.time.reference = .noReference ∧ u.time.missed = 0 ∧ u.time.badPulses = 0 ∧
      u.time.pendingSlew = 0 ∧
      u.scan = { State.reset.scan with synth := .stopped } ∧ u.sec.processed = false ∧
      u.sec.held = none ∧ u.norm = State.reset.norm ∧
      u.links.marks = .none ∧ u.arbiter = State.reset.arbiter ∧ u.recorder.handed = [] ∧
      u.recorder.work = [] ∧
      (∀ l, (u.port l).recv = .idle ∧ (u.port l).op = none ∧ (u.port l).readout = none ∧
        (u.port l).last.map OpResult.outcome = some .restart) ∧
      (∀ p, s.store.mark = true → s.store.snapshot = some p →
        u.supply.mode = p.mode ∧ u.recorder.accSets = p.accSets ∧ u.recorder.table = p.table ∧
        u.recorder.queue = p.queue ∧ u.recorder.notStored = p.notStored ∧
        u.recorder.steps = p.steps ∧ u.recorder.restarts = p.restarts ∧
        u.recorder.overwritten = p.overwritten ∧
        u.recorder.tally = p.tally ∧ u.store.closedThrough = p.closedThrough ∧
        u.recorder.withdrawal = p.withdrawal ∧
        u.stackUnits = p.stackUnits.map (fun v =>
          { v with fireTimer := 0, feedTimer := 0, abnTimer := 0 }) ∧
        (∀ r x y, (r = .interval ∧ x = p.interval ∧ y = s.store.area.interval ∨
            r = .day ∧ x = p.day ∧ y = s.store.area.day ∨
            r = .event ∧ x = p.event ∧ y = s.store.area.event) →
          u.store.pointers r = { oldest := max x.oldest y.oldest, newest := max x.newest y.newest
                                 collected := max x.collected y.collected }) ∧
        u.config.active = (match p.tables with | some x => x.1 | none => s.store.area.tables) ∧
        u.config.stage = (match p.tables with | some x => x.2 | none => s.store.area.stage)) ∧
      ((s.store.mark = false ∨ s.store.snapshot = none) →
        u.supply.mode = s.store.area.mode ∧ u.recorder.accSets = [] ∧ u.recorder.queue = [] ∧
        u.recorder.notStored = 0 ∧ u.recorder.steps = 0 ∧ u.recorder.restarts = 0 ∧
        u.recorder.overwritten = 0 ∧ u.recorder.withdrawal = none ∧
        (∀ k, k < 4 → ∃ v, u.stackUnits[k]? = some v ∧ v.wasInUse = false ∧ v.state = .off ∧
          v.runOut = none ∧ v.slot = none ∧ v.stale = false ∧ v.runCounter = 0 ∧
          v.runMark = false) ∧
        u.recorder.tally = s.store.tally ∧ u.store.closedThrough = s.store.area.protection ∧
        u.store.pointers .interval = s.store.area.interval ∧
        u.store.pointers .day = s.store.area.day ∧
        u.store.pointers .event = s.store.area.event ∧
        u.config.active = s.store.area.tables ∧ u.config.stage = s.store.area.stage ∧
        (s.store.area.mode = .commissioning → u.recorder.table = []) ∧
        (s.store.area.mode ≠ .commissioning → ∃ read : List (Nat × IntervalRec),
          read.Pairwise (fun a b => a.1 < b.1) ∧
          (∀ q r, (q, r) ∈ read ↔ s.store.area.interval.oldest ≤ q ∧
            q ≤ s.store.area.interval.newest ∧ s.store.interval.read .interval q = .record r ∧
            ∀ n x d, q ≤ n → n ≤ s.store.area.interval.newest →
              s.store.interval.read .interval n = .record x →
              s.store.area.protection = some d → d < x.start / 86400) ∧
          (read = [] → u.recorder.table = []) ∧
          ∀ (first last : Nat) (table filled : List ProvDay), read ≠ [] →
            (∃ x ∈ read, x.2.start / 86400 = last) → (∀ x ∈ read, x.2.start / 86400 ≤ last) →
            (∀ d, s.store.area.protection = some d → first = d + 1) →
            (s.store.area.protection = none → (∃ x ∈ read, x.2.start / 86400 = first) ∧
              ∀ x ∈ read, first ≤ x.2.start / 86400) →
            table = read.foldl (fun t x => modEntry (x.2.start / 86400) x.2.channel
              (fun e => { (DayEntry.contribute x.2 (.stored x.1) e) with
                annotated := e.annotated + x.2.annotated.toNat
                map := (DayEntry.contribute x.2 (.stored x.1) e).map.modify
                  (x.2.start % 86400 / 1800) fun m => { m with
                    exceededAtClose := decide (x.2.origClass = .operating) &&
                      decide (x.2.origValid = .valid) &&
                      (match (s.store.area.tables.channel x.2.channel).intervalLimit,
                          x.2.validated with
                        | some limit, some v => decide (limit < v)
                        | _, _ => false) } })
              (Machine.joinDay (x.2.start / 86400) t)) [] →
            filled = (List.range (last + 1 - first)).foldl
              (fun t k => Machine.joinDay (first + k) t) table →
            u.recorder.table = filled.map fun d => { d with
              entries := d.entries.map fun e => { e with
                annulled := e.map.countP fun m => decide (m.state ≠ .none) &&
                  m.exceededAtClose && !m.exceeded } })))

/-- END_OF_RECOVERY: a recovery that needs its clock waits in SUSPENDED; one that ends clears the mark,
writes the RESTART record, raises RESTARTED, and runs: in RECORDING the snapshot's interval goes on
INTERRUPTED, and after a lost snapshot the interval of the first second opens. One resumed from SUSPENDED leaves the links
and the masks as they stand. RecoveriesRunWhatTheyMissed has the other recoveries. How the work of a recovery is ordered is
the model's reading (log entry 5). -/
def Obligations.RecoveriesEnd : Prop :=
  ∀ (s : State) (cleared : Bool) (flags : FlagSet) (cause : Nat),
    flags = (0x0200 ||| (if s.store.fault then 0x0400 else 0) ||| s.attention.held) →
    (s.store.mark = true → ∃ p, s.store.snapshot = some p ∧
      cause = (match p.cause with | .pfail => 1 | .rstn => 2 | .restart => 3)) →
    (s.store.mark = false → cause = 0) →
    (s.supply.power ≠ .starting → exec (.endOfRecovery cleared) s = .next s) ∧
    (s.supply.power = .starting → s.supply.resumed = false → s.time.clockValid = false →
      (s.supply.mode = .enteringService ∨ s.supply.mode = .recording ∨
        s.supply.mode = .withdrawn) →
      ∃ u : State, exec (.endOfRecovery cleared) s = .next u ∧ u.supply.power = .running ∧
        u.supply.mode = .suspended ∧ u.supply.beneath = s.supply.mode ∧ u.time = s.time ∧
        u.recorder = s.recorder ∧ u.store = s.store ∧ u.config = s.config ∧
        u.stackUnits = s.stackUnits ∧ (∀ l, u.attention.get l =
          { pending := flags, seen := 0, mask := 0x3FFF }) ∧
        ∀ l, (u.port l).recv = .idle ∧ (u.port l).op = none ∧
          (u.port l).last = (s.port l).last) ∧
    (s.supply.power = .starting → cleared = true → s.recorder.work = [] → s.roomFor 2 →
      s.config.stage.state ≠ .approved →
      ∀ (sets : List AccSet) (before : List QueueItem),
        ((s.supply.mode = .commissioning ∧ sets = s.recorder.accSets ∧ before = []) ∨
          (∃ p a d, s.supply.mode = .recording ∧ s.time.clockValid = true ∧
            s.store.mark = true ∧ s.store.snapshot = some p ∧ s.recorder.accSets = [a] ∧
            a.start = intervalStart (s.time.counter + 1) ∧ s.recorder.table = [d] ∧
            d.day = dayOf p.second ∧ before = [] ∧ sets = [{ a with
              accs := a.accs.map fun x => { x with interrupted := true } }]) ∨
          (s.supply.mode = .recording ∧ s.time.clockValid = true ∧ s.store.mark = false ∧
            s.recorder.table = [] ∧ s.store.closedThrough = none ∧
            before = [.event (.plain (s.time.counter + 1) .snapshotLost 0xFFFFFFFF)] ∧
            sets = s.recorder.accSets ++ [{
              start := intervalStart (s.time.counter + 1), cfg := s.config.active
              accs := s.config.active.inUse.map (Accumulator.fresh false
                (decide ((s.time.counter + 1) % 1800 ≠ 0))) }])) →
        ∃ u : State, exec (.endOfRecovery cleared) s = .next u.settle ∧
          u.supply.power = .running ∧ u.supply.mode = s.supply.mode ∧
          u.store = { s.store with mark := false } ∧ u.time = s.time ∧ u.config = s.config ∧
          u.scan = State.reset.scan ∧ u.supply.resumed = false ∧
          u.sec = { s.sec with
            processed := false, cfg := s.config.active, before := .nothing } ∧
          u.recorder.accSets = sets ∧ u.recorder.table = s.recorder.table ∧
          u.recorder.tally = s.recorder.tally ∧
          u.recorder.queue = s.recorder.queue ++ before ++
            [.event (.plain (s.time.counter + 1) .restart cause)] ∧
          u.recorder.restarts = min (s.recorder.restarts + 1) 65535 ∧
          u.arbiter.rotation = .inspection ∧
          (.transfer ∈ u.arbiter.recClaims ↔
            s.store.fault = false ∧ s.config.transferPending = true) ∧
          (.protection ∈ u.arbiter.recClaims ↔
            s.store.fault = false ∧ s.store.area.protection ≠ s.store.closedThrough) ∧
          u.attention.held = 0 ∧
          (s.supply.resumed = false → ∀ l,
            u.attention.get l = { pending := flags, seen := 0, mask := 0x3FFF } ∧
            (u.port l).recv = .idle ∧ (u.port l).op = none ∧ (u.port l).readout = none ∧
            (u.port l).tx = [] ∧ (u.port l).last = (s.port l).last) ∧
          (s.supply.resumed = true → u.links = s.links ∧ ∀ l, u.attention.get l = {
            pending := (s.attention.get l).pending ||| flags
            seen := (s.attention.get l).seen &&& ~~~flags
            mask := (s.attention.get l).mask }))

/-- END_OF_RECOVERY, the recoveries that RecoveriesEnd leaves. In RECORDING with a snapshot of an earlier interval
every held set closes INTERRUPTED, the missed day boundaries are run, so that no day older than the window is left and
the day of the first second is there, and the interval of the first second opens. In ENTERING_SERVICE recording begins
there if an interval boundary has passed, and the mode stays otherwise. In WITHDRAWN what is left of the withdrawal is
done, the held sets closing TRUNCATED and INTERRUPTED. A lost snapshot is recorded, and the stacks' year counters come from
the tally. A mark that cannot be cleared puts the store in FAULT, its record before RESTART's. The order and split of this
work are the model's reading (log entry 5), and so are the two flags together (log entry 11); the argument of the failed clear
is free (log entry 9). -/
def Obligations.RecoveriesRunWhatTheyMissed : Prop :=
  ∀ (s : State) (f day cause : Nat) (restart lost : QueueItem), s.supply.power = .starting →
    s.recorder.work = [] → s.annotation = none → s.config.stage.state ≠ .approved →
    f = s.time.counter + 1 → day = f / 86400 →
    (s.store.mark = true → ∃ p, s.store.snapshot = some p ∧
      cause = (match p.cause with | .pfail => 1 | .rstn => 2 | .restart => 3)) →
    (s.store.mark = false → cause = 0) →
    restart = .event (.plain f .restart cause) →
    lost = .event (.plain f .snapshotLost (match s.store.closedThrough with
      | none => 0xFFFFFFFF
      | some d => d)) →
    (∀ p, s.supply.mode = .recording → s.time.clockValid = true → s.store.mark = true →
      s.store.snapshot = some p → p.second < f → 86400 ≤ p.second →
      s.recorder.accSets ≠ [] → (∀ a ∈ s.recorder.accSets, a.start ≠ f - f % 1800 ∧
        a.start ≤ p.second ∧ p.second / 86400 ≤ a.start / 86400 + 1) →
      s.recorder.table.Pairwise (fun a b => a.day < b.day) →
      (∀ d ∈ s.recorder.table, d.day ≤ p.second / 86400) →
      1 ≤ s.config.active.device.window →
      ∃ u : State, exec (.endOfRecovery true) s = .next u.settle ∧ u.time = s.time ∧
        u.supply.power = .running ∧ u.supply.mode = .recording ∧ u.supply.recoveredTo = some f ∧
        u.config = s.config ∧ u.store.mark = false ∧
        u.recorder.accSets = [{
          start := f - f % 1800, cfg := s.config.active
          accs := s.config.active.inUse.map fun c =>
            Accumulator.fresh false (decide (f % 1800 ≠ 0)) c }] ∧
        (∀ d ∈ u.recorder.table, day ≤ d.day + s.config.active.device.window) ∧
        (∃ d ∈ u.recorder.table, d.day = day) ∧
        ((∀ n, p.second / 86400 < n → n ≤ day → isFirstOfYear n = false) →
          u.stackUnits = s.stackUnits) ∧
        ((∃ n, p.second / 86400 < n ∧ n ≤ day ∧ isFirstOfYear n = true) →
          ∀ v ∈ u.stackUnits, v.yearCounter = 0 ∧ v.yearMark = false) ∧
        (∀ l, (u.attention.get l).pending &&& 0x0202 = 0x0202) ∧
        ∀ a d, s.recorder.accSets = [a] → s.recorder.table = [d] → d.day = a.start / 86400 →
          d.day = p.second / 86400 → d.day = day → s.roomFor (a.accs.length + 1) →
          u.recorder.queue = s.recorder.queue ++
            a.accs.map (fun x => .interval (a.record { x with interrupted := true })) ++
            [restart] ∧
          u.recorder.table = [{ d with entries := (a.accs.map fun x =>
            a.record { x with interrupted := true }).foldl (fun es r =>
              putEntry r.channel (DayEntry.contribute r .queued) es) d.entries }]) ∧
    (∀ p, s.supply.mode = .enteringService → s.time.clockValid = true → s.store.mark = true →
      s.store.snapshot = some p → s.roomFor 1 →
      ∃ u : State, exec (.endOfRecovery true) s = .next u.settle ∧ u.time = s.time ∧
        u.supply.power = .running ∧ u.config = s.config ∧
        u.recorder.queue = s.recorder.queue ++ [restart] ∧
        ((p.second / 1800 + 1) * 1800 ≤ f → u.supply.mode = .recording ∧
          u.supply.recoveredTo = some f ∧
          u.recorder.table = joinDay day s.recorder.table ∧
          u.recorder.accSets = s.recorder.accSets ++ [{
            start := f - f % 1800, cfg := s.config.active
            accs := s.config.active.inUse.map fun c =>
              Accumulator.fresh false (decide (f % 1800 ≠ 0)) c }]) ∧
        (f < (p.second / 1800 + 1) * 1800 → u.supply.mode = .enteringService ∧
          u.recorder.table = s.recorder.table ∧ u.recorder.accSets = s.recorder.accSets)) ∧
    (s.supply.mode = .enteringService → s.time.clockValid = true → s.store.mark = false →
      s.roomFor 2 →
      ∃ u : State, exec (.endOfRecovery true) s = .next u.settle ∧
        u.supply.power = .running ∧ u.supply.mode = .enteringService ∧
        u.recorder.queue = s.recorder.queue ++ [lost, restart] ∧
        u.recorder.table = s.recorder.table ∧ u.recorder.accSets = s.recorder.accSets ∧
        ∀ (k year secs : Nat) (v : StackUnit), s.stackUnits[k]? = some v →
          year = yearOfDay (s.time.counter / 86400) →
          secs = ((s.store.tally.find? fun t => decide (t.state ≠ .unused) &&
            decide (t.year = some year)).map fun t => t.stackAbn.getD k 0).getD 0 →
          u.stackUnits[k]? = some { v with
            yearCounter := secs, counterYear := year
            yearMark := decide ((s.config.active.stack k).yearLimit ≤ secs) }) ∧
    (∀ p, s.supply.mode = .withdrawn → s.time.clockValid = true → s.store.mark = true →
      s.store.snapshot = some p →
      (s.recorder.withdrawal = none → s.roomFor 1 →
        ∃ u : State, exec (.endOfRecovery true) s = .next u.settle ∧
          u.supply.power = .running ∧ u.supply.mode = .withdrawn ∧
          u.recorder.queue = s.recorder.queue ++ [restart] ∧
          u.recorder.tally = s.recorder.tally) ∧
      (∀ w, s.recorder.withdrawal = some w →
        (s.recorder.accSets.map AccSet.start).Nodup →
        s.recorder.table.Pairwise (fun a b => a.day < b.day) →
        ∃ u : State, exec (.endOfRecovery true) s = .next u.settle ∧
          u.supply.power = .running ∧ u.supply.mode = .withdrawn ∧ u.recorder.accSets = [] ∧
          u.recorder.table = [] ∧ u.recorder.withdrawal = none ∧
          (∀ x ∈ u.recorder.tally, x.state ≠ .opened) ∧
          (s.roomFor (s.recorder.accSets.flatMap AccSet.accs).length →
            ∃ more, u.recorder.queue = s.recorder.queue ++
              (s.recorder.accSets.flatMap fun a => a.accs.map fun x =>
                .interval (a.record { x with truncated := true, interrupted := true })) ++ more) ∧
          (∀ point, w.point = some point → s.recorder.accSets = [] → s.recorder.table = [] →
            s.recorder.tally.length = 2 → s.roomFor 4 →
            ∃ more, u.recorder.queue = s.recorder.queue ++
              .event (.plain point .withdrawn w.closed) :: more ++ [restart] ∧
              ∀ q ∈ more, ∃ i x, q = .checkpoint i x ∧ x.state = .final))) ∧
    (∀ table, s.supply.mode = .withdrawn → s.time.clockValid = true → s.store.mark = false →
      s.recorder.withdrawal = none → s.recorder.accSets = [] → table = s.recorder.table →
      table.Pairwise (fun a b => a.day < b.day) →
      ∃ u : State, exec (.endOfRecovery true) s = .next u.settle ∧
        u.supply.power = .running ∧ u.supply.mode = .withdrawn ∧ u.recorder.table = [] ∧
        (∀ x ∈ u.recorder.tally, x.state ≠ .opened) ∧
        (s.recorder.tally.length = 2 → s.roomFor 7 →
          (∀ d ∈ table, d.closing s.config.active = []) →
          ∃ before more, u.recorder.queue = s.recorder.queue ++ [lost] ++ before ++
            (if table = [] then [] else [.event (.plain f .withdrawn table.length)]) ++ more ++
            [restart] ∧
            (∀ q ∈ before ++ more, ∃ i x, q = .checkpoint i x ∧ x.state = .final))) ∧
    (s.supply.mode = .commissioning → s.store.fault = false → s.roomFor 2 →
      (∀ op, s.opCmd .inspection ≠ some (.applyAnnotation op)) →
      ∃ (u : State) (w : Word), exec (.endOfRecovery false) s = .next u.settle ∧
        u.supply.power = .running ∧ u.store = { s.store with fault := true } ∧
        u.freeDraws = s.freeDraws + 1 ∧ u.arbiter.recClaims = [] ∧
        u.recorder.queue = s.recorder.queue ++ [.event {
          time := s.time.counter, kind := .storeFault, stack := none, channel := none
          argument := w }, restart] ∧
        ∀ l, (u.attention.get l).pending &&& 0x0600 = 0x0600)
end

