-- ==== Sys2Proof/Laws/Cells.lean ====
section
/-! SUPPORT. The positions of a ring: storing and emptying keep their canonical form, and a position reads as
it was last stored. -/

namespace Sys2Proof.Machine

/-- The canonical form of a list of positions, one position at a time. -/
theorem cellsWf_cons {β : Type} (p : Nat) (v : β) (l : List (Nat × β)) :
    cellsWf ((p, v) :: l) = true ↔ (∀ x ∈ l.head?, p < x.1) ∧ cellsWf l = true := by
  cases l with
  | nil => simp [cellsWf]
  | cons y l => obtain ⟨q, w⟩ := y; simp [cellsWf]

theorem putCell_head {β : Type} (p : Nat) (v : β) (l : List (Nat × β)) : 
   ∀ x ∈ (putCell p v l).head?, x.1 = p ∨ ∃ y ∈ l.head?, x.1 = y.1 := by
  cases l with
  | nil => simp [putCell]
  | cons y l => 
    obtain ⟨q, w⟩ := y
    unfold putCell
    split <;> [skip; split] <;> simp

/-- Storing at a position keeps the canonical form. -/
theorem putCell_wf {β : Type} (p : Nat) (v : β) (l : List (Nat × β)) (h : cellsWf l = true) :
    cellsWf (putCell p v l) = true := by
  induction l with
  | nil => rfl
  | cons y l ih =>
    obtain ⟨q, w⟩ := y
    unfold putCell
    split
    · rw [cellsWf_cons]; exact ⟨by simpa, h⟩
    · rw [cellsWf_cons] at h
      split
      · rename_i h2; subst h2; rw [cellsWf_cons]; exact h
      · rw [cellsWf_cons]
        refine ⟨?_, ih h.2⟩
        intro x hx
        rcases putCell_head p v l x hx with h3 | ⟨y, hy, h3⟩
        · omega
        · have := h.1 y hy; omega

/-- In the canonical form the first position is the lowest. -/
theorem cellsWf_lt {β : Type} (p : Nat) (v : β) (l : List (Nat × β)) (h : cellsWf ((p,v)::l) = true) : ∀ x ∈ l, p < x.1 := by
  induction l generalizing p v with
  | nil => simp
  | cons y l ih =>
    rw [cellsWf_cons] at h
    have := h.1 y (by simp)
    intro x hx
    rcases List.mem_cons.1 hx with rfl | hx
    · exact this
    · exact lt_trans this (ih y.1 y.2 h.2 x hx)

theorem dropCell_sub {β : Type} (p : Nat) (l : List (Nat × β)) : ∀ x ∈ dropCell p l, x ∈ l := by
  induction l with
  | nil => simp [dropCell]
  | cons y l ih => 
    unfold dropCell
    split
    · intro x hx; exact List.mem_cons_of_mem _ hx
    · intro x hx
      rcases List.mem_cons.1 hx with rfl | hx
      · simp
      · exact List.mem_cons_of_mem _ (ih x hx)

/-- Emptying a position keeps the canonical form. -/
theorem dropCell_wf {β : Type} (p : Nat) (l : List (Nat × β)) (h : cellsWf l = true) :
    cellsWf (dropCell p l) = true := by
  induction l with
  | nil => rfl
  | cons y l ih =>
    obtain ⟨q, w⟩ := y
    have h' := h
    unfold dropCell
    rw [cellsWf_cons] at h
    split
    · exact h.2
    · rw [cellsWf_cons]
      refine ⟨fun x hx => cellsWf_lt q w l h' x (dropCell_sub p l x (List.mem_of_mem_head? hx)), ih h.2⟩

/-- A position reads as it was stored. -/
theorem getCell_putCell_same {β : Type} (p : Nat) (v : β) (l : List (Nat × β)) :
    getCell (putCell p v l) p = some v := by
  induction l with
  | nil => simp [putCell, getCell]
  | cons y l ih =>
    obtain ⟨q, w⟩ := y
    unfold putCell
    split
    · simp [getCell]
    · split
      · simp [getCell]
      · rename_i h
        simp [getCell, Ne.symm h, ih]

/-- Storing at a position leaves every other. -/
theorem getCell_putCell_other {β : Type} {p q : Nat} (h : q ≠ p) (v : β) (l : List (Nat × β)) :
    getCell (putCell p v l) q = getCell l q := by
  induction l with
  | nil => simp [putCell, getCell, Ne.symm h]
  | cons y l ih =>
    obtain ⟨r, w⟩ := y
    unfold putCell
    split
    · simp [getCell, Ne.symm h]
    · split
      · rename_i k
        subst k
        simp [getCell, Ne.symm h]
      · simp only [getCell, ih]

/-- A position below all of a list is empty. -/
theorem getCell_below {β : Type} (p : Nat) (l : List (Nat × β)) (h : ∀ x ∈ l, p < x.1) :
    getCell l p = none := by
  induction l with
  | nil => rfl
  | cons y l ih =>
    have k := h y (by simp)
    rw [getCell, if_neg (by omega)]
    exact ih fun x hx => h x (List.mem_cons_of_mem _ hx)

/-- An emptied position of a list in canonical form is empty. -/
theorem getCell_dropCell_same {β : Type} (p : Nat) (l : List (Nat × β)) (h : cellsWf l = true) :
    getCell (dropCell p l) p = none := by
  induction l with
  | nil => rfl
  | cons y l ih =>
    obtain ⟨q, w⟩ := y
    unfold dropCell
    split
    · rename_i k
      subst k
      exact getCell_below _ l (cellsWf_lt _ w l h)
    · rename_i k
      rw [getCell, if_neg k]
      exact ih ((cellsWf_cons _ _ _).1 h).2

/-- Emptying a position leaves every other. -/
theorem getCell_dropCell_other {β : Type} {p q : Nat} (h : q ≠ p) (l : List (Nat × β)) :
    getCell (dropCell p l) q = getCell l q := by
  induction l with
  | nil => rfl
  | cons y l ih =>
    obtain ⟨r, w⟩ := y
    unfold dropCell
    split
    · rename_i k
      subst k
      rw [getCell, if_neg (Ne.symm h)]
    · simp only [getCell, ih]

/-- The rings leave the factory in canonical form. -/
theorem reset_cellsWf : cellsWf State.reset.store.interval.cells = true ∧
    cellsWf State.reset.store.day.cells = true ∧ cellsWf State.reset.store.event.cells = true ∧
    cellsWf State.reset.store.intervalSpare = true := by
  decide

end Sys2Proof.Machine
end

