-- ==== Sys2Proof/Laws/Moves.lean ====
section
/-! SUPPORT. Said once: everything a command can do to the write queue, the ring positions, the attention unit,
the held snapshots, the modes and the power phase (`Inner` for what happens within a phase, `Outer` for a whole
command, `Quiet` for one that never turns the clock back), and that every invariant of Safety.lean survives it. The lemmas of Laws/Reach*.lean say it of each operation. -/

namespace Sys2Proof.Machine

/-- The part of the state that the invariants speak of. -/
structure View where
  counter  : Nat
  queue    : List QueueItem
  interval : List (Nat × (Nat × IntervalRec))
  day      : List (Nat × (Nat × DayRec))
  event    : List (Nat × (Nat × EventRec))
  images   : List (Nat × (Nat × IntervalRec))
  att      : AttentionUnit
  snap     : Option Snapshot
  taking   : Option Snapshot
  power    : Power
  mode     : Mode
  beneath  : Mode
  area     : Mode
  spare    : Mode
  pending  : List Instr

/-- What the invariants see of a state. -/
def State.view (s : State) : View :=
  { counter := s.time.counter, queue := s.recorder.queue, interval := s.store.interval.cells, day := s.store.day.cells,
    event := s.store.event.cells, images := s.store.intervalSpare, att := s.attention,
    snap := s.store.snapshot,
    taking := s.supply.taking, power := s.supply.power, mode := s.supply.mode,
    beneath := s.supply.beneath, area := s.store.area.mode, spare := s.store.areaSpare.mode,
    pending := s.pending }

/-- Flags of R181 only. -/
abbrev Known (f : FlagSet) : Prop := f &&& ~~~allFlags = 0

/-- One thing that a step can do to a view within a power phase, the clock standing. -/
inductive InnerMove : View → View → Prop
  | offer (v : View) (x : QueueItem) (h : v.queue.length < 96) :
      InnerMove v { v with queue := v.queue ++ [x] }
  | dequeue (v : View) : InnerMove v { v with queue := v.queue.tail }
  | emptyQueue (v : View) : InnerMove v { v with queue := [] }
  | putInterval (v : View) (p : Nat) (x : Nat × IntervalRec) :
      InnerMove v { v with interval := putCell p x v.interval }
  | putImage (v : View) (p : Nat) (x : Nat × IntervalRec) :
      InnerMove v { v with images := putCell p x v.images }
  | putDay (v : View) (p : Nat) (x : Nat × DayRec) : InnerMove v { v with day := putCell p x v.day }
  | putEvent (v : View) (p : Nat) (x : Nat × EventRec) :
      InnerMove v { v with event := putCell p x v.event }
  | dropInterval (v : View) (p : Nat) : InnerMove v { v with interval := dropCell p v.interval }
  | dropDay (v : View) (p : Nat) : InnerMove v { v with day := dropCell p v.day }
  | dropEvent (v : View) (p : Nat) : InnerMove v { v with event := dropCell p v.event }
  | emptyRings (v : View) : InnerMove v { v with interval := [], day := [], event := [], images := [] }
  | forget (v : View) : InnerMove v { v with snap := none }
  | raiseAll (v : View) (f : FlagSet) (h : Known v.att.held → Known f) :
      InnerMove v { v with att := v.att.raiseAll f }
  | raiseOn (v : View) (l : Link) (f : FlagSet) (h : Known f) :
      InnerMove v { v with att := v.att.set l ((v.att.get l).raise f) }
  | hold (v : View) (f : FlagSet) (h : Known f) :
      InnerMove v { v with att := { v.att with held := v.att.held ||| f } }
  | release (v : View) : InnerMove v { v with att := { v.att with held := 0 } }
  | see (v : View) (l : Link) :
      InnerMove v { v with att := v.att.set l (v.att.get l).markSeen }
  | acknowledge (v : View) (l : Link) (f : FlagSet) :
      InnerMove v { v with att := v.att.set l ((v.att.get l).acknowledge f) }
  | mask (v : View) (l : Link) (f : FlagSet) (h : Known f) :
      InnerMove v { v with att := v.att.set l { (v.att.get l) with mask := f } }
  | calm (v : View) :
      InnerMove v { v with att := { v.att with
        plant := v.att.plant.emptied, operator := v.att.operator.emptied,
        inspection := v.att.inspection.emptied } }
  | begins (v : View) (f : FlagSet) (h : Known v.att.held → Known f) :
      InnerMove v { v with att :=
        { plant := { pending := f, seen := 0, mask := allFlags }
          operator := { pending := f, seen := 0, mask := allFlags }
          inspection := { pending := f, seen := 0, mask := allFlags }
          held := 0 } }
  | mode (v : View) (m : Mode) (h : m ≠ .suspended) : InnerMove v { v with mode := m }
  | program (v : View) (m : Mode) (h : m = v.area ∨ m ≠ .suspended) :
      InnerMove v { v with spare := m }
  | swap (v : View) : InnerMove v { v with area := v.spare, spare := v.area }

/-- What a step does to a view within a power phase. -/
def Inner (s t : State) : Prop := Relation.ReflTransGen InnerMove s.view t.view

theorem Inner.same {s t : State} (h : t.view = s.view) : Inner s t := by
  unfold Inner
  rw [h]

theorem Inner.refl (s : State) : Inner s s := .same rfl

theorem Inner.one {s t : State} (h : InnerMove s.view t.view) : Inner s t :=
  Relation.ReflTransGen.single h

theorem Inner.trans {s t u : State} (h : Inner s t) (k : Inner t u) : Inner s u :=
  Relation.ReflTransGen.trans h k

/-- A state that looks as the end of an inner step does is reached by it too. -/
theorem Inner.thenSame {s t u : State} (h : Inner s t) (k : u.view = t.view) : Inner s u :=
  h.trans (.same k)

/-- An inner step of a state that looks the same. -/
theorem Inner.via {s t u : State} (h : Inner t u) (k : t.view = s.view) : Inner s u :=
  (Inner.same k).trans h

/-- A list of inner steps, one after another. -/
theorem Inner.foldl {α : Type} {f : State → α → State} (h : ∀ s a, Inner s (f s a)) (l : List α) :
    ∀ s, Inner s (l.foldl f s) := by
  induction l with
  | nil => exact .refl
  | cons a l ih => exact fun s => (h s a).trans (ih _)

/-- Within a power phase the clock stands and the phase stays. -/
theorem Inner.clock_and_power {s t : State} (h : Inner s t) :
    t.time.counter = s.time.counter ∧ t.supply.power = s.supply.power := by
  have key : ∀ {v w : View}, Relation.ReflTransGen InnerMove v w →
      w.counter = v.counter ∧ w.power = v.power := by
    intro v w k
    induction k with
    | refl => exact ⟨rfl, rfl⟩
    | tail _ m ih => cases m <;> exact ih
  exact key h

/-- One thing that a command can do to a view without turning the clock back. -/
inductive QuietMove : View → View → Prop
  | inner {v w : View} (h : InnerMove v w) : QuietMove v w
  | advance (v : View) (n : Nat) (h : v.counter ≤ n) : QuietMove v { v with counter := n }
  | halt (v : View) : QuietMove v { v with power := .halt, taking := none }
  | suspend (v : View) (h : v.power = .starting) :
      QuietMove v { v with power := .running, mode := .suspended, beneath := v.mode }
  | leave (v : View) : QuietMove v { v with power := .running }
  | take (v : View) (p : Snapshot) (hm : p.mode = v.mode) (hs : v.mode ≠ .suspended)
      (hq : p.queue = v.queue) : QuietMove v { v with power := .snapshotting, taking := some p }
  | keep (v : View) : QuietMove v { v with snap := v.taking }
  | restore (v : View) (p : Snapshot) (h : v.snap = some p) :
      QuietMove v { v with queue := p.queue }

/-- One thing that a command can do to a view. -/
inductive Move : View → View → Prop
  | quiet {v w : View} (h : QuietMove v w) : Move v w
  | clock (v : View) (n : Nat) : Move v { v with counter := n }
  | start (v : View) (m : Mode) (h : m = v.area ∨ ∃ p, v.snap = some p ∧ m = p.mode) :
      Move v { v with power := .starting, mode := m, beneath := m, taking := none }
  | resume (v : View) : Move v { v with power := .starting, mode := v.beneath }

/-- What a command does to a view without turning the clock back. -/
def Quiet (s t : State) : Prop := Relation.ReflTransGen QuietMove s.view t.view

/-- What a command does to a view. -/
def Outer (s t : State) : Prop := Relation.ReflTransGen Move s.view t.view

theorem Inner.quiet {s t : State} (h : Inner s t) : Quiet s t := by
  have key : ∀ v w, Relation.ReflTransGen InnerMove v w → Relation.ReflTransGen QuietMove v w := by
    intro v w h
    induction h with
    | refl => exact .refl
    | tail _ m ih => exact ih.tail (.inner m)
  exact key _ _ h

theorem Quiet.outer {s t : State} (h : Quiet s t) : Outer s t := by
  have key : ∀ v w, Relation.ReflTransGen QuietMove v w → Relation.ReflTransGen Move v w := by
    intro v w h
    induction h with
    | refl => exact .refl
    | tail _ m ih => exact ih.tail (.quiet m)
  exact key _ _ h

theorem Quiet.same {s t : State} (h : t.view = s.view) : Quiet s t := (Inner.same h).quiet

theorem Quiet.refl (s : State) : Quiet s s := .same rfl

theorem Quiet.one {s t : State} (h : QuietMove s.view t.view) : Quiet s t :=
  Relation.ReflTransGen.single h

theorem Quiet.trans {s t u : State} (h : Quiet s t) (k : Quiet t u) : Quiet s u :=
  Relation.ReflTransGen.trans h k

/-- A step of a state that looks the same. -/
theorem Quiet.via {s t u : State} (h : Quiet t u) (k : t.view = s.view) : Quiet s u :=
  (Quiet.same k).trans h

theorem Inner.outer {s t : State} (h : Inner s t) : Outer s t := h.quiet.outer

theorem Outer.one {s t : State} (h : Move s.view t.view) : Outer s t :=
  Relation.ReflTransGen.single h

theorem Outer.trans {s t u : State} (h : Outer s t) (k : Outer t u) : Outer s u :=
  Relation.ReflTransGen.trans h k

/-! ### What inner moves keep -/

theorem Inner.pending {s t : State} (h : Inner s t) : t.pending = s.pending := by
  have key : ∀ v w, Relation.ReflTransGen InnerMove v w → w.pending = v.pending := by
    intro v w h
    induction h with
    | refl => rfl
    | tail _ m ih => cases m <;> exact ih
  exact key _ _ h

theorem Inner.power {s t : State} (h : Inner s t) : t.supply.power = s.supply.power := by
  have key : ∀ v w, Relation.ReflTransGen InnerMove v w → w.power = v.power := by
    intro v w h
    induction h with
    | refl => rfl
    | tail _ m ih => cases m <;> exact ih
  exact key _ _ h

theorem Inner.counter {s t : State} (h : Inner s t) : t.time.counter = s.time.counter := by
  have key : ∀ v w, Relation.ReflTransGen InnerMove v w → w.counter = v.counter := by
    intro v w h
    induction h with
    | refl => rfl
    | tail _ m ih => cases m <;> exact ih
  exact key _ _ h

theorem Inner.mode {s t : State} (h : Inner s t) (hs : s.supply.mode ≠ .suspended) :
    t.supply.mode ≠ .suspended := by
  have key : ∀ v w, Relation.ReflTransGen InnerMove v w → v.mode ≠ .suspended →
      w.mode ≠ .suspended := by
    intro v w h hv
    induction h with
    | refl => exact hv
    | tail _ m ih => cases m <;> assumption
  exact key _ _ h hs

end Sys2Proof.Machine
end

