-- ==== Sys2Proof/Laws/State.lean ====
section
/-! SUPPORT. What each named update leaves: one lemma for each field it leaves, so that no proof unfolds a record
update; and what it sets, where that is short. -/

namespace Sys2Proof.Machine

variable (s : State)


/-! ### State.modPort -/

@[simp] theorem State.modPort_time (l : Link) (f : LinkPort → LinkPort) :
    (s.modPort l f).time = s.time := rfl
@[simp] theorem State.modPort_scan (l : Link) (f : LinkPort → LinkPort) :
    (s.modPort l f).scan = s.scan := rfl
@[simp] theorem State.modPort_sec (l : Link) (f : LinkPort → LinkPort) :
    (s.modPort l f).sec = s.sec := rfl
@[simp] theorem State.modPort_stackUnits (l : Link) (f : LinkPort → LinkPort) :
    (s.modPort l f).stackUnits = s.stackUnits := rfl
@[simp] theorem State.modPort_pins (l : Link) (f : LinkPort → LinkPort) :
    (s.modPort l f).pins = s.pins := rfl
@[simp] theorem State.modPort_norm (l : Link) (f : LinkPort → LinkPort) :
    (s.modPort l f).norm = s.norm := rfl
@[simp] theorem State.modPort_recorder (l : Link) (f : LinkPort → LinkPort) :
    (s.modPort l f).recorder = s.recorder := rfl
@[simp] theorem State.modPort_config (l : Link) (f : LinkPort → LinkPort) :
    (s.modPort l f).config = s.config := rfl
@[simp] theorem State.modPort_store (l : Link) (f : LinkPort → LinkPort) :
    (s.modPort l f).store = s.store := rfl
@[simp] theorem State.modPort_arbiter (l : Link) (f : LinkPort → LinkPort) :
    (s.modPort l f).arbiter = s.arbiter := rfl
@[simp] theorem State.modPort_attention (l : Link) (f : LinkPort → LinkPort) :
    (s.modPort l f).attention = s.attention := rfl
@[simp] theorem State.modPort_supply (l : Link) (f : LinkPort → LinkPort) :
    (s.modPort l f).supply = s.supply := rfl
@[simp] theorem State.modPort_freeDraws (l : Link) (f : LinkPort → LinkPort) :
    (s.modPort l f).freeDraws = s.freeDraws := rfl
@[simp] theorem State.modPort_pending (l : Link) (f : LinkPort → LinkPort) :
    (s.modPort l f).pending = s.pending := rfl

/-! ### State.raiseOn -/

@[simp] theorem State.raiseOn_time (l : Link) (f : FlagSet) : (s.raiseOn l f).time = s.time := rfl
@[simp] theorem State.raiseOn_scan (l : Link) (f : FlagSet) : (s.raiseOn l f).scan = s.scan := rfl
@[simp] theorem State.raiseOn_sec (l : Link) (f : FlagSet) : (s.raiseOn l f).sec = s.sec := rfl
@[simp] theorem State.raiseOn_stackUnits (l : Link) (f : FlagSet) :
    (s.raiseOn l f).stackUnits = s.stackUnits := rfl
@[simp] theorem State.raiseOn_pins (l : Link) (f : FlagSet) : (s.raiseOn l f).pins = s.pins := rfl
@[simp] theorem State.raiseOn_norm (l : Link) (f : FlagSet) : (s.raiseOn l f).norm = s.norm := rfl
@[simp] theorem State.raiseOn_recorder (l : Link) (f : FlagSet) :
    (s.raiseOn l f).recorder = s.recorder := rfl
@[simp] theorem State.raiseOn_config (l : Link) (f : FlagSet) : (s.raiseOn l f).config = s.config := rfl
@[simp] theorem State.raiseOn_store (l : Link) (f : FlagSet) : (s.raiseOn l f).store = s.store := rfl
@[simp] theorem State.raiseOn_arbiter (l : Link) (f : FlagSet) :
    (s.raiseOn l f).arbiter = s.arbiter := rfl
@[simp] theorem State.raiseOn_links (l : Link) (f : FlagSet) : (s.raiseOn l f).links = s.links := rfl
@[simp] theorem State.raiseOn_supply (l : Link) (f : FlagSet) : (s.raiseOn l f).supply = s.supply := rfl
@[simp] theorem State.raiseOn_freeDraws (l : Link) (f : FlagSet) :
    (s.raiseOn l f).freeDraws = s.freeDraws := rfl
@[simp] theorem State.raiseOn_pending (l : Link) (f : FlagSet) :
    (s.raiseOn l f).pending = s.pending := rfl

/-! ### State.reply -/

@[simp] theorem State.reply_time (l : Link) (b : Byte) (d : Option (List Byte)) :
    (s.reply l b d).time = s.time := rfl
@[simp] theorem State.reply_scan (l : Link) (b : Byte) (d : Option (List Byte)) :
    (s.reply l b d).scan = s.scan := rfl
@[simp] theorem State.reply_sec (l : Link) (b : Byte) (d : Option (List Byte)) :
    (s.reply l b d).sec = s.sec := rfl
@[simp] theorem State.reply_stackUnits (l : Link) (b : Byte) (d : Option (List Byte)) :
    (s.reply l b d).stackUnits = s.stackUnits := rfl
@[simp] theorem State.reply_pins (l : Link) (b : Byte) (d : Option (List Byte)) :
    (s.reply l b d).pins = s.pins := rfl
@[simp] theorem State.reply_norm (l : Link) (b : Byte) (d : Option (List Byte)) :
    (s.reply l b d).norm = s.norm := rfl
@[simp] theorem State.reply_recorder (l : Link) (b : Byte) (d : Option (List Byte)) :
    (s.reply l b d).recorder = s.recorder := rfl
@[simp] theorem State.reply_config (l : Link) (b : Byte) (d : Option (List Byte)) :
    (s.reply l b d).config = s.config := rfl
@[simp] theorem State.reply_store (l : Link) (b : Byte) (d : Option (List Byte)) :
    (s.reply l b d).store = s.store := rfl
@[simp] theorem State.reply_arbiter (l : Link) (b : Byte) (d : Option (List Byte)) :
    (s.reply l b d).arbiter = s.arbiter := rfl
@[simp] theorem State.reply_attention (l : Link) (b : Byte) (d : Option (List Byte)) :
    (s.reply l b d).attention = s.attention := rfl
@[simp] theorem State.reply_supply (l : Link) (b : Byte) (d : Option (List Byte)) :
    (s.reply l b d).supply = s.supply := rfl
@[simp] theorem State.reply_freeDraws (l : Link) (b : Byte) (d : Option (List Byte)) :
    (s.reply l b d).freeDraws = s.freeDraws := rfl
@[simp] theorem State.reply_pending (l : Link) (b : Byte) (d : Option (List Byte)) :
    (s.reply l b d).pending = s.pending := rfl

/-! ### State.refuse -/

@[simp] theorem State.refuse_time (l : Link) (b : Byte) : (s.refuse l b).time = s.time := rfl
@[simp] theorem State.refuse_scan (l : Link) (b : Byte) : (s.refuse l b).scan = s.scan := rfl
@[simp] theorem State.refuse_sec (l : Link) (b : Byte) : (s.refuse l b).sec = s.sec := rfl
@[simp] theorem State.refuse_stackUnits (l : Link) (b : Byte) :
    (s.refuse l b).stackUnits = s.stackUnits := rfl
@[simp] theorem State.refuse_pins (l : Link) (b : Byte) : (s.refuse l b).pins = s.pins := rfl
@[simp] theorem State.refuse_norm (l : Link) (b : Byte) : (s.refuse l b).norm = s.norm := rfl
@[simp] theorem State.refuse_recorder (l : Link) (b : Byte) : (s.refuse l b).recorder = s.recorder := rfl
@[simp] theorem State.refuse_config (l : Link) (b : Byte) : (s.refuse l b).config = s.config := rfl
@[simp] theorem State.refuse_store (l : Link) (b : Byte) : (s.refuse l b).store = s.store := rfl
@[simp] theorem State.refuse_arbiter (l : Link) (b : Byte) : (s.refuse l b).arbiter = s.arbiter := rfl
@[simp] theorem State.refuse_attention (l : Link) (b : Byte) :
    (s.refuse l b).attention = s.attention := rfl
@[simp] theorem State.refuse_supply (l : Link) (b : Byte) : (s.refuse l b).supply = s.supply := rfl
@[simp] theorem State.refuse_freeDraws (l : Link) (b : Byte) :
    (s.refuse l b).freeDraws = s.freeDraws := rfl
@[simp] theorem State.refuse_pending (l : Link) (b : Byte) : (s.refuse l b).pending = s.pending := rfl

/-! ### State.beginOp -/

@[simp] theorem State.beginOp_time (l : Link) (c : BusyCmd) : (s.beginOp l c).time = s.time := rfl
@[simp] theorem State.beginOp_scan (l : Link) (c : BusyCmd) : (s.beginOp l c).scan = s.scan := rfl
@[simp] theorem State.beginOp_sec (l : Link) (c : BusyCmd) : (s.beginOp l c).sec = s.sec := rfl
@[simp] theorem State.beginOp_stackUnits (l : Link) (c : BusyCmd) :
    (s.beginOp l c).stackUnits = s.stackUnits := rfl
@[simp] theorem State.beginOp_pins (l : Link) (c : BusyCmd) : (s.beginOp l c).pins = s.pins := rfl
@[simp] theorem State.beginOp_norm (l : Link) (c : BusyCmd) : (s.beginOp l c).norm = s.norm := rfl
@[simp] theorem State.beginOp_recorder (l : Link) (c : BusyCmd) :
    (s.beginOp l c).recorder = s.recorder := rfl
@[simp] theorem State.beginOp_config (l : Link) (c : BusyCmd) : (s.beginOp l c).config = s.config := rfl
@[simp] theorem State.beginOp_store (l : Link) (c : BusyCmd) : (s.beginOp l c).store = s.store := rfl
@[simp] theorem State.beginOp_arbiter (l : Link) (c : BusyCmd) :
    (s.beginOp l c).arbiter = s.arbiter := rfl
@[simp] theorem State.beginOp_attention (l : Link) (c : BusyCmd) :
    (s.beginOp l c).attention = s.attention := rfl
@[simp] theorem State.beginOp_supply (l : Link) (c : BusyCmd) : (s.beginOp l c).supply = s.supply := rfl
@[simp] theorem State.beginOp_freeDraws (l : Link) (c : BusyCmd) :
    (s.beginOp l c).freeDraws = s.freeDraws := rfl
@[simp] theorem State.beginOp_pending (l : Link) (c : BusyCmd) :
    (s.beginOp l c).pending = s.pending := rfl

/-! ### State.setWaiting -/

@[simp] theorem State.setWaiting_time (l : Link) (w : Bool) : (s.setWaiting l w).time = s.time := rfl
@[simp] theorem State.setWaiting_scan (l : Link) (w : Bool) : (s.setWaiting l w).scan = s.scan := rfl
@[simp] theorem State.setWaiting_sec (l : Link) (w : Bool) : (s.setWaiting l w).sec = s.sec := rfl
@[simp] theorem State.setWaiting_stackUnits (l : Link) (w : Bool) :
    (s.setWaiting l w).stackUnits = s.stackUnits := rfl
@[simp] theorem State.setWaiting_pins (l : Link) (w : Bool) : (s.setWaiting l w).pins = s.pins := rfl
@[simp] theorem State.setWaiting_norm (l : Link) (w : Bool) : (s.setWaiting l w).norm = s.norm := rfl
@[simp] theorem State.setWaiting_recorder (l : Link) (w : Bool) :
    (s.setWaiting l w).recorder = s.recorder := rfl
@[simp] theorem State.setWaiting_config (l : Link) (w : Bool) :
    (s.setWaiting l w).config = s.config := rfl
@[simp] theorem State.setWaiting_store (l : Link) (w : Bool) : (s.setWaiting l w).store = s.store := rfl
@[simp] theorem State.setWaiting_arbiter (l : Link) (w : Bool) :
    (s.setWaiting l w).arbiter = s.arbiter := rfl
@[simp] theorem State.setWaiting_attention (l : Link) (w : Bool) :
    (s.setWaiting l w).attention = s.attention := rfl
@[simp] theorem State.setWaiting_supply (l : Link) (w : Bool) :
    (s.setWaiting l w).supply = s.supply := rfl
@[simp] theorem State.setWaiting_freeDraws (l : Link) (w : Bool) :
    (s.setWaiting l w).freeDraws = s.freeDraws := rfl
@[simp] theorem State.setWaiting_pending (l : Link) (w : Bool) :
    (s.setWaiting l w).pending = s.pending := rfl

/-! ### State.setOpCmd -/

@[simp] theorem State.setOpCmd_time (l : Link) (c : BusyCmd) : (s.setOpCmd l c).time = s.time := rfl
@[simp] theorem State.setOpCmd_scan (l : Link) (c : BusyCmd) : (s.setOpCmd l c).scan = s.scan := rfl
@[simp] theorem State.setOpCmd_sec (l : Link) (c : BusyCmd) : (s.setOpCmd l c).sec = s.sec := rfl
@[simp] theorem State.setOpCmd_stackUnits (l : Link) (c : BusyCmd) :
    (s.setOpCmd l c).stackUnits = s.stackUnits := rfl
@[simp] theorem State.setOpCmd_pins (l : Link) (c : BusyCmd) : (s.setOpCmd l c).pins = s.pins := rfl
@[simp] theorem State.setOpCmd_norm (l : Link) (c : BusyCmd) : (s.setOpCmd l c).norm = s.norm := rfl
@[simp] theorem State.setOpCmd_recorder (l : Link) (c : BusyCmd) :
    (s.setOpCmd l c).recorder = s.recorder := rfl
@[simp] theorem State.setOpCmd_config (l : Link) (c : BusyCmd) :
    (s.setOpCmd l c).config = s.config := rfl
@[simp] theorem State.setOpCmd_store (l : Link) (c : BusyCmd) : (s.setOpCmd l c).store = s.store := rfl
@[simp] theorem State.setOpCmd_arbiter (l : Link) (c : BusyCmd) :
    (s.setOpCmd l c).arbiter = s.arbiter := rfl
@[simp] theorem State.setOpCmd_attention (l : Link) (c : BusyCmd) :
    (s.setOpCmd l c).attention = s.attention := rfl
@[simp] theorem State.setOpCmd_supply (l : Link) (c : BusyCmd) :
    (s.setOpCmd l c).supply = s.supply := rfl
@[simp] theorem State.setOpCmd_freeDraws (l : Link) (c : BusyCmd) :
    (s.setOpCmd l c).freeDraws = s.freeDraws := rfl
@[simp] theorem State.setOpCmd_pending (l : Link) (c : BusyCmd) :
    (s.setOpCmd l c).pending = s.pending := rfl

/-! ### State.putMarks -/

@[simp] theorem State.putMarks_time (m : Marks) : (s.putMarks m).time = s.time := rfl
@[simp] theorem State.putMarks_scan (m : Marks) : (s.putMarks m).scan = s.scan := rfl
@[simp] theorem State.putMarks_sec (m : Marks) : (s.putMarks m).sec = s.sec := rfl
@[simp] theorem State.putMarks_stackUnits (m : Marks) : (s.putMarks m).stackUnits = s.stackUnits := rfl
@[simp] theorem State.putMarks_pins (m : Marks) : (s.putMarks m).pins = s.pins := rfl
@[simp] theorem State.putMarks_norm (m : Marks) : (s.putMarks m).norm = s.norm := rfl
@[simp] theorem State.putMarks_recorder (m : Marks) : (s.putMarks m).recorder = s.recorder := rfl
@[simp] theorem State.putMarks_config (m : Marks) : (s.putMarks m).config = s.config := rfl
@[simp] theorem State.putMarks_store (m : Marks) : (s.putMarks m).store = s.store := rfl
@[simp] theorem State.putMarks_arbiter (m : Marks) : (s.putMarks m).arbiter = s.arbiter := rfl
@[simp] theorem State.putMarks_attention (m : Marks) : (s.putMarks m).attention = s.attention := rfl
@[simp] theorem State.putMarks_supply (m : Marks) : (s.putMarks m).supply = s.supply := rfl
@[simp] theorem State.putMarks_freeDraws (m : Marks) : (s.putMarks m).freeDraws = s.freeDraws := rfl
@[simp] theorem State.putMarks_pending (m : Marks) : (s.putMarks m).pending = s.pending := rfl

/-! ### State.dropGrant -/

@[simp] theorem State.dropGrant_time : (s.dropGrant).time = s.time := rfl
@[simp] theorem State.dropGrant_scan : (s.dropGrant).scan = s.scan := rfl
@[simp] theorem State.dropGrant_sec : (s.dropGrant).sec = s.sec := rfl
@[simp] theorem State.dropGrant_stackUnits : (s.dropGrant).stackUnits = s.stackUnits := rfl
@[simp] theorem State.dropGrant_pins : (s.dropGrant).pins = s.pins := rfl
@[simp] theorem State.dropGrant_norm : (s.dropGrant).norm = s.norm := rfl
@[simp] theorem State.dropGrant_recorder : (s.dropGrant).recorder = s.recorder := rfl
@[simp] theorem State.dropGrant_config : (s.dropGrant).config = s.config := rfl
@[simp] theorem State.dropGrant_store : (s.dropGrant).store = s.store := rfl
@[simp] theorem State.dropGrant_links : (s.dropGrant).links = s.links := rfl
@[simp] theorem State.dropGrant_attention : (s.dropGrant).attention = s.attention := rfl
@[simp] theorem State.dropGrant_supply : (s.dropGrant).supply = s.supply := rfl
@[simp] theorem State.dropGrant_freeDraws : (s.dropGrant).freeDraws = s.freeDraws := rfl
@[simp] theorem State.dropGrant_pending : (s.dropGrant).pending = s.pending := rfl

/-! ### State.startGrant -/

@[simp] theorem State.startGrant_time (g : Grant) : (s.startGrant g).time = s.time := rfl
@[simp] theorem State.startGrant_scan (g : Grant) : (s.startGrant g).scan = s.scan := rfl
@[simp] theorem State.startGrant_sec (g : Grant) : (s.startGrant g).sec = s.sec := rfl
@[simp] theorem State.startGrant_stackUnits (g : Grant) :
    (s.startGrant g).stackUnits = s.stackUnits := rfl
@[simp] theorem State.startGrant_pins (g : Grant) : (s.startGrant g).pins = s.pins := rfl
@[simp] theorem State.startGrant_norm (g : Grant) : (s.startGrant g).norm = s.norm := rfl
@[simp] theorem State.startGrant_recorder (g : Grant) : (s.startGrant g).recorder = s.recorder := rfl
@[simp] theorem State.startGrant_config (g : Grant) : (s.startGrant g).config = s.config := rfl
@[simp] theorem State.startGrant_store (g : Grant) : (s.startGrant g).store = s.store := rfl
@[simp] theorem State.startGrant_links (g : Grant) : (s.startGrant g).links = s.links := rfl
@[simp] theorem State.startGrant_attention (g : Grant) : (s.startGrant g).attention = s.attention := rfl
@[simp] theorem State.startGrant_supply (g : Grant) : (s.startGrant g).supply = s.supply := rfl
@[simp] theorem State.startGrant_freeDraws (g : Grant) : (s.startGrant g).freeDraws = s.freeDraws := rfl
@[simp] theorem State.startGrant_pending (g : Grant) : (s.startGrant g).pending = s.pending := rfl

/-! ### State.nextPart -/

@[simp] theorem State.nextPart_time (g : Grant) (b : Bool) : (s.nextPart g b).time = s.time := rfl
@[simp] theorem State.nextPart_scan (g : Grant) (b : Bool) : (s.nextPart g b).scan = s.scan := rfl
@[simp] theorem State.nextPart_sec (g : Grant) (b : Bool) : (s.nextPart g b).sec = s.sec := rfl
@[simp] theorem State.nextPart_stackUnits (g : Grant) (b : Bool) :
    (s.nextPart g b).stackUnits = s.stackUnits := rfl
@[simp] theorem State.nextPart_pins (g : Grant) (b : Bool) : (s.nextPart g b).pins = s.pins := rfl
@[simp] theorem State.nextPart_norm (g : Grant) (b : Bool) : (s.nextPart g b).norm = s.norm := rfl
@[simp] theorem State.nextPart_recorder (g : Grant) (b : Bool) :
    (s.nextPart g b).recorder = s.recorder := rfl
@[simp] theorem State.nextPart_config (g : Grant) (b : Bool) : (s.nextPart g b).config = s.config := rfl
@[simp] theorem State.nextPart_store (g : Grant) (b : Bool) : (s.nextPart g b).store = s.store := rfl
@[simp] theorem State.nextPart_links (g : Grant) (b : Bool) : (s.nextPart g b).links = s.links := rfl
@[simp] theorem State.nextPart_attention (g : Grant) (b : Bool) :
    (s.nextPart g b).attention = s.attention := rfl
@[simp] theorem State.nextPart_supply (g : Grant) (b : Bool) : (s.nextPart g b).supply = s.supply := rfl
@[simp] theorem State.nextPart_freeDraws (g : Grant) (b : Bool) :
    (s.nextPart g b).freeDraws = s.freeDraws := rfl
@[simp] theorem State.nextPart_pending (g : Grant) (b : Bool) :
    (s.nextPart g b).pending = s.pending := rfl

/-! ### State.reachPhase -/

@[simp] theorem State.reachPhase_scan (p : Nat) : (s.reachPhase p).scan = s.scan := rfl
@[simp] theorem State.reachPhase_sec (p : Nat) : (s.reachPhase p).sec = s.sec := rfl
@[simp] theorem State.reachPhase_stackUnits (p : Nat) : (s.reachPhase p).stackUnits = s.stackUnits := rfl
@[simp] theorem State.reachPhase_pins (p : Nat) : (s.reachPhase p).pins = s.pins := rfl
@[simp] theorem State.reachPhase_norm (p : Nat) : (s.reachPhase p).norm = s.norm := rfl
@[simp] theorem State.reachPhase_recorder (p : Nat) : (s.reachPhase p).recorder = s.recorder := rfl
@[simp] theorem State.reachPhase_config (p : Nat) : (s.reachPhase p).config = s.config := rfl
@[simp] theorem State.reachPhase_store (p : Nat) : (s.reachPhase p).store = s.store := rfl
@[simp] theorem State.reachPhase_arbiter (p : Nat) : (s.reachPhase p).arbiter = s.arbiter := rfl
@[simp] theorem State.reachPhase_links (p : Nat) : (s.reachPhase p).links = s.links := rfl
@[simp] theorem State.reachPhase_attention (p : Nat) : (s.reachPhase p).attention = s.attention := rfl
@[simp] theorem State.reachPhase_supply (p : Nat) : (s.reachPhase p).supply = s.supply := rfl
@[simp] theorem State.reachPhase_freeDraws (p : Nat) : (s.reachPhase p).freeDraws = s.freeDraws := rfl
@[simp] theorem State.reachPhase_pending (p : Nat) : (s.reachPhase p).pending = s.pending := rfl

/-! ### State.putTime -/

@[simp] theorem State.putTime_scan (t m : Nat) : (s.putTime t m).scan = s.scan := rfl
@[simp] theorem State.putTime_sec (t m : Nat) : (s.putTime t m).sec = s.sec := rfl
@[simp] theorem State.putTime_stackUnits (t m : Nat) : (s.putTime t m).stackUnits = s.stackUnits := rfl
@[simp] theorem State.putTime_pins (t m : Nat) : (s.putTime t m).pins = s.pins := rfl
@[simp] theorem State.putTime_norm (t m : Nat) : (s.putTime t m).norm = s.norm := rfl
@[simp] theorem State.putTime_recorder (t m : Nat) : (s.putTime t m).recorder = s.recorder := rfl
@[simp] theorem State.putTime_config (t m : Nat) : (s.putTime t m).config = s.config := rfl
@[simp] theorem State.putTime_store (t m : Nat) : (s.putTime t m).store = s.store := rfl
@[simp] theorem State.putTime_arbiter (t m : Nat) : (s.putTime t m).arbiter = s.arbiter := rfl
@[simp] theorem State.putTime_links (t m : Nat) : (s.putTime t m).links = s.links := rfl
@[simp] theorem State.putTime_attention (t m : Nat) : (s.putTime t m).attention = s.attention := rfl
@[simp] theorem State.putTime_supply (t m : Nat) : (s.putTime t m).supply = s.supply := rfl
@[simp] theorem State.putTime_freeDraws (t m : Nat) : (s.putTime t m).freeDraws = s.freeDraws := rfl
@[simp] theorem State.putTime_pending (t m : Nat) : (s.putTime t m).pending = s.pending := rfl

/-! ### State.countSecond -/

@[simp] theorem State.countSecond_scan : (s.countSecond).scan = s.scan := rfl
@[simp] theorem State.countSecond_sec : (s.countSecond).sec = s.sec := rfl
@[simp] theorem State.countSecond_stackUnits : (s.countSecond).stackUnits = s.stackUnits := rfl
@[simp] theorem State.countSecond_pins : (s.countSecond).pins = s.pins := rfl
@[simp] theorem State.countSecond_norm : (s.countSecond).norm = s.norm := rfl
@[simp] theorem State.countSecond_recorder : (s.countSecond).recorder = s.recorder := rfl
@[simp] theorem State.countSecond_config : (s.countSecond).config = s.config := rfl
@[simp] theorem State.countSecond_store : (s.countSecond).store = s.store := rfl
@[simp] theorem State.countSecond_arbiter : (s.countSecond).arbiter = s.arbiter := rfl
@[simp] theorem State.countSecond_links : (s.countSecond).links = s.links := rfl
@[simp] theorem State.countSecond_attention : (s.countSecond).attention = s.attention := rfl
@[simp] theorem State.countSecond_supply : (s.countSecond).supply = s.supply := rfl
@[simp] theorem State.countSecond_freeDraws : (s.countSecond).freeDraws = s.freeDraws := rfl
@[simp] theorem State.countSecond_pending : (s.countSecond).pending = s.pending := rfl

/-! ### State.beginSecond -/

@[simp] theorem State.beginSecond_time : (s.beginSecond).time = s.time := rfl
@[simp] theorem State.beginSecond_stackUnits : (s.beginSecond).stackUnits = s.stackUnits := rfl
@[simp] theorem State.beginSecond_pins : (s.beginSecond).pins = s.pins := rfl
@[simp] theorem State.beginSecond_norm : (s.beginSecond).norm = s.norm := rfl
@[simp] theorem State.beginSecond_recorder : (s.beginSecond).recorder = s.recorder := rfl
@[simp] theorem State.beginSecond_config : (s.beginSecond).config = s.config := rfl
@[simp] theorem State.beginSecond_store : (s.beginSecond).store = s.store := rfl
@[simp] theorem State.beginSecond_arbiter : (s.beginSecond).arbiter = s.arbiter := rfl
@[simp] theorem State.beginSecond_links : (s.beginSecond).links = s.links := rfl
@[simp] theorem State.beginSecond_attention : (s.beginSecond).attention = s.attention := rfl
@[simp] theorem State.beginSecond_supply : (s.beginSecond).supply = s.supply := rfl
@[simp] theorem State.beginSecond_freeDraws : (s.beginSecond).freeDraws = s.freeDraws := rfl
@[simp] theorem State.beginSecond_pending : (s.beginSecond).pending = s.pending := rfl

/-! ### State.idleSecond -/

@[simp] theorem State.idleSecond_time : (s.idleSecond).time = s.time := rfl
@[simp] theorem State.idleSecond_scan : (s.idleSecond).scan = s.scan := rfl
@[simp] theorem State.idleSecond_stackUnits : (s.idleSecond).stackUnits = s.stackUnits := rfl
@[simp] theorem State.idleSecond_pins : (s.idleSecond).pins = s.pins := rfl
@[simp] theorem State.idleSecond_norm : (s.idleSecond).norm = s.norm := rfl
@[simp] theorem State.idleSecond_recorder : (s.idleSecond).recorder = s.recorder := rfl
@[simp] theorem State.idleSecond_config : (s.idleSecond).config = s.config := rfl
@[simp] theorem State.idleSecond_store : (s.idleSecond).store = s.store := rfl
@[simp] theorem State.idleSecond_arbiter : (s.idleSecond).arbiter = s.arbiter := rfl
@[simp] theorem State.idleSecond_links : (s.idleSecond).links = s.links := rfl
@[simp] theorem State.idleSecond_attention : (s.idleSecond).attention = s.attention := rfl
@[simp] theorem State.idleSecond_supply : (s.idleSecond).supply = s.supply := rfl
@[simp] theorem State.idleSecond_freeDraws : (s.idleSecond).freeDraws = s.freeDraws := rfl
@[simp] theorem State.idleSecond_pending : (s.idleSecond).pending = s.pending := rfl

/-! ### State.setStackUnit -/

@[simp] theorem State.setStackUnit_time (k : Nat) (u : StackUnit) :
    (s.setStackUnit k u).time = s.time := rfl
@[simp] theorem State.setStackUnit_scan (k : Nat) (u : StackUnit) :
    (s.setStackUnit k u).scan = s.scan := rfl
@[simp] theorem State.setStackUnit_sec (k : Nat) (u : StackUnit) :
    (s.setStackUnit k u).sec = s.sec := rfl
@[simp] theorem State.setStackUnit_pins (k : Nat) (u : StackUnit) :
    (s.setStackUnit k u).pins = s.pins := rfl
@[simp] theorem State.setStackUnit_norm (k : Nat) (u : StackUnit) :
    (s.setStackUnit k u).norm = s.norm := rfl
@[simp] theorem State.setStackUnit_recorder (k : Nat) (u : StackUnit) :
    (s.setStackUnit k u).recorder = s.recorder := rfl
@[simp] theorem State.setStackUnit_config (k : Nat) (u : StackUnit) :
    (s.setStackUnit k u).config = s.config := rfl
@[simp] theorem State.setStackUnit_store (k : Nat) (u : StackUnit) :
    (s.setStackUnit k u).store = s.store := rfl
@[simp] theorem State.setStackUnit_arbiter (k : Nat) (u : StackUnit) :
    (s.setStackUnit k u).arbiter = s.arbiter := rfl
@[simp] theorem State.setStackUnit_links (k : Nat) (u : StackUnit) :
    (s.setStackUnit k u).links = s.links := rfl
@[simp] theorem State.setStackUnit_attention (k : Nat) (u : StackUnit) :
    (s.setStackUnit k u).attention = s.attention := rfl
@[simp] theorem State.setStackUnit_supply (k : Nat) (u : StackUnit) :
    (s.setStackUnit k u).supply = s.supply := rfl
@[simp] theorem State.setStackUnit_freeDraws (k : Nat) (u : StackUnit) :
    (s.setStackUnit k u).freeDraws = s.freeDraws := rfl
@[simp] theorem State.setStackUnit_pending (k : Nat) (u : StackUnit) :
    (s.setStackUnit k u).pending = s.pending := rfl

/-! ### State.handStackSet -/

@[simp] theorem State.handStackSet_time : (s.handStackSet).time = s.time := rfl
@[simp] theorem State.handStackSet_scan : (s.handStackSet).scan = s.scan := rfl
@[simp] theorem State.handStackSet_stackUnits : (s.handStackSet).stackUnits = s.stackUnits := rfl
@[simp] theorem State.handStackSet_pins : (s.handStackSet).pins = s.pins := rfl
@[simp] theorem State.handStackSet_recorder : (s.handStackSet).recorder = s.recorder := rfl
@[simp] theorem State.handStackSet_config : (s.handStackSet).config = s.config := rfl
@[simp] theorem State.handStackSet_store : (s.handStackSet).store = s.store := rfl
@[simp] theorem State.handStackSet_arbiter : (s.handStackSet).arbiter = s.arbiter := rfl
@[simp] theorem State.handStackSet_links : (s.handStackSet).links = s.links := rfl
@[simp] theorem State.handStackSet_attention : (s.handStackSet).attention = s.attention := rfl
@[simp] theorem State.handStackSet_supply : (s.handStackSet).supply = s.supply := rfl
@[simp] theorem State.handStackSet_freeDraws : (s.handStackSet).freeDraws = s.freeDraws := rfl
@[simp] theorem State.handStackSet_pending : (s.handStackSet).pending = s.pending := rfl

/-! ### State.dropUnpaired -/

@[simp] theorem State.dropUnpaired_time : (s.dropUnpaired).time = s.time := rfl
@[simp] theorem State.dropUnpaired_scan : (s.dropUnpaired).scan = s.scan := rfl
@[simp] theorem State.dropUnpaired_sec : (s.dropUnpaired).sec = s.sec := rfl
@[simp] theorem State.dropUnpaired_stackUnits : (s.dropUnpaired).stackUnits = s.stackUnits := rfl
@[simp] theorem State.dropUnpaired_pins : (s.dropUnpaired).pins = s.pins := rfl
@[simp] theorem State.dropUnpaired_recorder : (s.dropUnpaired).recorder = s.recorder := rfl
@[simp] theorem State.dropUnpaired_config : (s.dropUnpaired).config = s.config := rfl
@[simp] theorem State.dropUnpaired_store : (s.dropUnpaired).store = s.store := rfl
@[simp] theorem State.dropUnpaired_arbiter : (s.dropUnpaired).arbiter = s.arbiter := rfl
@[simp] theorem State.dropUnpaired_links : (s.dropUnpaired).links = s.links := rfl
@[simp] theorem State.dropUnpaired_attention : (s.dropUnpaired).attention = s.attention := rfl
@[simp] theorem State.dropUnpaired_supply : (s.dropUnpaired).supply = s.supply := rfl
@[simp] theorem State.dropUnpaired_freeDraws : (s.dropUnpaired).freeDraws = s.freeDraws := rfl
@[simp] theorem State.dropUnpaired_pending : (s.dropUnpaired).pending = s.pending := rfl

/-! ### State.skipSecond -/

@[simp] theorem State.skipSecond_time : (s.skipSecond).time = s.time := rfl
@[simp] theorem State.skipSecond_pins : (s.skipSecond).pins = s.pins := rfl
@[simp] theorem State.skipSecond_config : (s.skipSecond).config = s.config := rfl
@[simp] theorem State.skipSecond_store : (s.skipSecond).store = s.store := rfl
@[simp] theorem State.skipSecond_arbiter : (s.skipSecond).arbiter = s.arbiter := rfl
@[simp] theorem State.skipSecond_links : (s.skipSecond).links = s.links := rfl
@[simp] theorem State.skipSecond_attention : (s.skipSecond).attention = s.attention := rfl
@[simp] theorem State.skipSecond_supply : (s.skipSecond).supply = s.supply := rfl
@[simp] theorem State.skipSecond_freeDraws : (s.skipSecond).freeDraws = s.freeDraws := rfl
@[simp] theorem State.skipSecond_pending : (s.skipSecond).pending = s.pending := rfl

/-! ### State.remember -/

@[simp] theorem State.remember_time (b : SecondBefore) : (s.remember b).time = s.time := rfl
@[simp] theorem State.remember_scan (b : SecondBefore) : (s.remember b).scan = s.scan := rfl
@[simp] theorem State.remember_stackUnits (b : SecondBefore) :
    (s.remember b).stackUnits = s.stackUnits := rfl
@[simp] theorem State.remember_pins (b : SecondBefore) : (s.remember b).pins = s.pins := rfl
@[simp] theorem State.remember_norm (b : SecondBefore) : (s.remember b).norm = s.norm := rfl
@[simp] theorem State.remember_recorder (b : SecondBefore) : (s.remember b).recorder = s.recorder := rfl
@[simp] theorem State.remember_config (b : SecondBefore) : (s.remember b).config = s.config := rfl
@[simp] theorem State.remember_store (b : SecondBefore) : (s.remember b).store = s.store := rfl
@[simp] theorem State.remember_arbiter (b : SecondBefore) : (s.remember b).arbiter = s.arbiter := rfl
@[simp] theorem State.remember_links (b : SecondBefore) : (s.remember b).links = s.links := rfl
@[simp] theorem State.remember_attention (b : SecondBefore) :
    (s.remember b).attention = s.attention := rfl
@[simp] theorem State.remember_supply (b : SecondBefore) : (s.remember b).supply = s.supply := rfl
@[simp] theorem State.remember_freeDraws (b : SecondBefore) :
    (s.remember b).freeDraws = s.freeDraws := rfl
@[simp] theorem State.remember_pending (b : SecondBefore) : (s.remember b).pending = s.pending := rfl

/-! ### State.rememberScan -/

@[simp] theorem State.rememberScan_time : (s.rememberScan).time = s.time := rfl
@[simp] theorem State.rememberScan_scan : (s.rememberScan).scan = s.scan := rfl
@[simp] theorem State.rememberScan_stackUnits : (s.rememberScan).stackUnits = s.stackUnits := rfl
@[simp] theorem State.rememberScan_pins : (s.rememberScan).pins = s.pins := rfl
@[simp] theorem State.rememberScan_norm : (s.rememberScan).norm = s.norm := rfl
@[simp] theorem State.rememberScan_recorder : (s.rememberScan).recorder = s.recorder := rfl
@[simp] theorem State.rememberScan_config : (s.rememberScan).config = s.config := rfl
@[simp] theorem State.rememberScan_store : (s.rememberScan).store = s.store := rfl
@[simp] theorem State.rememberScan_arbiter : (s.rememberScan).arbiter = s.arbiter := rfl
@[simp] theorem State.rememberScan_links : (s.rememberScan).links = s.links := rfl
@[simp] theorem State.rememberScan_attention : (s.rememberScan).attention = s.attention := rfl
@[simp] theorem State.rememberScan_supply : (s.rememberScan).supply = s.supply := rfl
@[simp] theorem State.rememberScan_freeDraws : (s.rememberScan).freeDraws = s.freeDraws := rfl
@[simp] theorem State.rememberScan_pending : (s.rememberScan).pending = s.pending := rfl

/-! ### State.rememberStacks -/

@[simp] theorem State.rememberStacks_time : (s.rememberStacks).time = s.time := rfl
@[simp] theorem State.rememberStacks_scan : (s.rememberStacks).scan = s.scan := rfl
@[simp] theorem State.rememberStacks_stackUnits : (s.rememberStacks).stackUnits = s.stackUnits := rfl
@[simp] theorem State.rememberStacks_pins : (s.rememberStacks).pins = s.pins := rfl
@[simp] theorem State.rememberStacks_norm : (s.rememberStacks).norm = s.norm := rfl
@[simp] theorem State.rememberStacks_recorder : (s.rememberStacks).recorder = s.recorder := rfl
@[simp] theorem State.rememberStacks_config : (s.rememberStacks).config = s.config := rfl
@[simp] theorem State.rememberStacks_store : (s.rememberStacks).store = s.store := rfl
@[simp] theorem State.rememberStacks_arbiter : (s.rememberStacks).arbiter = s.arbiter := rfl
@[simp] theorem State.rememberStacks_links : (s.rememberStacks).links = s.links := rfl
@[simp] theorem State.rememberStacks_attention : (s.rememberStacks).attention = s.attention := rfl
@[simp] theorem State.rememberStacks_supply : (s.rememberStacks).supply = s.supply := rfl
@[simp] theorem State.rememberStacks_freeDraws : (s.rememberStacks).freeDraws = s.freeDraws := rfl
@[simp] theorem State.rememberStacks_pending : (s.rememberStacks).pending = s.pending := rfl

/-! ### State.rememberLive -/

@[simp] theorem State.rememberLive_time : (s.rememberLive).time = s.time := rfl
@[simp] theorem State.rememberLive_scan : (s.rememberLive).scan = s.scan := rfl
@[simp] theorem State.rememberLive_stackUnits :
    (s.rememberLive).stackUnits = s.stackUnits := rfl
@[simp] theorem State.rememberLive_pins : (s.rememberLive).pins = s.pins := rfl
@[simp] theorem State.rememberLive_norm : (s.rememberLive).norm = s.norm := rfl
@[simp] theorem State.rememberLive_recorder : (s.rememberLive).recorder = s.recorder := rfl
@[simp] theorem State.rememberLive_config : (s.rememberLive).config = s.config := rfl
@[simp] theorem State.rememberLive_store : (s.rememberLive).store = s.store := rfl
@[simp] theorem State.rememberLive_arbiter : (s.rememberLive).arbiter = s.arbiter := rfl
@[simp] theorem State.rememberLive_links : (s.rememberLive).links = s.links := rfl
@[simp] theorem State.rememberLive_attention :
    (s.rememberLive).attention = s.attention := rfl
@[simp] theorem State.rememberLive_supply : (s.rememberLive).supply = s.supply := rfl
@[simp] theorem State.rememberLive_freeDraws :
    (s.rememberLive).freeDraws = s.freeDraws := rfl
@[simp] theorem State.rememberLive_pending : (s.rememberLive).pending = s.pending := rfl

/-! ### State.rememberSums -/

@[simp] theorem State.rememberSums_time (n m : Nat) : (s.rememberSums n m).time = s.time := rfl
@[simp] theorem State.rememberSums_scan (n m : Nat) : (s.rememberSums n m).scan = s.scan := rfl
@[simp] theorem State.rememberSums_stackUnits (n m : Nat) :
    (s.rememberSums n m).stackUnits = s.stackUnits := rfl
@[simp] theorem State.rememberSums_pins (n m : Nat) : (s.rememberSums n m).pins = s.pins := rfl
@[simp] theorem State.rememberSums_norm (n m : Nat) : (s.rememberSums n m).norm = s.norm := rfl
@[simp] theorem State.rememberSums_recorder (n m : Nat) :
    (s.rememberSums n m).recorder = s.recorder := rfl
@[simp] theorem State.rememberSums_config (n m : Nat) : (s.rememberSums n m).config = s.config := rfl
@[simp] theorem State.rememberSums_store (n m : Nat) : (s.rememberSums n m).store = s.store := rfl
@[simp] theorem State.rememberSums_arbiter (n m : Nat) : (s.rememberSums n m).arbiter = s.arbiter := rfl
@[simp] theorem State.rememberSums_links (n m : Nat) : (s.rememberSums n m).links = s.links := rfl
@[simp] theorem State.rememberSums_attention (n m : Nat) :
    (s.rememberSums n m).attention = s.attention := rfl
@[simp] theorem State.rememberSums_supply (n m : Nat) : (s.rememberSums n m).supply = s.supply := rfl
@[simp] theorem State.rememberSums_freeDraws (n m : Nat) :
    (s.rememberSums n m).freeDraws = s.freeDraws := rfl
@[simp] theorem State.rememberSums_pending (n m : Nat) : (s.rememberSums n m).pending = s.pending := rfl

/-! ### State.deferCheck -/

@[simp] theorem State.deferCheck_time (a b : Nat) : (s.deferCheck a b).time = s.time := rfl
@[simp] theorem State.deferCheck_scan (a b : Nat) : (s.deferCheck a b).scan = s.scan := rfl
@[simp] theorem State.deferCheck_stackUnits (a b : Nat) :
    (s.deferCheck a b).stackUnits = s.stackUnits := rfl
@[simp] theorem State.deferCheck_pins (a b : Nat) : (s.deferCheck a b).pins = s.pins := rfl
@[simp] theorem State.deferCheck_norm (a b : Nat) : (s.deferCheck a b).norm = s.norm := rfl
@[simp] theorem State.deferCheck_recorder (a b : Nat) : (s.deferCheck a b).recorder = s.recorder := rfl
@[simp] theorem State.deferCheck_config (a b : Nat) : (s.deferCheck a b).config = s.config := rfl
@[simp] theorem State.deferCheck_store (a b : Nat) : (s.deferCheck a b).store = s.store := rfl
@[simp] theorem State.deferCheck_arbiter (a b : Nat) : (s.deferCheck a b).arbiter = s.arbiter := rfl
@[simp] theorem State.deferCheck_links (a b : Nat) : (s.deferCheck a b).links = s.links := rfl
@[simp] theorem State.deferCheck_attention (a b : Nat) :
    (s.deferCheck a b).attention = s.attention := rfl
@[simp] theorem State.deferCheck_supply (a b : Nat) : (s.deferCheck a b).supply = s.supply := rfl
@[simp] theorem State.deferCheck_freeDraws (a b : Nat) :
    (s.deferCheck a b).freeDraws = s.freeDraws := rfl
@[simp] theorem State.deferCheck_pending (a b : Nat) : (s.deferCheck a b).pending = s.pending := rfl

/-! ### State.withInputs -/

@[simp] theorem State.withInputs_time (latches : BitVec 16) (slots : List (Option ValueSlot)) :
    (s.withInputs latches slots).time = s.time := rfl
@[simp] theorem State.withInputs_sec (latches : BitVec 16) (slots : List (Option ValueSlot)) :
    (s.withInputs latches slots).sec = s.sec := rfl
@[simp] theorem State.withInputs_stackUnits (latches : BitVec 16) (slots : List (Option ValueSlot)) :
    (s.withInputs latches slots).stackUnits = s.stackUnits := rfl
@[simp] theorem State.withInputs_pins (latches : BitVec 16) (slots : List (Option ValueSlot)) :
    (s.withInputs latches slots).pins = s.pins := rfl
@[simp] theorem State.withInputs_norm (latches : BitVec 16) (slots : List (Option ValueSlot)) :
    (s.withInputs latches slots).norm = s.norm := rfl
@[simp] theorem State.withInputs_recorder (latches : BitVec 16) (slots : List (Option ValueSlot)) :
    (s.withInputs latches slots).recorder = s.recorder := rfl
@[simp] theorem State.withInputs_config (latches : BitVec 16) (slots : List (Option ValueSlot)) :
    (s.withInputs latches slots).config = s.config := rfl
@[simp] theorem State.withInputs_store (latches : BitVec 16) (slots : List (Option ValueSlot)) :
    (s.withInputs latches slots).store = s.store := rfl
@[simp] theorem State.withInputs_arbiter (latches : BitVec 16) (slots : List (Option ValueSlot)) :
    (s.withInputs latches slots).arbiter = s.arbiter := rfl
@[simp] theorem State.withInputs_links (latches : BitVec 16) (slots : List (Option ValueSlot)) :
    (s.withInputs latches slots).links = s.links := rfl
@[simp] theorem State.withInputs_attention (latches : BitVec 16) (slots : List (Option ValueSlot)) :
    (s.withInputs latches slots).attention = s.attention := rfl
@[simp] theorem State.withInputs_supply (latches : BitVec 16) (slots : List (Option ValueSlot)) :
    (s.withInputs latches slots).supply = s.supply := rfl
@[simp] theorem State.withInputs_freeDraws (latches : BitVec 16) (slots : List (Option ValueSlot)) :
    (s.withInputs latches slots).freeDraws = s.freeDraws := rfl
@[simp] theorem State.withInputs_pending (latches : BitVec 16) (slots : List (Option ValueSlot)) :
    (s.withInputs latches slots).pending = s.pending := rfl

/-! ### State.withLinkSlots -/

@[simp] theorem State.withLinkSlots_time (slots : List (Option LinkSlot)) :
    (s.withLinkSlots slots).time = s.time := rfl
@[simp] theorem State.withLinkSlots_scan (slots : List (Option LinkSlot)) :
    (s.withLinkSlots slots).scan = s.scan := rfl
@[simp] theorem State.withLinkSlots_sec (slots : List (Option LinkSlot)) :
    (s.withLinkSlots slots).sec = s.sec := rfl
@[simp] theorem State.withLinkSlots_pins (slots : List (Option LinkSlot)) :
    (s.withLinkSlots slots).pins = s.pins := rfl
@[simp] theorem State.withLinkSlots_norm (slots : List (Option LinkSlot)) :
    (s.withLinkSlots slots).norm = s.norm := rfl
@[simp] theorem State.withLinkSlots_recorder (slots : List (Option LinkSlot)) :
    (s.withLinkSlots slots).recorder = s.recorder := rfl
@[simp] theorem State.withLinkSlots_config (slots : List (Option LinkSlot)) :
    (s.withLinkSlots slots).config = s.config := rfl
@[simp] theorem State.withLinkSlots_store (slots : List (Option LinkSlot)) :
    (s.withLinkSlots slots).store = s.store := rfl
@[simp] theorem State.withLinkSlots_arbiter (slots : List (Option LinkSlot)) :
    (s.withLinkSlots slots).arbiter = s.arbiter := rfl
@[simp] theorem State.withLinkSlots_links (slots : List (Option LinkSlot)) :
    (s.withLinkSlots slots).links = s.links := rfl
@[simp] theorem State.withLinkSlots_attention (slots : List (Option LinkSlot)) :
    (s.withLinkSlots slots).attention = s.attention := rfl
@[simp] theorem State.withLinkSlots_supply (slots : List (Option LinkSlot)) :
    (s.withLinkSlots slots).supply = s.supply := rfl
@[simp] theorem State.withLinkSlots_freeDraws (slots : List (Option LinkSlot)) :
    (s.withLinkSlots slots).freeDraws = s.freeDraws := rfl
@[simp] theorem State.withLinkSlots_pending (slots : List (Option LinkSlot)) :
    (s.withLinkSlots slots).pending = s.pending := rfl

/-! ### State.deferSample -/

@[simp] theorem State.deferSample_time : (s.deferSample).time = s.time := rfl
@[simp] theorem State.deferSample_scan : (s.deferSample).scan = s.scan := rfl
@[simp] theorem State.deferSample_stackUnits : (s.deferSample).stackUnits = s.stackUnits := rfl
@[simp] theorem State.deferSample_pins : (s.deferSample).pins = s.pins := rfl
@[simp] theorem State.deferSample_norm : (s.deferSample).norm = s.norm := rfl
@[simp] theorem State.deferSample_recorder : (s.deferSample).recorder = s.recorder := rfl
@[simp] theorem State.deferSample_config : (s.deferSample).config = s.config := rfl
@[simp] theorem State.deferSample_store : (s.deferSample).store = s.store := rfl
@[simp] theorem State.deferSample_arbiter : (s.deferSample).arbiter = s.arbiter := rfl
@[simp] theorem State.deferSample_links : (s.deferSample).links = s.links := rfl
@[simp] theorem State.deferSample_attention : (s.deferSample).attention = s.attention := rfl
@[simp] theorem State.deferSample_supply : (s.deferSample).supply = s.supply := rfl
@[simp] theorem State.deferSample_freeDraws : (s.deferSample).freeDraws = s.freeDraws := rfl
@[simp] theorem State.deferSample_pending : (s.deferSample).pending = s.pending := rfl

/-! ### State.cutShort -/

@[simp] theorem State.cutShort_time (o : List (Option OpSnapshot)) : (s.cutShort o).time = s.time := rfl
@[simp] theorem State.cutShort_scan (o : List (Option OpSnapshot)) : (s.cutShort o).scan = s.scan := rfl
@[simp] theorem State.cutShort_sec (o : List (Option OpSnapshot)) : (s.cutShort o).sec = s.sec := rfl
@[simp] theorem State.cutShort_stackUnits (o : List (Option OpSnapshot)) :
    (s.cutShort o).stackUnits = s.stackUnits := rfl
@[simp] theorem State.cutShort_pins (o : List (Option OpSnapshot)) : (s.cutShort o).pins = s.pins := rfl
@[simp] theorem State.cutShort_norm (o : List (Option OpSnapshot)) : (s.cutShort o).norm = s.norm := rfl
@[simp] theorem State.cutShort_recorder (o : List (Option OpSnapshot)) :
    (s.cutShort o).recorder = s.recorder := rfl
@[simp] theorem State.cutShort_config (o : List (Option OpSnapshot)) :
    (s.cutShort o).config = s.config := rfl
@[simp] theorem State.cutShort_store (o : List (Option OpSnapshot)) :
    (s.cutShort o).store = s.store := rfl
@[simp] theorem State.cutShort_arbiter (o : List (Option OpSnapshot)) :
    (s.cutShort o).arbiter = s.arbiter := rfl
@[simp] theorem State.cutShort_attention (o : List (Option OpSnapshot)) :
    (s.cutShort o).attention = s.attention := rfl
@[simp] theorem State.cutShort_supply (o : List (Option OpSnapshot)) :
    (s.cutShort o).supply = s.supply := rfl
@[simp] theorem State.cutShort_freeDraws (o : List (Option OpSnapshot)) :
    (s.cutShort o).freeDraws = s.freeDraws := rfl
@[simp] theorem State.cutShort_pending (o : List (Option OpSnapshot)) :
    (s.cutShort o).pending = s.pending := rfl

/-! ### State.hold -/

@[simp] theorem State.hold_time (b : HeldBoundary) : (s.hold b).time = s.time := rfl
@[simp] theorem State.hold_scan (b : HeldBoundary) : (s.hold b).scan = s.scan := rfl
@[simp] theorem State.hold_stackUnits (b : HeldBoundary) : (s.hold b).stackUnits = s.stackUnits := rfl
@[simp] theorem State.hold_pins (b : HeldBoundary) : (s.hold b).pins = s.pins := rfl
@[simp] theorem State.hold_norm (b : HeldBoundary) : (s.hold b).norm = s.norm := rfl
@[simp] theorem State.hold_recorder (b : HeldBoundary) : (s.hold b).recorder = s.recorder := rfl
@[simp] theorem State.hold_config (b : HeldBoundary) : (s.hold b).config = s.config := rfl
@[simp] theorem State.hold_store (b : HeldBoundary) : (s.hold b).store = s.store := rfl
@[simp] theorem State.hold_arbiter (b : HeldBoundary) : (s.hold b).arbiter = s.arbiter := rfl
@[simp] theorem State.hold_links (b : HeldBoundary) : (s.hold b).links = s.links := rfl
@[simp] theorem State.hold_attention (b : HeldBoundary) : (s.hold b).attention = s.attention := rfl
@[simp] theorem State.hold_supply (b : HeldBoundary) : (s.hold b).supply = s.supply := rfl
@[simp] theorem State.hold_freeDraws (b : HeldBoundary) : (s.hold b).freeDraws = s.freeDraws := rfl
@[simp] theorem State.hold_pending (b : HeldBoundary) : (s.hold b).pending = s.pending := rfl

/-! ### State.governSecond -/

@[simp] theorem State.governSecond_time : (s.governSecond).time = s.time := rfl
@[simp] theorem State.governSecond_scan : (s.governSecond).scan = s.scan := rfl
@[simp] theorem State.governSecond_stackUnits : (s.governSecond).stackUnits = s.stackUnits := rfl
@[simp] theorem State.governSecond_pins : (s.governSecond).pins = s.pins := rfl
@[simp] theorem State.governSecond_norm : (s.governSecond).norm = s.norm := rfl
@[simp] theorem State.governSecond_recorder : (s.governSecond).recorder = s.recorder := rfl
@[simp] theorem State.governSecond_config : (s.governSecond).config = s.config := rfl
@[simp] theorem State.governSecond_store : (s.governSecond).store = s.store := rfl
@[simp] theorem State.governSecond_arbiter : (s.governSecond).arbiter = s.arbiter := rfl
@[simp] theorem State.governSecond_links : (s.governSecond).links = s.links := rfl
@[simp] theorem State.governSecond_attention : (s.governSecond).attention = s.attention := rfl
@[simp] theorem State.governSecond_supply : (s.governSecond).supply = s.supply := rfl
@[simp] theorem State.governSecond_freeDraws : (s.governSecond).freeDraws = s.freeDraws := rfl
@[simp] theorem State.governSecond_pending : (s.governSecond).pending = s.pending := rfl

/-! ### State.forgetRecovered -/

@[simp] theorem State.forgetRecovered_time : (s.forgetRecovered).time = s.time := rfl
@[simp] theorem State.forgetRecovered_scan : (s.forgetRecovered).scan = s.scan := rfl
@[simp] theorem State.forgetRecovered_sec : (s.forgetRecovered).sec = s.sec := rfl
@[simp] theorem State.forgetRecovered_stackUnits : (s.forgetRecovered).stackUnits = s.stackUnits := rfl
@[simp] theorem State.forgetRecovered_pins : (s.forgetRecovered).pins = s.pins := rfl
@[simp] theorem State.forgetRecovered_norm : (s.forgetRecovered).norm = s.norm := rfl
@[simp] theorem State.forgetRecovered_recorder : (s.forgetRecovered).recorder = s.recorder := rfl
@[simp] theorem State.forgetRecovered_config : (s.forgetRecovered).config = s.config := rfl
@[simp] theorem State.forgetRecovered_store : (s.forgetRecovered).store = s.store := rfl
@[simp] theorem State.forgetRecovered_arbiter : (s.forgetRecovered).arbiter = s.arbiter := rfl
@[simp] theorem State.forgetRecovered_links : (s.forgetRecovered).links = s.links := rfl
@[simp] theorem State.forgetRecovered_attention : (s.forgetRecovered).attention = s.attention := rfl
@[simp] theorem State.forgetRecovered_freeDraws : (s.forgetRecovered).freeDraws = s.freeDraws := rfl
@[simp] theorem State.forgetRecovered_pending : (s.forgetRecovered).pending = s.pending := rfl

/-! ### State.reachWithdrawalPoint -/

@[simp] theorem State.reachWithdrawalPoint_time : (s.reachWithdrawalPoint).time = s.time := rfl
@[simp] theorem State.reachWithdrawalPoint_scan : (s.reachWithdrawalPoint).scan = s.scan := rfl
@[simp] theorem State.reachWithdrawalPoint_sec : (s.reachWithdrawalPoint).sec = s.sec := rfl
@[simp] theorem State.reachWithdrawalPoint_stackUnits :
    (s.reachWithdrawalPoint).stackUnits = s.stackUnits := rfl
@[simp] theorem State.reachWithdrawalPoint_pins : (s.reachWithdrawalPoint).pins = s.pins := rfl
@[simp] theorem State.reachWithdrawalPoint_norm : (s.reachWithdrawalPoint).norm = s.norm := rfl
@[simp] theorem State.reachWithdrawalPoint_config : (s.reachWithdrawalPoint).config = s.config := rfl
@[simp] theorem State.reachWithdrawalPoint_store : (s.reachWithdrawalPoint).store = s.store := rfl
@[simp] theorem State.reachWithdrawalPoint_arbiter : (s.reachWithdrawalPoint).arbiter = s.arbiter := rfl
@[simp] theorem State.reachWithdrawalPoint_links : (s.reachWithdrawalPoint).links = s.links := rfl
@[simp] theorem State.reachWithdrawalPoint_attention :
    (s.reachWithdrawalPoint).attention = s.attention := rfl
@[simp] theorem State.reachWithdrawalPoint_supply : (s.reachWithdrawalPoint).supply = s.supply := rfl
@[simp] theorem State.reachWithdrawalPoint_freeDraws :
    (s.reachWithdrawalPoint).freeDraws = s.freeDraws := rfl
@[simp] theorem State.reachWithdrawalPoint_pending : (s.reachWithdrawalPoint).pending = s.pending := rfl

/-! ### State.submit -/

@[simp] theorem State.submit_time (c : Nat) (v : ValueSlot) : (s.submit c v).time = s.time := rfl
@[simp] theorem State.submit_sec (c : Nat) (v : ValueSlot) : (s.submit c v).sec = s.sec := rfl
@[simp] theorem State.submit_stackUnits (c : Nat) (v : ValueSlot) :
    (s.submit c v).stackUnits = s.stackUnits := rfl
@[simp] theorem State.submit_pins (c : Nat) (v : ValueSlot) : (s.submit c v).pins = s.pins := rfl
@[simp] theorem State.submit_norm (c : Nat) (v : ValueSlot) : (s.submit c v).norm = s.norm := rfl
@[simp] theorem State.submit_recorder (c : Nat) (v : ValueSlot) :
    (s.submit c v).recorder = s.recorder := rfl
@[simp] theorem State.submit_config (c : Nat) (v : ValueSlot) : (s.submit c v).config = s.config := rfl
@[simp] theorem State.submit_store (c : Nat) (v : ValueSlot) : (s.submit c v).store = s.store := rfl
@[simp] theorem State.submit_arbiter (c : Nat) (v : ValueSlot) :
    (s.submit c v).arbiter = s.arbiter := rfl
@[simp] theorem State.submit_links (c : Nat) (v : ValueSlot) : (s.submit c v).links = s.links := rfl
@[simp] theorem State.submit_attention (c : Nat) (v : ValueSlot) :
    (s.submit c v).attention = s.attention := rfl
@[simp] theorem State.submit_supply (c : Nat) (v : ValueSlot) : (s.submit c v).supply = s.supply := rfl
@[simp] theorem State.submit_freeDraws (c : Nat) (v : ValueSlot) :
    (s.submit c v).freeDraws = s.freeDraws := rfl
@[simp] theorem State.submit_pending (c : Nat) (v : ValueSlot) :
    (s.submit c v).pending = s.pending := rfl

/-! ### State.signal -/

@[simp] theorem State.signal_time (k : Nat) (v : LinkSlot) : (s.signal k v).time = s.time := rfl
@[simp] theorem State.signal_scan (k : Nat) (v : LinkSlot) : (s.signal k v).scan = s.scan := rfl
@[simp] theorem State.signal_sec (k : Nat) (v : LinkSlot) : (s.signal k v).sec = s.sec := rfl
@[simp] theorem State.signal_pins (k : Nat) (v : LinkSlot) : (s.signal k v).pins = s.pins := rfl
@[simp] theorem State.signal_norm (k : Nat) (v : LinkSlot) : (s.signal k v).norm = s.norm := rfl
@[simp] theorem State.signal_recorder (k : Nat) (v : LinkSlot) :
    (s.signal k v).recorder = s.recorder := rfl
@[simp] theorem State.signal_config (k : Nat) (v : LinkSlot) : (s.signal k v).config = s.config := rfl
@[simp] theorem State.signal_store (k : Nat) (v : LinkSlot) : (s.signal k v).store = s.store := rfl
@[simp] theorem State.signal_arbiter (k : Nat) (v : LinkSlot) : (s.signal k v).arbiter = s.arbiter := rfl
@[simp] theorem State.signal_links (k : Nat) (v : LinkSlot) : (s.signal k v).links = s.links := rfl
@[simp] theorem State.signal_attention (k : Nat) (v : LinkSlot) :
    (s.signal k v).attention = s.attention := rfl
@[simp] theorem State.signal_supply (k : Nat) (v : LinkSlot) : (s.signal k v).supply = s.supply := rfl
@[simp] theorem State.signal_freeDraws (k : Nat) (v : LinkSlot) :
    (s.signal k v).freeDraws = s.freeDraws := rfl
@[simp] theorem State.signal_pending (k : Nat) (v : LinkSlot) : (s.signal k v).pending = s.pending := rfl

/-! ### State.modSlot -/

@[simp] theorem State.modSlot_time (i : Nat) (f : TallySlot → TallySlot) :
    (s.modSlot i f).time = s.time := rfl
@[simp] theorem State.modSlot_scan (i : Nat) (f : TallySlot → TallySlot) :
    (s.modSlot i f).scan = s.scan := rfl
@[simp] theorem State.modSlot_sec (i : Nat) (f : TallySlot → TallySlot) :
    (s.modSlot i f).sec = s.sec := rfl
@[simp] theorem State.modSlot_stackUnits (i : Nat) (f : TallySlot → TallySlot) :
    (s.modSlot i f).stackUnits = s.stackUnits := rfl
@[simp] theorem State.modSlot_pins (i : Nat) (f : TallySlot → TallySlot) :
    (s.modSlot i f).pins = s.pins := rfl
@[simp] theorem State.modSlot_norm (i : Nat) (f : TallySlot → TallySlot) :
    (s.modSlot i f).norm = s.norm := rfl
@[simp] theorem State.modSlot_config (i : Nat) (f : TallySlot → TallySlot) :
    (s.modSlot i f).config = s.config := rfl
@[simp] theorem State.modSlot_store (i : Nat) (f : TallySlot → TallySlot) :
    (s.modSlot i f).store = s.store := rfl
@[simp] theorem State.modSlot_arbiter (i : Nat) (f : TallySlot → TallySlot) :
    (s.modSlot i f).arbiter = s.arbiter := rfl
@[simp] theorem State.modSlot_links (i : Nat) (f : TallySlot → TallySlot) :
    (s.modSlot i f).links = s.links := rfl
@[simp] theorem State.modSlot_attention (i : Nat) (f : TallySlot → TallySlot) :
    (s.modSlot i f).attention = s.attention := rfl
@[simp] theorem State.modSlot_supply (i : Nat) (f : TallySlot → TallySlot) :
    (s.modSlot i f).supply = s.supply := rfl
@[simp] theorem State.modSlot_freeDraws (i : Nat) (f : TallySlot → TallySlot) :
    (s.modSlot i f).freeDraws = s.freeDraws := rfl
@[simp] theorem State.modSlot_pending (i : Nat) (f : TallySlot → TallySlot) :
    (s.modSlot i f).pending = s.pending := rfl

/-! ### State.bringToAccount -/

@[simp] theorem State.bringToAccount_time (i : Nat) : (s.bringToAccount i).time = s.time := rfl
@[simp] theorem State.bringToAccount_scan (i : Nat) : (s.bringToAccount i).scan = s.scan := rfl
@[simp] theorem State.bringToAccount_sec (i : Nat) : (s.bringToAccount i).sec = s.sec := rfl
@[simp] theorem State.bringToAccount_stackUnits (i : Nat) :
    (s.bringToAccount i).stackUnits = s.stackUnits := rfl
@[simp] theorem State.bringToAccount_pins (i : Nat) : (s.bringToAccount i).pins = s.pins := rfl
@[simp] theorem State.bringToAccount_norm (i : Nat) : (s.bringToAccount i).norm = s.norm := rfl
@[simp] theorem State.bringToAccount_config (i : Nat) : (s.bringToAccount i).config = s.config := rfl
@[simp] theorem State.bringToAccount_store (i : Nat) : (s.bringToAccount i).store = s.store := rfl
@[simp] theorem State.bringToAccount_arbiter (i : Nat) : (s.bringToAccount i).arbiter = s.arbiter := rfl
@[simp] theorem State.bringToAccount_links (i : Nat) : (s.bringToAccount i).links = s.links := rfl
@[simp] theorem State.bringToAccount_attention (i : Nat) :
    (s.bringToAccount i).attention = s.attention := rfl
@[simp] theorem State.bringToAccount_supply (i : Nat) : (s.bringToAccount i).supply = s.supply := rfl
@[simp] theorem State.bringToAccount_freeDraws (i : Nat) :
    (s.bringToAccount i).freeDraws = s.freeDraws := rfl
@[simp] theorem State.bringToAccount_pending (i : Nat) : (s.bringToAccount i).pending = s.pending := rfl

/-! ### State.addWork -/

@[simp] theorem State.addWork_time (w : RecorderWork) : (s.addWork w).time = s.time := rfl
@[simp] theorem State.addWork_scan (w : RecorderWork) : (s.addWork w).scan = s.scan := rfl
@[simp] theorem State.addWork_sec (w : RecorderWork) : (s.addWork w).sec = s.sec := rfl
@[simp] theorem State.addWork_stackUnits (w : RecorderWork) :
    (s.addWork w).stackUnits = s.stackUnits := rfl
@[simp] theorem State.addWork_pins (w : RecorderWork) : (s.addWork w).pins = s.pins := rfl
@[simp] theorem State.addWork_norm (w : RecorderWork) : (s.addWork w).norm = s.norm := rfl
@[simp] theorem State.addWork_config (w : RecorderWork) : (s.addWork w).config = s.config := rfl
@[simp] theorem State.addWork_store (w : RecorderWork) : (s.addWork w).store = s.store := rfl
@[simp] theorem State.addWork_arbiter (w : RecorderWork) : (s.addWork w).arbiter = s.arbiter := rfl
@[simp] theorem State.addWork_links (w : RecorderWork) : (s.addWork w).links = s.links := rfl
@[simp] theorem State.addWork_attention (w : RecorderWork) : (s.addWork w).attention = s.attention := rfl
@[simp] theorem State.addWork_supply (w : RecorderWork) : (s.addWork w).supply = s.supply := rfl
@[simp] theorem State.addWork_freeDraws (w : RecorderWork) : (s.addWork w).freeDraws = s.freeDraws := rfl
@[simp] theorem State.addWork_pending (w : RecorderWork) : (s.addWork w).pending = s.pending := rfl

/-! ### State.openSet -/

@[simp] theorem State.openSet_time (a : AccSet) : (s.openSet a).time = s.time := rfl
@[simp] theorem State.openSet_scan (a : AccSet) : (s.openSet a).scan = s.scan := rfl
@[simp] theorem State.openSet_sec (a : AccSet) : (s.openSet a).sec = s.sec := rfl
@[simp] theorem State.openSet_stackUnits (a : AccSet) : (s.openSet a).stackUnits = s.stackUnits := rfl
@[simp] theorem State.openSet_pins (a : AccSet) : (s.openSet a).pins = s.pins := rfl
@[simp] theorem State.openSet_norm (a : AccSet) : (s.openSet a).norm = s.norm := rfl
@[simp] theorem State.openSet_config (a : AccSet) : (s.openSet a).config = s.config := rfl
@[simp] theorem State.openSet_store (a : AccSet) : (s.openSet a).store = s.store := rfl
@[simp] theorem State.openSet_arbiter (a : AccSet) : (s.openSet a).arbiter = s.arbiter := rfl
@[simp] theorem State.openSet_links (a : AccSet) : (s.openSet a).links = s.links := rfl
@[simp] theorem State.openSet_attention (a : AccSet) : (s.openSet a).attention = s.attention := rfl
@[simp] theorem State.openSet_supply (a : AccSet) : (s.openSet a).supply = s.supply := rfl
@[simp] theorem State.openSet_freeDraws (a : AccSet) : (s.openSet a).freeDraws = s.freeDraws := rfl
@[simp] theorem State.openSet_pending (a : AccSet) : (s.openSet a).pending = s.pending := rfl

/-! ### State.joinDay -/

@[simp] theorem State.joinDay_time (d : Nat) : (s.joinDay d).time = s.time := rfl
@[simp] theorem State.joinDay_scan (d : Nat) : (s.joinDay d).scan = s.scan := rfl
@[simp] theorem State.joinDay_sec (d : Nat) : (s.joinDay d).sec = s.sec := rfl
@[simp] theorem State.joinDay_stackUnits (d : Nat) : (s.joinDay d).stackUnits = s.stackUnits := rfl
@[simp] theorem State.joinDay_pins (d : Nat) : (s.joinDay d).pins = s.pins := rfl
@[simp] theorem State.joinDay_norm (d : Nat) : (s.joinDay d).norm = s.norm := rfl
@[simp] theorem State.joinDay_config (d : Nat) : (s.joinDay d).config = s.config := rfl
@[simp] theorem State.joinDay_store (d : Nat) : (s.joinDay d).store = s.store := rfl
@[simp] theorem State.joinDay_arbiter (d : Nat) : (s.joinDay d).arbiter = s.arbiter := rfl
@[simp] theorem State.joinDay_links (d : Nat) : (s.joinDay d).links = s.links := rfl
@[simp] theorem State.joinDay_attention (d : Nat) : (s.joinDay d).attention = s.attention := rfl
@[simp] theorem State.joinDay_supply (d : Nat) : (s.joinDay d).supply = s.supply := rfl
@[simp] theorem State.joinDay_freeDraws (d : Nat) : (s.joinDay d).freeDraws = s.freeDraws := rfl
@[simp] theorem State.joinDay_pending (d : Nat) : (s.joinDay d).pending = s.pending := rfl

/-! ### State.dequeue -/

@[simp] theorem State.dequeue_time : (s.dequeue).time = s.time := rfl
@[simp] theorem State.dequeue_scan : (s.dequeue).scan = s.scan := rfl
@[simp] theorem State.dequeue_sec : (s.dequeue).sec = s.sec := rfl
@[simp] theorem State.dequeue_stackUnits : (s.dequeue).stackUnits = s.stackUnits := rfl
@[simp] theorem State.dequeue_pins : (s.dequeue).pins = s.pins := rfl
@[simp] theorem State.dequeue_norm : (s.dequeue).norm = s.norm := rfl
@[simp] theorem State.dequeue_config : (s.dequeue).config = s.config := rfl
@[simp] theorem State.dequeue_store : (s.dequeue).store = s.store := rfl
@[simp] theorem State.dequeue_arbiter : (s.dequeue).arbiter = s.arbiter := rfl
@[simp] theorem State.dequeue_links : (s.dequeue).links = s.links := rfl
@[simp] theorem State.dequeue_attention : (s.dequeue).attention = s.attention := rfl
@[simp] theorem State.dequeue_supply : (s.dequeue).supply = s.supply := rfl
@[simp] theorem State.dequeue_freeDraws : (s.dequeue).freeDraws = s.freeDraws := rfl
@[simp] theorem State.dequeue_pending : (s.dequeue).pending = s.pending := rfl

/-! ### State.moveContribution -/

@[simp] theorem State.moveContribution_time (o n : IntervalRec) :
    (s.moveContribution o n).time = s.time := rfl
@[simp] theorem State.moveContribution_scan (o n : IntervalRec) :
    (s.moveContribution o n).scan = s.scan := rfl
@[simp] theorem State.moveContribution_sec (o n : IntervalRec) :
    (s.moveContribution o n).sec = s.sec := rfl
@[simp] theorem State.moveContribution_stackUnits (o n : IntervalRec) :
    (s.moveContribution o n).stackUnits = s.stackUnits := rfl
@[simp] theorem State.moveContribution_pins (o n : IntervalRec) :
    (s.moveContribution o n).pins = s.pins := rfl
@[simp] theorem State.moveContribution_norm (o n : IntervalRec) :
    (s.moveContribution o n).norm = s.norm := rfl
@[simp] theorem State.moveContribution_config (o n : IntervalRec) :
    (s.moveContribution o n).config = s.config := rfl
@[simp] theorem State.moveContribution_store (o n : IntervalRec) :
    (s.moveContribution o n).store = s.store := rfl
@[simp] theorem State.moveContribution_arbiter (o n : IntervalRec) :
    (s.moveContribution o n).arbiter = s.arbiter := rfl
@[simp] theorem State.moveContribution_links (o n : IntervalRec) :
    (s.moveContribution o n).links = s.links := rfl
@[simp] theorem State.moveContribution_attention (o n : IntervalRec) :
    (s.moveContribution o n).attention = s.attention := rfl
@[simp] theorem State.moveContribution_supply (o n : IntervalRec) :
    (s.moveContribution o n).supply = s.supply := rfl
@[simp] theorem State.moveContribution_freeDraws (o n : IntervalRec) :
    (s.moveContribution o n).freeDraws = s.freeDraws := rfl
@[simp] theorem State.moveContribution_pending (o n : IntervalRec) :
    (s.moveContribution o n).pending = s.pending := rfl

/-! ### State.programArea -/

@[simp] theorem State.programArea_time (f : ConfigArea → ConfigArea) :
    (s.programArea f).time = s.time := rfl
@[simp] theorem State.programArea_scan (f : ConfigArea → ConfigArea) :
    (s.programArea f).scan = s.scan := rfl
@[simp] theorem State.programArea_sec (f : ConfigArea → ConfigArea) :
    (s.programArea f).sec = s.sec := rfl
@[simp] theorem State.programArea_stackUnits (f : ConfigArea → ConfigArea) :
    (s.programArea f).stackUnits = s.stackUnits := rfl
@[simp] theorem State.programArea_pins (f : ConfigArea → ConfigArea) :
    (s.programArea f).pins = s.pins := rfl
@[simp] theorem State.programArea_norm (f : ConfigArea → ConfigArea) :
    (s.programArea f).norm = s.norm := rfl
@[simp] theorem State.programArea_recorder (f : ConfigArea → ConfigArea) :
    (s.programArea f).recorder = s.recorder := rfl
@[simp] theorem State.programArea_config (f : ConfigArea → ConfigArea) :
    (s.programArea f).config = s.config := rfl
@[simp] theorem State.programArea_arbiter (f : ConfigArea → ConfigArea) :
    (s.programArea f).arbiter = s.arbiter := rfl
@[simp] theorem State.programArea_links (f : ConfigArea → ConfigArea) :
    (s.programArea f).links = s.links := rfl
@[simp] theorem State.programArea_attention (f : ConfigArea → ConfigArea) :
    (s.programArea f).attention = s.attention := rfl
@[simp] theorem State.programArea_supply (f : ConfigArea → ConfigArea) :
    (s.programArea f).supply = s.supply := rfl
@[simp] theorem State.programArea_freeDraws (f : ConfigArea → ConfigArea) :
    (s.programArea f).freeDraws = s.freeDraws := rfl
@[simp] theorem State.programArea_pending (f : ConfigArea → ConfigArea) :
    (s.programArea f).pending = s.pending := rfl

/-! ### State.swapArea -/

@[simp] theorem State.swapArea_time : (s.swapArea).time = s.time := rfl
@[simp] theorem State.swapArea_scan : (s.swapArea).scan = s.scan := rfl
@[simp] theorem State.swapArea_sec : (s.swapArea).sec = s.sec := rfl
@[simp] theorem State.swapArea_stackUnits : (s.swapArea).stackUnits = s.stackUnits := rfl
@[simp] theorem State.swapArea_pins : (s.swapArea).pins = s.pins := rfl
@[simp] theorem State.swapArea_norm : (s.swapArea).norm = s.norm := rfl
@[simp] theorem State.swapArea_recorder : (s.swapArea).recorder = s.recorder := rfl
@[simp] theorem State.swapArea_config : (s.swapArea).config = s.config := rfl
@[simp] theorem State.swapArea_arbiter : (s.swapArea).arbiter = s.arbiter := rfl
@[simp] theorem State.swapArea_links : (s.swapArea).links = s.links := rfl
@[simp] theorem State.swapArea_attention : (s.swapArea).attention = s.attention := rfl
@[simp] theorem State.swapArea_supply : (s.swapArea).supply = s.supply := rfl
@[simp] theorem State.swapArea_freeDraws : (s.swapArea).freeDraws = s.freeDraws := rfl
@[simp] theorem State.swapArea_pending : (s.swapArea).pending = s.pending := rfl

/-! ### State.programImage -/

@[simp] theorem State.programImage_time (i : Nat) (t : TallySlot) :
    (s.programImage i t).time = s.time := rfl
@[simp] theorem State.programImage_scan (i : Nat) (t : TallySlot) :
    (s.programImage i t).scan = s.scan := rfl
@[simp] theorem State.programImage_sec (i : Nat) (t : TallySlot) :
    (s.programImage i t).sec = s.sec := rfl
@[simp] theorem State.programImage_stackUnits (i : Nat) (t : TallySlot) :
    (s.programImage i t).stackUnits = s.stackUnits := rfl
@[simp] theorem State.programImage_pins (i : Nat) (t : TallySlot) :
    (s.programImage i t).pins = s.pins := rfl
@[simp] theorem State.programImage_norm (i : Nat) (t : TallySlot) :
    (s.programImage i t).norm = s.norm := rfl
@[simp] theorem State.programImage_recorder (i : Nat) (t : TallySlot) :
    (s.programImage i t).recorder = s.recorder := rfl
@[simp] theorem State.programImage_config (i : Nat) (t : TallySlot) :
    (s.programImage i t).config = s.config := rfl
@[simp] theorem State.programImage_arbiter (i : Nat) (t : TallySlot) :
    (s.programImage i t).arbiter = s.arbiter := rfl
@[simp] theorem State.programImage_links (i : Nat) (t : TallySlot) :
    (s.programImage i t).links = s.links := rfl
@[simp] theorem State.programImage_attention (i : Nat) (t : TallySlot) :
    (s.programImage i t).attention = s.attention := rfl
@[simp] theorem State.programImage_supply (i : Nat) (t : TallySlot) :
    (s.programImage i t).supply = s.supply := rfl
@[simp] theorem State.programImage_freeDraws (i : Nat) (t : TallySlot) :
    (s.programImage i t).freeDraws = s.freeDraws := rfl
@[simp] theorem State.programImage_pending (i : Nat) (t : TallySlot) :
    (s.programImage i t).pending = s.pending := rfl

/-! ### State.programRewrite -/

@[simp] theorem State.programRewrite_time (q : Nat) (n : IntervalRec) :
    (s.programRewrite q n).time = s.time := rfl
@[simp] theorem State.programRewrite_scan (q : Nat) (n : IntervalRec) :
    (s.programRewrite q n).scan = s.scan := rfl
@[simp] theorem State.programRewrite_sec (q : Nat) (n : IntervalRec) :
    (s.programRewrite q n).sec = s.sec := rfl
@[simp] theorem State.programRewrite_stackUnits (q : Nat) (n : IntervalRec) :
    (s.programRewrite q n).stackUnits = s.stackUnits := rfl
@[simp] theorem State.programRewrite_pins (q : Nat) (n : IntervalRec) :
    (s.programRewrite q n).pins = s.pins := rfl
@[simp] theorem State.programRewrite_norm (q : Nat) (n : IntervalRec) :
    (s.programRewrite q n).norm = s.norm := rfl
@[simp] theorem State.programRewrite_recorder (q : Nat) (n : IntervalRec) :
    (s.programRewrite q n).recorder = s.recorder := rfl
@[simp] theorem State.programRewrite_config (q : Nat) (n : IntervalRec) :
    (s.programRewrite q n).config = s.config := rfl
@[simp] theorem State.programRewrite_arbiter (q : Nat) (n : IntervalRec) :
    (s.programRewrite q n).arbiter = s.arbiter := rfl
@[simp] theorem State.programRewrite_links (q : Nat) (n : IntervalRec) :
    (s.programRewrite q n).links = s.links := rfl
@[simp] theorem State.programRewrite_attention (q : Nat) (n : IntervalRec) :
    (s.programRewrite q n).attention = s.attention := rfl
@[simp] theorem State.programRewrite_supply (q : Nat) (n : IntervalRec) :
    (s.programRewrite q n).supply = s.supply := rfl
@[simp] theorem State.programRewrite_freeDraws (q : Nat) (n : IntervalRec) :
    (s.programRewrite q n).freeDraws = s.freeDraws := rfl
@[simp] theorem State.programRewrite_pending (q : Nat) (n : IntervalRec) :
    (s.programRewrite q n).pending = s.pending := rfl

/-! ### State.replaceImage -/

@[simp] theorem State.replaceImage_time (q : Nat) (o n : IntervalRec) :
    (s.replaceImage q o n).time = s.time := rfl
@[simp] theorem State.replaceImage_scan (q : Nat) (o n : IntervalRec) :
    (s.replaceImage q o n).scan = s.scan := rfl
@[simp] theorem State.replaceImage_sec (q : Nat) (o n : IntervalRec) :
    (s.replaceImage q o n).sec = s.sec := rfl
@[simp] theorem State.replaceImage_stackUnits (q : Nat) (o n : IntervalRec) :
    (s.replaceImage q o n).stackUnits = s.stackUnits := rfl
@[simp] theorem State.replaceImage_pins (q : Nat) (o n : IntervalRec) :
    (s.replaceImage q o n).pins = s.pins := rfl
@[simp] theorem State.replaceImage_norm (q : Nat) (o n : IntervalRec) :
    (s.replaceImage q o n).norm = s.norm := rfl
@[simp] theorem State.replaceImage_recorder (q : Nat) (o n : IntervalRec) :
    (s.replaceImage q o n).recorder = s.recorder := rfl
@[simp] theorem State.replaceImage_config (q : Nat) (o n : IntervalRec) :
    (s.replaceImage q o n).config = s.config := rfl
@[simp] theorem State.replaceImage_arbiter (q : Nat) (o n : IntervalRec) :
    (s.replaceImage q o n).arbiter = s.arbiter := rfl
@[simp] theorem State.replaceImage_links (q : Nat) (o n : IntervalRec) :
    (s.replaceImage q o n).links = s.links := rfl
@[simp] theorem State.replaceImage_attention (q : Nat) (o n : IntervalRec) :
    (s.replaceImage q o n).attention = s.attention := rfl
@[simp] theorem State.replaceImage_supply (q : Nat) (o n : IntervalRec) :
    (s.replaceImage q o n).supply = s.supply := rfl
@[simp] theorem State.replaceImage_freeDraws (q : Nat) (o n : IntervalRec) :
    (s.replaceImage q o n).freeDraws = s.freeDraws := rfl
@[simp] theorem State.replaceImage_pending (q : Nat) (o n : IntervalRec) :
    (s.replaceImage q o n).pending = s.pending := rfl

/-! ### State.putImage -/

@[simp] theorem State.putImage_time (i : Nat) (t : TallySlot) : (s.putImage i t).time = s.time := rfl
@[simp] theorem State.putImage_scan (i : Nat) (t : TallySlot) : (s.putImage i t).scan = s.scan := rfl
@[simp] theorem State.putImage_sec (i : Nat) (t : TallySlot) : (s.putImage i t).sec = s.sec := rfl
@[simp] theorem State.putImage_stackUnits (i : Nat) (t : TallySlot) :
    (s.putImage i t).stackUnits = s.stackUnits := rfl
@[simp] theorem State.putImage_pins (i : Nat) (t : TallySlot) : (s.putImage i t).pins = s.pins := rfl
@[simp] theorem State.putImage_norm (i : Nat) (t : TallySlot) : (s.putImage i t).norm = s.norm := rfl
@[simp] theorem State.putImage_recorder (i : Nat) (t : TallySlot) :
    (s.putImage i t).recorder = s.recorder := rfl
@[simp] theorem State.putImage_config (i : Nat) (t : TallySlot) :
    (s.putImage i t).config = s.config := rfl
@[simp] theorem State.putImage_arbiter (i : Nat) (t : TallySlot) :
    (s.putImage i t).arbiter = s.arbiter := rfl
@[simp] theorem State.putImage_links (i : Nat) (t : TallySlot) : (s.putImage i t).links = s.links := rfl
@[simp] theorem State.putImage_attention (i : Nat) (t : TallySlot) :
    (s.putImage i t).attention = s.attention := rfl
@[simp] theorem State.putImage_supply (i : Nat) (t : TallySlot) :
    (s.putImage i t).supply = s.supply := rfl
@[simp] theorem State.putImage_freeDraws (i : Nat) (t : TallySlot) :
    (s.putImage i t).freeDraws = s.freeDraws := rfl
@[simp] theorem State.putImage_pending (i : Nat) (t : TallySlot) :
    (s.putImage i t).pending = s.pending := rfl

/-! ### State.adopt -/

@[simp] theorem State.adopt_time (n : Tables) : (s.adopt n).time = s.time := rfl
@[simp] theorem State.adopt_scan (n : Tables) : (s.adopt n).scan = s.scan := rfl
@[simp] theorem State.adopt_sec (n : Tables) : (s.adopt n).sec = s.sec := rfl
@[simp] theorem State.adopt_stackUnits (n : Tables) : (s.adopt n).stackUnits = s.stackUnits := rfl
@[simp] theorem State.adopt_pins (n : Tables) : (s.adopt n).pins = s.pins := rfl
@[simp] theorem State.adopt_norm (n : Tables) : (s.adopt n).norm = s.norm := rfl
@[simp] theorem State.adopt_recorder (n : Tables) : (s.adopt n).recorder = s.recorder := rfl
@[simp] theorem State.adopt_store (n : Tables) : (s.adopt n).store = s.store := rfl
@[simp] theorem State.adopt_arbiter (n : Tables) : (s.adopt n).arbiter = s.arbiter := rfl
@[simp] theorem State.adopt_links (n : Tables) : (s.adopt n).links = s.links := rfl
@[simp] theorem State.adopt_attention (n : Tables) : (s.adopt n).attention = s.attention := rfl
@[simp] theorem State.adopt_supply (n : Tables) : (s.adopt n).supply = s.supply := rfl
@[simp] theorem State.adopt_freeDraws (n : Tables) : (s.adopt n).freeDraws = s.freeDraws := rfl
@[simp] theorem State.adopt_pending (n : Tables) : (s.adopt n).pending = s.pending := rfl

/-! ### State.changeOver -/

@[simp] theorem State.changeOver_time (o n : Tables) : (s.changeOver o n).time = s.time := rfl
@[simp] theorem State.changeOver_sec (o n : Tables) : (s.changeOver o n).sec = s.sec := rfl
@[simp] theorem State.changeOver_pins (o n : Tables) : (s.changeOver o n).pins = s.pins := rfl
@[simp] theorem State.changeOver_norm (o n : Tables) : (s.changeOver o n).norm = s.norm := rfl
@[simp] theorem State.changeOver_recorder (o n : Tables) :
    (s.changeOver o n).recorder = s.recorder := rfl
@[simp] theorem State.changeOver_config (o n : Tables) : (s.changeOver o n).config = s.config := rfl
@[simp] theorem State.changeOver_store (o n : Tables) : (s.changeOver o n).store = s.store := rfl
@[simp] theorem State.changeOver_arbiter (o n : Tables) : (s.changeOver o n).arbiter = s.arbiter := rfl
@[simp] theorem State.changeOver_links (o n : Tables) : (s.changeOver o n).links = s.links := rfl
@[simp] theorem State.changeOver_attention (o n : Tables) :
    (s.changeOver o n).attention = s.attention := rfl
@[simp] theorem State.changeOver_supply (o n : Tables) : (s.changeOver o n).supply = s.supply := rfl
@[simp] theorem State.changeOver_freeDraws (o n : Tables) :
    (s.changeOver o n).freeDraws = s.freeDraws := rfl
@[simp] theorem State.changeOver_pending (o n : Tables) : (s.changeOver o n).pending = s.pending := rfl

/-! ### State.setMode -/

@[simp] theorem State.setMode_time (m : Mode) : (s.setMode m).time = s.time := rfl
@[simp] theorem State.setMode_scan (m : Mode) : (s.setMode m).scan = s.scan := rfl
@[simp] theorem State.setMode_sec (m : Mode) : (s.setMode m).sec = s.sec := rfl
@[simp] theorem State.setMode_stackUnits (m : Mode) : (s.setMode m).stackUnits = s.stackUnits := rfl
@[simp] theorem State.setMode_pins (m : Mode) : (s.setMode m).pins = s.pins := rfl
@[simp] theorem State.setMode_norm (m : Mode) : (s.setMode m).norm = s.norm := rfl
@[simp] theorem State.setMode_recorder (m : Mode) : (s.setMode m).recorder = s.recorder := rfl
@[simp] theorem State.setMode_config (m : Mode) : (s.setMode m).config = s.config := rfl
@[simp] theorem State.setMode_store (m : Mode) : (s.setMode m).store = s.store := rfl
@[simp] theorem State.setMode_arbiter (m : Mode) : (s.setMode m).arbiter = s.arbiter := rfl
@[simp] theorem State.setMode_links (m : Mode) : (s.setMode m).links = s.links := rfl
@[simp] theorem State.setMode_attention (m : Mode) : (s.setMode m).attention = s.attention := rfl
@[simp] theorem State.setMode_freeDraws (m : Mode) : (s.setMode m).freeDraws = s.freeDraws := rfl
@[simp] theorem State.setMode_pending (m : Mode) : (s.setMode m).pending = s.pending := rfl

/-! ### State.enterRecording -/

@[simp] theorem State.enterRecording_time : (s.enterRecording).time = s.time := rfl
@[simp] theorem State.enterRecording_scan : (s.enterRecording).scan = s.scan := rfl
@[simp] theorem State.enterRecording_sec : (s.enterRecording).sec = s.sec := rfl
@[simp] theorem State.enterRecording_stackUnits : (s.enterRecording).stackUnits = s.stackUnits := rfl
@[simp] theorem State.enterRecording_pins : (s.enterRecording).pins = s.pins := rfl
@[simp] theorem State.enterRecording_norm : (s.enterRecording).norm = s.norm := rfl
@[simp] theorem State.enterRecording_recorder : (s.enterRecording).recorder = s.recorder := rfl
@[simp] theorem State.enterRecording_config : (s.enterRecording).config = s.config := rfl
@[simp] theorem State.enterRecording_store : (s.enterRecording).store = s.store := rfl
@[simp] theorem State.enterRecording_arbiter : (s.enterRecording).arbiter = s.arbiter := rfl
@[simp] theorem State.enterRecording_links : (s.enterRecording).links = s.links := rfl
@[simp] theorem State.enterRecording_attention : (s.enterRecording).attention = s.attention := rfl
@[simp] theorem State.enterRecording_freeDraws : (s.enterRecording).freeDraws = s.freeDraws := rfl
@[simp] theorem State.enterRecording_pending : (s.enterRecording).pending = s.pending := rfl

/-! ### State.enterHalt -/

@[simp] theorem State.enterHalt_time : (s.enterHalt).time = s.time := rfl
@[simp] theorem State.enterHalt_scan : (s.enterHalt).scan = s.scan := rfl
@[simp] theorem State.enterHalt_sec : (s.enterHalt).sec = s.sec := rfl
@[simp] theorem State.enterHalt_stackUnits : (s.enterHalt).stackUnits = s.stackUnits := rfl
@[simp] theorem State.enterHalt_pins : (s.enterHalt).pins = s.pins := rfl
@[simp] theorem State.enterHalt_norm : (s.enterHalt).norm = s.norm := rfl
@[simp] theorem State.enterHalt_recorder : (s.enterHalt).recorder = s.recorder := rfl
@[simp] theorem State.enterHalt_config : (s.enterHalt).config = s.config := rfl
@[simp] theorem State.enterHalt_store : (s.enterHalt).store = s.store := rfl
@[simp] theorem State.enterHalt_arbiter : (s.enterHalt).arbiter = s.arbiter := rfl
@[simp] theorem State.enterHalt_links : (s.enterHalt).links = s.links := rfl
@[simp] theorem State.enterHalt_attention : (s.enterHalt).attention = s.attention := rfl
@[simp] theorem State.enterHalt_freeDraws : (s.enterHalt).freeDraws = s.freeDraws := rfl
@[simp] theorem State.enterHalt_pending : (s.enterHalt).pending = s.pending := rfl

/-! ### State.silence -/

@[simp] theorem State.silence_time : (s.silence).time = s.time := rfl
@[simp] theorem State.silence_scan : (s.silence).scan = s.scan := rfl
@[simp] theorem State.silence_sec : (s.silence).sec = s.sec := rfl
@[simp] theorem State.silence_stackUnits : (s.silence).stackUnits = s.stackUnits := rfl
@[simp] theorem State.silence_pins : (s.silence).pins = s.pins := rfl
@[simp] theorem State.silence_norm : (s.silence).norm = s.norm := rfl
@[simp] theorem State.silence_recorder : (s.silence).recorder = s.recorder := rfl
@[simp] theorem State.silence_config : (s.silence).config = s.config := rfl
@[simp] theorem State.silence_store : (s.silence).store = s.store := rfl
@[simp] theorem State.silence_supply : (s.silence).supply = s.supply := rfl
@[simp] theorem State.silence_freeDraws : (s.silence).freeDraws = s.freeDraws := rfl
@[simp] theorem State.silence_pending : (s.silence).pending = s.pending := rfl

/-! ### State.leaveStarting -/

@[simp] theorem State.leaveStarting_time : (s.leaveStarting).time = s.time := rfl
@[simp] theorem State.leaveStarting_stackUnits : (s.leaveStarting).stackUnits = s.stackUnits := rfl
@[simp] theorem State.leaveStarting_pins : (s.leaveStarting).pins = s.pins := rfl
@[simp] theorem State.leaveStarting_norm : (s.leaveStarting).norm = s.norm := rfl
@[simp] theorem State.leaveStarting_recorder : (s.leaveStarting).recorder = s.recorder := rfl
@[simp] theorem State.leaveStarting_config : (s.leaveStarting).config = s.config := rfl
@[simp] theorem State.leaveStarting_store : (s.leaveStarting).store = s.store := rfl
@[simp] theorem State.leaveStarting_arbiter : (s.leaveStarting).arbiter = s.arbiter := rfl
@[simp] theorem State.leaveStarting_links : (s.leaveStarting).links = s.links := rfl
@[simp] theorem State.leaveStarting_attention : (s.leaveStarting).attention = s.attention := rfl
@[simp] theorem State.leaveStarting_freeDraws : (s.leaveStarting).freeDraws = s.freeDraws := rfl
@[simp] theorem State.leaveStarting_pending : (s.leaveStarting).pending = s.pending := rfl

/-! ### What they set -/

theorem State.modPort_port_same (l : Link) (f : LinkPort → LinkPort) :
    (s.modPort l f).port l = f (s.port l) := by cases l <;> rfl

theorem State.modPort_port_other {l m : Link} (h : m ≠ l) (f : LinkPort → LinkPort) :
    (s.modPort l f).port m = s.port m := by
  cases l <;> cases m <;> first | rfl | exact absurd rfl h

theorem State.dropGrant_grant : s.dropGrant.arbiter.grant = none := rfl
theorem State.putMarks_marks (m : Marks) : (s.putMarks m).links.marks = m := rfl
theorem State.setMode_mode (m : Mode) : (s.setMode m).supply.mode = m := rfl
theorem State.addWork_work (w : RecorderWork) :
    (s.addWork w).recorder.work = s.recorder.work ++ [w] := rfl
theorem State.openSet_accSets (a : AccSet) :
    (s.openSet a).recorder.accSets = s.recorder.accSets ++ [a] := rfl
theorem State.beginSecond_sec : s.beginSecond.sec =
    { processed := true, mode := s.supply.mode, cfg := s.config.active,
      lockHeld := decide (s.scan.synth = .locked), nextSlot := 0, slotFloor := s.time.phase,
      sampleFormed := false, sampled := false, held := none, checkWaits := none,
      sampleWaits := none, before := .nothing } := rfl
theorem State.swapArea_area : s.swapArea.store.area = s.store.areaSpare := rfl
theorem State.programArea_areaSpare (f : ConfigArea → ConfigArea) :
    (s.programArea f).store.areaSpare = s.areaImage f := rfl
theorem State.passHeld_of_none {s : State} (h : s.sec.held = none) : s.passHeld = s := by
  unfold State.passHeld
  rw [h]
/-- Nothing but the change-over is made of a boundary that waits, where the write is none of WITHDRAW. -/
theorem State.meetMeanwhile_of_other {s : State} {b : HeldBoundary}
    (h : s.finishChangeOver.transferMeanwhile b = false) : s.meetMeanwhile b = s.finishChangeOver := by
  unfold State.meetMeanwhile
  simp [h]
theorem State.meet_of_free {s : State} (h : s.boundaryWaits = false) (b : HeldBoundary) :
    s.meet b = (s.cross b).beginSecond := by
  unfold State.meet
  rw [h]
  rfl

/-! ### Flags on all links -/

theorem State.raiseAll_eq (f : FlagSet) : s.raiseAll f = { s with attention :=
    (s.raiseAll f).attention } := by
  unfold State.raiseAll
  split <;> rfl


/-! ### State.raiseAll, by cases -/

@[simp] theorem State.raiseAll_time (f : FlagSet) :
    (s.raiseAll f).time = s.time := by unfold State.raiseAll; split <;> rfl
@[simp] theorem State.raiseAll_scan (f : FlagSet) :
    (s.raiseAll f).scan = s.scan := by unfold State.raiseAll; split <;> rfl
@[simp] theorem State.raiseAll_sec (f : FlagSet) :
    (s.raiseAll f).sec = s.sec := by unfold State.raiseAll; split <;> rfl
@[simp] theorem State.raiseAll_stackUnits (f : FlagSet) :
    (s.raiseAll f).stackUnits = s.stackUnits := by unfold State.raiseAll; split <;> rfl
@[simp] theorem State.raiseAll_pins (f : FlagSet) :
    (s.raiseAll f).pins = s.pins := by unfold State.raiseAll; split <;> rfl
@[simp] theorem State.raiseAll_norm (f : FlagSet) :
    (s.raiseAll f).norm = s.norm := by unfold State.raiseAll; split <;> rfl
@[simp] theorem State.raiseAll_recorder (f : FlagSet) :
    (s.raiseAll f).recorder = s.recorder := by unfold State.raiseAll; split <;> rfl
@[simp] theorem State.raiseAll_config (f : FlagSet) :
    (s.raiseAll f).config = s.config := by unfold State.raiseAll; split <;> rfl
@[simp] theorem State.raiseAll_store (f : FlagSet) :
    (s.raiseAll f).store = s.store := by unfold State.raiseAll; split <;> rfl
@[simp] theorem State.raiseAll_arbiter (f : FlagSet) :
    (s.raiseAll f).arbiter = s.arbiter := by unfold State.raiseAll; split <;> rfl
@[simp] theorem State.raiseAll_links (f : FlagSet) :
    (s.raiseAll f).links = s.links := by unfold State.raiseAll; split <;> rfl
@[simp] theorem State.raiseAll_supply (f : FlagSet) :
    (s.raiseAll f).supply = s.supply := by unfold State.raiseAll; split <;> rfl
@[simp] theorem State.raiseAll_freeDraws (f : FlagSet) :
    (s.raiseAll f).freeDraws = s.freeDraws := by unfold State.raiseAll; split <;> rfl
@[simp] theorem State.raiseAll_pending (f : FlagSet) :
    (s.raiseAll f).pending = s.pending := by unfold State.raiseAll; split <;> rfl

/-! ### State.offer, by cases -/

@[simp] theorem State.offer_time (x : QueueItem) :
    (s.offer x).time = s.time := by
  unfold State.offer; split
  · rfl
  · simp
@[simp] theorem State.offer_scan (x : QueueItem) :
    (s.offer x).scan = s.scan := by
  unfold State.offer; split
  · rfl
  · simp
@[simp] theorem State.offer_sec (x : QueueItem) :
    (s.offer x).sec = s.sec := by
  unfold State.offer; split
  · rfl
  · simp
@[simp] theorem State.offer_stackUnits (x : QueueItem) :
    (s.offer x).stackUnits = s.stackUnits := by
  unfold State.offer; split
  · rfl
  · simp
@[simp] theorem State.offer_pins (x : QueueItem) :
    (s.offer x).pins = s.pins := by
  unfold State.offer; split
  · rfl
  · simp
@[simp] theorem State.offer_norm (x : QueueItem) :
    (s.offer x).norm = s.norm := by
  unfold State.offer; split
  · rfl
  · simp
@[simp] theorem State.offer_config (x : QueueItem) :
    (s.offer x).config = s.config := by
  unfold State.offer; split
  · rfl
  · simp
@[simp] theorem State.offer_store (x : QueueItem) :
    (s.offer x).store = s.store := by
  unfold State.offer; split
  · rfl
  · simp
@[simp] theorem State.offer_arbiter (x : QueueItem) :
    (s.offer x).arbiter = s.arbiter := by
  unfold State.offer; split
  · rfl
  · simp
@[simp] theorem State.offer_links (x : QueueItem) :
    (s.offer x).links = s.links := by
  unfold State.offer; split
  · rfl
  · simp
@[simp] theorem State.offer_supply (x : QueueItem) :
    (s.offer x).supply = s.supply := by
  unfold State.offer; split
  · rfl
  · simp
@[simp] theorem State.offer_freeDraws (x : QueueItem) :
    (s.offer x).freeDraws = s.freeDraws := by
  unfold State.offer; split
  · rfl
  · simp
@[simp] theorem State.offer_pending (x : QueueItem) :
    (s.offer x).pending = s.pending := by
  unfold State.offer; split
  · rfl
  · simp

/-! ### State.writeEvent, by cases -/

@[simp] theorem State.writeEvent_time (e : EventRec) :
    (s.writeEvent e).time = s.time := by
  unfold State.writeEvent; split <;> simp
@[simp] theorem State.writeEvent_scan (e : EventRec) :
    (s.writeEvent e).scan = s.scan := by
  unfold State.writeEvent; split <;> simp
@[simp] theorem State.writeEvent_sec (e : EventRec) :
    (s.writeEvent e).sec = s.sec := by
  unfold State.writeEvent; split <;> simp
@[simp] theorem State.writeEvent_stackUnits (e : EventRec) :
    (s.writeEvent e).stackUnits = s.stackUnits := by
  unfold State.writeEvent; split <;> simp
@[simp] theorem State.writeEvent_pins (e : EventRec) :
    (s.writeEvent e).pins = s.pins := by
  unfold State.writeEvent; split <;> simp
@[simp] theorem State.writeEvent_norm (e : EventRec) :
    (s.writeEvent e).norm = s.norm := by
  unfold State.writeEvent; split <;> simp
@[simp] theorem State.writeEvent_config (e : EventRec) :
    (s.writeEvent e).config = s.config := by
  unfold State.writeEvent; split <;> simp
@[simp] theorem State.writeEvent_store (e : EventRec) :
    (s.writeEvent e).store = s.store := by
  unfold State.writeEvent; split <;> simp
@[simp] theorem State.writeEvent_arbiter (e : EventRec) :
    (s.writeEvent e).arbiter = s.arbiter := by
  unfold State.writeEvent; split <;> simp
@[simp] theorem State.writeEvent_links (e : EventRec) :
    (s.writeEvent e).links = s.links := by
  unfold State.writeEvent; split <;> simp
@[simp] theorem State.writeEvent_supply (e : EventRec) :
    (s.writeEvent e).supply = s.supply := by
  unfold State.writeEvent; split <;> simp
@[simp] theorem State.writeEvent_freeDraws (e : EventRec) :
    (s.writeEvent e).freeDraws = s.freeDraws := by
  unfold State.writeEvent; split <;> simp
@[simp] theorem State.writeEvent_pending (e : EventRec) :
    (s.writeEvent e).pending = s.pending := by
  unfold State.writeEvent; split <;> simp

/-! ### State.note, by cases -/

@[simp] theorem State.note_time (k : EventKind) (t a : Nat) :
    (s.note k t a).time = s.time := State.writeEvent_time s _
@[simp] theorem State.note_scan (k : EventKind) (t a : Nat) :
    (s.note k t a).scan = s.scan := State.writeEvent_scan s _
@[simp] theorem State.note_sec (k : EventKind) (t a : Nat) :
    (s.note k t a).sec = s.sec := State.writeEvent_sec s _
@[simp] theorem State.note_stackUnits (k : EventKind) (t a : Nat) :
    (s.note k t a).stackUnits = s.stackUnits := State.writeEvent_stackUnits s _
@[simp] theorem State.note_pins (k : EventKind) (t a : Nat) :
    (s.note k t a).pins = s.pins := State.writeEvent_pins s _
@[simp] theorem State.note_norm (k : EventKind) (t a : Nat) :
    (s.note k t a).norm = s.norm := State.writeEvent_norm s _
@[simp] theorem State.note_config (k : EventKind) (t a : Nat) :
    (s.note k t a).config = s.config := State.writeEvent_config s _
@[simp] theorem State.note_store (k : EventKind) (t a : Nat) :
    (s.note k t a).store = s.store := State.writeEvent_store s _
@[simp] theorem State.note_arbiter (k : EventKind) (t a : Nat) :
    (s.note k t a).arbiter = s.arbiter := State.writeEvent_arbiter s _
@[simp] theorem State.note_links (k : EventKind) (t a : Nat) :
    (s.note k t a).links = s.links := State.writeEvent_links s _
@[simp] theorem State.note_supply (k : EventKind) (t a : Nat) :
    (s.note k t a).supply = s.supply := State.writeEvent_supply s _
@[simp] theorem State.note_freeDraws (k : EventKind) (t a : Nat) :
    (s.note k t a).freeDraws = s.freeDraws := State.writeEvent_freeDraws s _
@[simp] theorem State.note_pending (k : EventKind) (t a : Nat) :
    (s.note k t a).pending = s.pending := State.writeEvent_pending s _

/-! ### State.endOp, by cases -/

@[simp] theorem State.endOp_time (l : Link) (o : OpOutcome) (r : Option Reason) (i : Option Nat) (c : List Nat) :
    (s.endOp l o r i c).time = s.time := by
  unfold State.endOp; split <;> rfl
@[simp] theorem State.endOp_scan (l : Link) (o : OpOutcome) (r : Option Reason) (i : Option Nat) (c : List Nat) :
    (s.endOp l o r i c).scan = s.scan := by
  unfold State.endOp; split <;> rfl
@[simp] theorem State.endOp_sec (l : Link) (o : OpOutcome) (r : Option Reason) (i : Option Nat) (c : List Nat) :
    (s.endOp l o r i c).sec = s.sec := by
  unfold State.endOp; split <;> rfl
@[simp] theorem State.endOp_stackUnits (l : Link) (o : OpOutcome) (r : Option Reason) (i : Option Nat) (c : List Nat) :
    (s.endOp l o r i c).stackUnits = s.stackUnits := by
  unfold State.endOp; split <;> rfl
@[simp] theorem State.endOp_pins (l : Link) (o : OpOutcome) (r : Option Reason) (i : Option Nat) (c : List Nat) :
    (s.endOp l o r i c).pins = s.pins := by
  unfold State.endOp; split <;> rfl
@[simp] theorem State.endOp_norm (l : Link) (o : OpOutcome) (r : Option Reason) (i : Option Nat) (c : List Nat) :
    (s.endOp l o r i c).norm = s.norm := by
  unfold State.endOp; split <;> rfl
@[simp] theorem State.endOp_recorder (l : Link) (o : OpOutcome) (r : Option Reason) (i : Option Nat) (c : List Nat) :
    (s.endOp l o r i c).recorder = s.recorder := by
  unfold State.endOp; split <;> rfl
@[simp] theorem State.endOp_config (l : Link) (o : OpOutcome) (r : Option Reason) (i : Option Nat) (c : List Nat) :
    (s.endOp l o r i c).config = s.config := by
  unfold State.endOp; split <;> rfl
@[simp] theorem State.endOp_store (l : Link) (o : OpOutcome) (r : Option Reason) (i : Option Nat) (c : List Nat) :
    (s.endOp l o r i c).store = s.store := by
  unfold State.endOp; split <;> rfl
@[simp] theorem State.endOp_arbiter (l : Link) (o : OpOutcome) (r : Option Reason) (i : Option Nat) (c : List Nat) :
    (s.endOp l o r i c).arbiter = s.arbiter := by
  unfold State.endOp; split <;> rfl
@[simp] theorem State.endOp_supply (l : Link) (o : OpOutcome) (r : Option Reason) (i : Option Nat) (c : List Nat) :
    (s.endOp l o r i c).supply = s.supply := by
  unfold State.endOp; split <;> rfl
@[simp] theorem State.endOp_freeDraws (l : Link) (o : OpOutcome) (r : Option Reason) (i : Option Nat) (c : List Nat) :
    (s.endOp l o r i c).freeDraws = s.freeDraws := by
  unfold State.endOp; split <;> rfl
@[simp] theorem State.endOp_pending (l : Link) (o : OpOutcome) (r : Option Reason) (i : Option Nat) (c : List Nat) :
    (s.endOp l o r i c).pending = s.pending := by
  unfold State.endOp; split <;> rfl

/-! ### State.takeClaim, by cases -/

@[simp] theorem State.takeClaim_time (c : Claim) :
    (s.takeClaim c).time = s.time := by cases c <;> rfl
@[simp] theorem State.takeClaim_scan (c : Claim) :
    (s.takeClaim c).scan = s.scan := by cases c <;> rfl
@[simp] theorem State.takeClaim_sec (c : Claim) :
    (s.takeClaim c).sec = s.sec := by cases c <;> rfl
@[simp] theorem State.takeClaim_stackUnits (c : Claim) :
    (s.takeClaim c).stackUnits = s.stackUnits := by cases c <;> rfl
@[simp] theorem State.takeClaim_pins (c : Claim) :
    (s.takeClaim c).pins = s.pins := by cases c <;> rfl
@[simp] theorem State.takeClaim_norm (c : Claim) :
    (s.takeClaim c).norm = s.norm := by cases c <;> rfl
@[simp] theorem State.takeClaim_recorder (c : Claim) :
    (s.takeClaim c).recorder = s.recorder := by cases c <;> rfl
@[simp] theorem State.takeClaim_config (c : Claim) :
    (s.takeClaim c).config = s.config := by cases c <;> rfl
@[simp] theorem State.takeClaim_store (c : Claim) :
    (s.takeClaim c).store = s.store := by cases c <;> rfl
@[simp] theorem State.takeClaim_attention (c : Claim) :
    (s.takeClaim c).attention = s.attention := by cases c <;> rfl
@[simp] theorem State.takeClaim_supply (c : Claim) :
    (s.takeClaim c).supply = s.supply := by cases c <;> rfl
@[simp] theorem State.takeClaim_freeDraws (c : Claim) :
    (s.takeClaim c).freeDraws = s.freeDraws := by cases c <;> rfl
@[simp] theorem State.takeClaim_pending (c : Claim) :
    (s.takeClaim c).pending = s.pending := by cases c <;> rfl

/-! ### State.settle, by cases -/

@[simp] theorem State.settle_time :
    (s.settle).time = s.time := by
  unfold State.settle; split
  · split
    · rfl
    · exact State.takeClaim_time s _
  · rfl
@[simp] theorem State.settle_scan :
    (s.settle).scan = s.scan := by
  unfold State.settle; split
  · split
    · rfl
    · exact State.takeClaim_scan s _
  · rfl
@[simp] theorem State.settle_sec :
    (s.settle).sec = s.sec := by
  unfold State.settle; split
  · split
    · rfl
    · exact State.takeClaim_sec s _
  · rfl
@[simp] theorem State.settle_stackUnits :
    (s.settle).stackUnits = s.stackUnits := by
  unfold State.settle; split
  · split
    · rfl
    · exact State.takeClaim_stackUnits s _
  · rfl
@[simp] theorem State.settle_pins :
    (s.settle).pins = s.pins := by
  unfold State.settle; split
  · split
    · rfl
    · exact State.takeClaim_pins s _
  · rfl
@[simp] theorem State.settle_norm :
    (s.settle).norm = s.norm := by
  unfold State.settle; split
  · split
    · rfl
    · exact State.takeClaim_norm s _
  · rfl
@[simp] theorem State.settle_recorder :
    (s.settle).recorder = s.recorder := by
  unfold State.settle; split
  · split
    · rfl
    · exact State.takeClaim_recorder s _
  · rfl
@[simp] theorem State.settle_config :
    (s.settle).config = s.config := by
  unfold State.settle; split
  · split
    · rfl
    · exact State.takeClaim_config s _
  · rfl
@[simp] theorem State.settle_store :
    (s.settle).store = s.store := by
  unfold State.settle; split
  · split
    · rfl
    · exact State.takeClaim_store s _
  · rfl
@[simp] theorem State.settle_attention :
    (s.settle).attention = s.attention := by
  unfold State.settle; split
  · split
    · rfl
    · exact State.takeClaim_attention s _
  · rfl
@[simp] theorem State.settle_supply :
    (s.settle).supply = s.supply := by
  unfold State.settle; split
  · split
    · rfl
    · exact State.takeClaim_supply s _
  · rfl
@[simp] theorem State.settle_freeDraws :
    (s.settle).freeDraws = s.freeDraws := by
  unfold State.settle; split
  · split
    · rfl
    · exact State.takeClaim_freeDraws s _
  · rfl
@[simp] theorem State.settle_pending :
    (s.settle).pending = s.pending := by
  unfold State.settle; split
  · split
    · rfl
    · exact State.takeClaim_pending s _
  · rfl

end Sys2Proof.Machine
end

