-- ==== Sys2Proof/Laws/Ops.lean ====
section
/-! SUPPORT. What the shared operations can do, said once for each: deciding a frame, the grant at hand, and the
arbiter's next grant. -/

namespace Sys2Proof.Machine

/-! ### Frames -/

/-- A frame reaches row 7 of R167 exactly when its port takes it and no earlier row refuses it. -/
theorem State.reaches_iff (s : State) (c : Command) (l : Link) (args : List Byte) :
    s.reaches c l args = true ↔ s.linksRespond = true ∧ (s.port l).recv ≠ .replying ∧
      (s.port l).recv ≠ .streaming ∧ s.screen c l args = none := by
  unfold State.reaches
  cases s.linksRespond <;> cases (s.port l).recv <;> cases s.screen c l args <;> simp

/-- A frame that reaches row 7 is answered by its own rule. -/
theorem State.serve_of_reaches {s : State} {c : Command} {l : Link} {args : List Byte}
    (h : s.reaches c l args = true) (rule : State → Ruling) :
    s.serve c l args rule = s.answer l (rule s) := by
  obtain ⟨h1, h2, h3, h4⟩ := (s.reaches_iff c l args).1 h
  unfold State.serve
  rw [h1, h4]
  cases k : (s.port l).recv <;> simp_all

/-- A frame that an earlier row of R167 refuses. -/
theorem State.serve_of_screen {s : State} {c : Command} {l : Link} {args : List Byte} {b : Byte}
    (h1 : s.linksRespond = true) (h2 : (s.port l).recv ≠ .replying)
    (h3 : (s.port l).recv ≠ .streaming) (h4 : s.screen c l args = some b) (rule : State → Ruling) :
    s.serve c l args rule = s.refuse l b := by
  unfold State.serve
  rw [h1, h4]
  cases k : (s.port l).recv <;> simp_all

/-- A frame that its port does not take. -/
theorem State.serve_of_ignored {s : State} {c : Command} {l : Link} {args : List Byte}
    (h : s.linksRespond = false ∨ (s.port l).recv = .replying ∨ (s.port l).recv = .streaming)
    (rule : State → Ruling) : s.serve c l args rule = s := by
  unfold State.serve
  rcases h with h | h | h <;> simp [h]

/-- The state that an accepted command answers with. -/
theorem State.answer_accept (l : Link) (s t : State) (d : Option (List Byte)) :
    s.answer l (s.accept l t d) =
      (if l = .operator then t.putMarks .none else t).reply l
        (s.replyBits (if s.clearsMarks l then bitSequence else 0)) d := rfl

/-- Outside STARTING the reply bits are those decided. -/
theorem State.replyBits_of {s : State} (h : s.supply.power ≠ .starting) (b : Byte) :
    s.replyBits b = b := if_neg h

/-- Only LINK STATUS reaches row 7 while the part is STARTING. -/
theorem State.reaches_power {s : State} {c : Command} {l : Link} {args : List Byte}
    (hc : c ≠ .linkStatus) (h : s.reaches c l args = true) : s.supply.power ≠ .starting := by
  obtain ⟨_, _, _, h⟩ := (s.reaches_iff c l args).1 h
  intro k
  unfold State.screen at h
  simp [k, hc] at h

/-- Putting a port back and changing it there. -/
theorem Links.get_set (u : Links) (l : Link) (p : LinkPort) : (u.set l p).get l = p := by
  cases l <;> rfl

/-- The reply to an accepted command, whatever its effect. -/
theorem State.answer_accept_eq {s t : State} (l : Link) (h : s.supply.power ≠ .starting)
    (d : Option (List Byte)) :
    s.answer l (s.accept l t d) =
      t.withReply l ((t.port l).replying (noticeByte l s.links.marks) d) := by
  rw [State.answer_accept, State.replyBits_of h]
  unfold State.clearsMarks noticeByte State.withReply
  cases l with
  | plant => rfl
  | inspection => rfl
  | operator =>
    by_cases hm : s.links.marks = .none
    · simp only [hm, ne_eq, not_true_eq_false, decide_false, Bool.and_false, and_false, if_true]
      rfl
    · simp only [hm, ne_eq, not_false_eq_true, decide_true, Bool.and_true, and_true, if_true]
      rfl

/-- A refusal outside STARTING. -/
theorem State.refuse_eq {s : State} (l : Link) (b : Byte) (h : s.supply.power ≠ .starting) :
    s.refuse l b = s.refusedWith l b := by
  unfold State.refuse State.reply
  rw [State.replyBits_of h]
  rfl

/-! ### The grant at hand -/

theorem State.grantOf_eq_some (s : State) (c : Claim) (g : Grant) :
    s.grantOf c = some g ↔ s.running = true ∧ s.arbiter.grant = some g ∧ g.claim = c ∧
      g.begun = false := by
  unfold State.grantOf
  split
  · rename_i h
    split
    · rename_i k e
      split
      · rename_i w
        simp only [Option.some.injEq, h, e, true_and]
        exact ⟨fun u => ⟨u, u ▸ w⟩, fun u => u.1⟩
      · rename_i w
        simp only [reduceCtorEq, h, e, true_and, Option.some.injEq, false_iff]
        rintro ⟨rfl, u⟩
        exact w u
    · rename_i e
      simp [e]
  · rename_i h
    simp [h]

theorem State.programming_eq_some (s : State) (g : Grant) :
    s.programming = some g ↔ s.arbiter.grant = some g ∧ g.begun = true := by
  unfold State.programming
  rw [Option.filter_eq_some_iff]

/-- The command that a commit row works on. -/
theorem State.grantedOp_of {s : State} {g : Grant} {l : Link} {c : BusyCmd}
    (h1 : s.running = true) (h2 : s.arbiter.grant = some g) (h3 : g.claim = .op l)
    (h4 : g.begun = false) (h5 : s.opCmd l = some c) : s.grantedOp = some (g, l, c) := by
  unfold State.grantedOp
  simp [h1, h2, h3, h4, h5]

/-! ### The arbiter's next grant -/

/-- All that the arbiter can do when it settles: make the grant it chooses, or nothing. -/
theorem State.settle_cases (s : State) : s.settle = s ∨
    ∃ c o, s.running = true ∧ s.arbiter.grant = none ∧ s.chooseClaim = some (c, o) ∧
      s.settle = s.makeGrant c o := by
  unfold State.settle
  split
  · rename_i h
    split
    · exact .inl rfl
    · rename_i c o k
      exact .inr ⟨c, o, h.1, h.2, k, rfl⟩
  · exact .inl rfl

/-- An arbiter with a grant leaves it. -/
theorem State.settle_of_grant {s : State} {g : Grant} (h : s.arbiter.grant = some g) :
    s.settle = s := by
  unfold State.settle
  rw [if_neg (by simp [h])]

/-! ### Flags and records -/

/-- Outside STARTING a flag raised on all links is pending on each. -/
theorem State.raiseAll_running {s : State} (h : s.supply.power ≠ .starting) (f : FlagSet) :
    s.raiseAll f = { s with attention := s.attention.raiseAll f } := if_neg h

/-- A record offered to a queue that holds fewer than 96 joins its end. -/
theorem State.offer_open {s : State} (h : s.recorder.queue.length < queueCapacity)
    (x : QueueItem) :
    s.offer x = { s with recorder := { s.recorder with queue := s.recorder.queue ++ [x] } } :=
  if_pos (decide_eq_true h)

end Sys2Proof.Machine
end

