-- ==== Sys2Proof/WellFormed.lean ====
section
/-! DEFINITION. When a command is one that the outside can send or bring about: a link request's arguments
fit a frame (R167, R183), and what an event carries lies in the range the manual gives it. -/

namespace Sys2Proof

/-- The most argument bytes of a frame (R183). -/
def maxArguments : Nat := 40

/-- Argument bytes that fit a frame. -/
def fitsFrame (args : List Byte) : Bool := decide (args.length ≤ maxArguments)

/-- A millisecond of a second (R35). -/
def fitsSecond (phase : Nat) : Bool := decide (phase ≤ 999)

/-- A millisecond of a second that slew may have lengthened to 1,010 ms, its last edge included (R38, R40). -/
def fitsLongSecond (phase : Nat) : Bool := decide (phase ≤ 1010)

/-- A reading of an input or of a reference source, in µA (opening file). -/
def fitsConverter (reading : Nat) : Bool := decide (reading ≤ 25000)

/-- One reading for each input (R19). -/
def fitsInputs (readings : List Nat) : Bool :=
  decide (readings.length = 32) && readings.all fitsConverter

/-- A failed frame's cause: where it is an unknown code, the code is no command's (R167, R183). -/
def FrameFailure.fits : FrameFailure → Bool
  | .check => true
  | .unknownCode code => (commandOfCode code).isNone

/-- Enough outcomes for the grant in progress and a pending transfer write: the three writes of an erase
and the transfer, each twice (R139, R156, R157). -/
def fitsAttempts (attempts : List Attempt) : Bool := decide (attempts.length ≤ 8)

/-- The well-formed commands. -/
def Instr.wellFormed : Instr → Bool
  | .linkStatus _ args => fitsFrame args
  | .readTime _ args phase => fitsFrame args && fitsSecond phase
  | .readLive _ args => fitsFrame args
  | .readEvents _ args => fitsFrame args
  | .acknowledgeEvents _ args => fitsFrame args
  | .setEventMask _ args => fitsFrame args
  | .submitValue _ args => fitsFrame args
  | .setStackSignals _ args => fitsFrame args
  | .readConfig _ args => fitsFrame args
  | .readTally _ args => fitsFrame args
  | .openReadout _ args => fitsFrame args
  | .stop _ args => fitsFrame args
  | .setTime _ args phase => fitsFrame args && fitsSecond phase
  | .stageChannel _ args => fitsFrame args
  | .stageStack _ args => fitsFrame args
  | .stageDevice _ args => fitsFrame args
  | .withdrawStage _ args => fitsFrame args
  | .approve _ args => fitsFrame args
  | .rejectStage _ args => fitsFrame args
  | .markStart _ args => fitsFrame args
  | .markEnd _ args => fitsFrame args
  | .applyAnnotation _ args => fitsFrame args
  | .commitCollection _ args => fitsFrame args
  | .commitReport _ args => fitsFrame args
  | .closeDays _ args => fitsFrame args
  | .inService _ args => fitsFrame args
  | .withdraw _ args => fitsFrame args
  | .eraseArchive _ args => fitsFrame args
  | .restart _ args attempts => fitsFrame args && fitsAttempts attempts
  | .failedFrame _ failure => failure.fits
  | .selectDeasserted _ => true
  | .selectAsserted _ => true
  | .stageCommit => true
  | .withdrawStageCommit => true
  | .rejectStageCommit => true
  | .approveCommit => true
  | .collectionCommit => true
  | .reportCommit => true
  | .closeDaysCommit => true
  | .inServiceCommit => true
  | .withdrawCommit => true
  | .withdrawalWork => true
  | .eraseGrant => true
  | .annotationQueuedWaitEnd => true
  | .annotationReadGrant => true
  | .annotationRewriteGrant => true
  | .annotationRewriteComplete => true
  | .queueWriteGrant => true
  | .writeAttemptComplete _ => true
  | .transferWriteGrant => true
  | .protectionWordGrant => true
  | .readoutReadGrant => true
  | .readoutBlockSent _ => true
  | .internalSecondEdge => true
  | .referenceWindowClose => true
  | .trefPulse phase => fitsLongSecond phase
  | .scanSlot slot readings => decide (slot ≤ 9) && fitsInputs readings
  | .statusLineActive line => decide (line ≤ 15)
  | .selfCheckEnd a b => fitsConverter a && fitsConverter b
  | .lossOfLock => true
  | .acquisitionComplete => true
  | .samplingPoint lines => decide (lines.length = 4)
  | .normaliseSecond => true
  | .accumulateSecond => true
  | .dayClose => true
  | .pfailActive attempts => fitsAttempts attempts
  | .rstnActive attempts => fitsAttempts attempts
  | .snapshotWriteEnd _ => true
  | .haltEnd _ => true
  | .endOfRecovery _ => true
  | .replySent _ => true
  | .backupSupplyLoss => true

end Sys2Proof
end

