-- ==== Sys2Proof/Laws/PerInstr.lean ====
section
/-! SUPPORT. What a link request's well-formedness says of its arguments, command by command. -/

namespace Sys2Proof.Laws.ArgsFitFrame

/-- The arguments of a command that comes on a link; an event of the part's own has none. -/
def arguments : Instr → List Byte
  | .linkStatus _ args => args
  | .readTime _ args _ => args
  | .readLive _ args => args
  | .readEvents _ args => args
  | .acknowledgeEvents _ args => args
  | .setEventMask _ args => args
  | .submitValue _ args => args
  | .setStackSignals _ args => args
  | .readConfig _ args => args
  | .readTally _ args => args
  | .openReadout _ args => args
  | .stop _ args => args
  | .setTime _ args _ => args
  | .stageChannel _ args => args
  | .stageStack _ args => args
  | .stageDevice _ args => args
  | .withdrawStage _ args => args
  | .approve _ args => args
  | .rejectStage _ args => args
  | .markStart _ args => args
  | .markEnd _ args => args
  | .applyAnnotation _ args => args
  | .commitCollection _ args => args
  | .commitReport _ args => args
  | .closeDays _ args => args
  | .inService _ args => args
  | .withdraw _ args => args
  | .eraseArchive _ args => args
  | .restart _ args _ => args
  | .failedFrame _ _ => []
  | .selectDeasserted _ => []
  | .selectAsserted _ => []
  | .stageCommit => []
  | .withdrawStageCommit => []
  | .rejectStageCommit => []
  | .approveCommit => []
  | .collectionCommit => []
  | .reportCommit => []
  | .closeDaysCommit => []
  | .inServiceCommit => []
  | .withdrawCommit => []
  | .withdrawalWork => []
  | .eraseGrant => []
  | .annotationQueuedWaitEnd => []
  | .annotationReadGrant => []
  | .annotationRewriteGrant => []
  | .annotationRewriteComplete => []
  | .queueWriteGrant => []
  | .writeAttemptComplete _ => []
  | .transferWriteGrant => []
  | .protectionWordGrant => []
  | .readoutReadGrant => []
  | .readoutBlockSent _ => []
  | .internalSecondEdge => []
  | .referenceWindowClose => []
  | .trefPulse _ => []
  | .scanSlot _ _ => []
  | .statusLineActive _ => []
  | .selfCheckEnd _ _ => []
  | .lossOfLock => []
  | .acquisitionComplete => []
  | .samplingPoint _ => []
  | .normaliseSecond => []
  | .accumulateSecond => []
  | .dayClose => []
  | .pfailActive _ => []
  | .rstnActive _ => []
  | .snapshotWriteEnd _ => []
  | .haltEnd _ => []
  | .endOfRecovery _ => []
  | .replySent _ => []
  | .backupSupplyLoss => []

/-- What `fitsFrame` says. -/
theorem ofFits {args : List Byte} (h : fitsFrame args = true) : args.length ≤ 40 :=
  of_decide_eq_true h

/-- A well-formed command's arguments fit a frame (R167, R183). -/
def Statement (i : Instr) : Prop := i.wellFormed = true → (arguments i).length ≤ 40

theorem linkStatus (link : Link) (args : List Byte) : Statement (.linkStatus link args) := by
  intro h
  exact ofFits h

theorem readTime (link : Link) (args : List Byte) (phase : Nat) : Statement (.readTime link args phase) := by
  intro h
  exact ofFits (Bool.and_eq_true_iff.mp h).1

theorem readLive (link : Link) (args : List Byte) : Statement (.readLive link args) := by
  intro h
  exact ofFits h

theorem readEvents (link : Link) (args : List Byte) : Statement (.readEvents link args) := by
  intro h
  exact ofFits h

theorem acknowledgeEvents (link : Link) (args : List Byte) : Statement (.acknowledgeEvents link args) := by
  intro h
  exact ofFits h

theorem setEventMask (link : Link) (args : List Byte) : Statement (.setEventMask link args) := by
  intro h
  exact ofFits h

theorem submitValue (link : Link) (args : List Byte) : Statement (.submitValue link args) := by
  intro h
  exact ofFits h

theorem setStackSignals (link : Link) (args : List Byte) : Statement (.setStackSignals link args) := by
  intro h
  exact ofFits h

theorem readConfig (link : Link) (args : List Byte) : Statement (.readConfig link args) := by
  intro h
  exact ofFits h

theorem readTally (link : Link) (args : List Byte) : Statement (.readTally link args) := by
  intro h
  exact ofFits h

theorem openReadout (link : Link) (args : List Byte) : Statement (.openReadout link args) := by
  intro h
  exact ofFits h

theorem stop (link : Link) (args : List Byte) : Statement (.stop link args) := by
  intro h
  exact ofFits h

theorem setTime (link : Link) (args : List Byte) (phase : Nat) : Statement (.setTime link args phase) := by
  intro h
  exact ofFits (Bool.and_eq_true_iff.mp h).1

theorem stageChannel (link : Link) (args : List Byte) : Statement (.stageChannel link args) := by
  intro h
  exact ofFits h

theorem stageStack (link : Link) (args : List Byte) : Statement (.stageStack link args) := by
  intro h
  exact ofFits h

theorem stageDevice (link : Link) (args : List Byte) : Statement (.stageDevice link args) := by
  intro h
  exact ofFits h

theorem withdrawStage (link : Link) (args : List Byte) : Statement (.withdrawStage link args) := by
  intro h
  exact ofFits h

theorem approve (link : Link) (args : List Byte) : Statement (.approve link args) := by
  intro h
  exact ofFits h

theorem rejectStage (link : Link) (args : List Byte) : Statement (.rejectStage link args) := by
  intro h
  exact ofFits h

theorem markStart (link : Link) (args : List Byte) : Statement (.markStart link args) := by
  intro h
  exact ofFits h

theorem markEnd (link : Link) (args : List Byte) : Statement (.markEnd link args) := by
  intro h
  exact ofFits h

theorem applyAnnotation (link : Link) (args : List Byte) : Statement (.applyAnnotation link args) := by
  intro h
  exact ofFits h

theorem commitCollection (link : Link) (args : List Byte) : Statement (.commitCollection link args) := by
  intro h
  exact ofFits h

theorem commitReport (link : Link) (args : List Byte) : Statement (.commitReport link args) := by
  intro h
  exact ofFits h

theorem closeDays (link : Link) (args : List Byte) : Statement (.closeDays link args) := by
  intro h
  exact ofFits h

theorem inService (link : Link) (args : List Byte) : Statement (.inService link args) := by
  intro h
  exact ofFits h

theorem withdraw (link : Link) (args : List Byte) : Statement (.withdraw link args) := by
  intro h
  exact ofFits h

theorem eraseArchive (link : Link) (args : List Byte) : Statement (.eraseArchive link args) := by
  intro h
  exact ofFits h

theorem restart (link : Link) (args : List Byte) (attempts : List Attempt) : Statement (.restart link args attempts) := by
  intro h
  exact ofFits (Bool.and_eq_true_iff.mp h).1

theorem failedFrame (link : Link) (failure : FrameFailure) : Statement (.failedFrame link failure) := by
  intro _
  exact Nat.zero_le 40

theorem selectDeasserted (link : Link) : Statement (.selectDeasserted link) := by
  intro _
  exact Nat.zero_le 40

theorem selectAsserted (link : Link) : Statement (.selectAsserted link) := by
  intro _
  exact Nat.zero_le 40

theorem stageCommit : Statement (.stageCommit) := by
  intro _
  exact Nat.zero_le 40

theorem withdrawStageCommit : Statement (.withdrawStageCommit) := by
  intro _
  exact Nat.zero_le 40

theorem rejectStageCommit : Statement (.rejectStageCommit) := by
  intro _
  exact Nat.zero_le 40

theorem approveCommit : Statement (.approveCommit) := by
  intro _
  exact Nat.zero_le 40

theorem collectionCommit : Statement (.collectionCommit) := by
  intro _
  exact Nat.zero_le 40

theorem reportCommit : Statement (.reportCommit) := by
  intro _
  exact Nat.zero_le 40

theorem closeDaysCommit : Statement (.closeDaysCommit) := by
  intro _
  exact Nat.zero_le 40

theorem inServiceCommit : Statement (.inServiceCommit) := by
  intro _
  exact Nat.zero_le 40

theorem withdrawCommit : Statement (.withdrawCommit) := by
  intro _
  exact Nat.zero_le 40

theorem withdrawalWork : Statement (.withdrawalWork) := by
  intro _
  exact Nat.zero_le 40

theorem eraseGrant : Statement (.eraseGrant) := by
  intro _
  exact Nat.zero_le 40

theorem annotationQueuedWaitEnd : Statement (.annotationQueuedWaitEnd) := by
  intro _
  exact Nat.zero_le 40

theorem annotationReadGrant : Statement (.annotationReadGrant) := by
  intro _
  exact Nat.zero_le 40

theorem annotationRewriteGrant : Statement (.annotationRewriteGrant) := by
  intro _
  exact Nat.zero_le 40

theorem annotationRewriteComplete : Statement (.annotationRewriteComplete) := by
  intro _
  exact Nat.zero_le 40

theorem queueWriteGrant : Statement (.queueWriteGrant) := by
  intro _
  exact Nat.zero_le 40

theorem writeAttemptComplete (attempt : Attempt) : Statement (.writeAttemptComplete attempt) := by
  intro _
  exact Nat.zero_le 40

theorem transferWriteGrant : Statement (.transferWriteGrant) := by
  intro _
  exact Nat.zero_le 40

theorem protectionWordGrant : Statement (.protectionWordGrant) := by
  intro _
  exact Nat.zero_le 40

theorem readoutReadGrant : Statement (.readoutReadGrant) := by
  intro _
  exact Nat.zero_le 40

theorem readoutBlockSent (link : Link) : Statement (.readoutBlockSent link) := by
  intro _
  exact Nat.zero_le 40

theorem internalSecondEdge : Statement (.internalSecondEdge) := by
  intro _
  exact Nat.zero_le 40

theorem referenceWindowClose : Statement (.referenceWindowClose) := by
  intro _
  exact Nat.zero_le 40

theorem trefPulse (phase : Nat) : Statement (.trefPulse phase) := by
  intro _
  exact Nat.zero_le 40

theorem scanSlot (slot : Nat) (readings : List Nat) : Statement (.scanSlot slot readings) := by
  intro _
  exact Nat.zero_le 40

theorem statusLineActive (line : Nat) : Statement (.statusLineActive line) := by
  intro _
  exact Nat.zero_le 40

theorem selfCheckEnd (readingA readingB : Nat) : Statement (.selfCheckEnd readingA readingB) := by
  intro _
  exact Nat.zero_le 40

theorem lossOfLock : Statement (.lossOfLock) := by
  intro _
  exact Nat.zero_le 40

theorem acquisitionComplete : Statement (.acquisitionComplete) := by
  intro _
  exact Nat.zero_le 40

theorem samplingPoint (lines : List Signals) : Statement (.samplingPoint lines) := by
  intro _
  exact Nat.zero_le 40

theorem normaliseSecond : Statement (.normaliseSecond) := by
  intro _
  exact Nat.zero_le 40

theorem accumulateSecond : Statement (.accumulateSecond) := by
  intro _
  exact Nat.zero_le 40

theorem dayClose : Statement (.dayClose) := by
  intro _
  exact Nat.zero_le 40

theorem pfailActive (attempts : List Attempt) : Statement (.pfailActive attempts) := by
  intro _
  exact Nat.zero_le 40

theorem rstnActive (attempts : List Attempt) : Statement (.rstnActive attempts) := by
  intro _
  exact Nat.zero_le 40

theorem snapshotWriteEnd (outcome : SnapshotEnd) : Statement (.snapshotWriteEnd outcome) := by
  intro _
  exact Nat.zero_le 40

theorem haltEnd (selfTest : Bool) : Statement (.haltEnd selfTest) := by
  intro _
  exact Nat.zero_le 40

theorem endOfRecovery (markCleared : Bool) : Statement (.endOfRecovery markCleared) := by
  intro _
  exact Nat.zero_le 40

theorem replySent (link : Link) : Statement (.replySent link) := by
  intro _
  exact Nat.zero_le 40

theorem backupSupplyLoss : Statement (.backupSupplyLoss) := by
  intro _
  exact Nat.zero_le 40

end Sys2Proof.Laws.ArgsFitFrame
end

