-- ==== Sys2Proof/Laws/ReachOps.lean ====
section
/-! SUPPORT. What the shared operations do to the view of Laws/Moves.lean: flags, ports, the write queue, event
records, the configuration area, the arbiter, and frames. -/

namespace Sys2Proof.Machine

/-! ### Flags -/

theorem known_zero : Known 0 := by decide
theorem known_operationDone : Known flagOperationDone := by decide
theorem known_intervalClosed : Known flagIntervalClosed := by decide
theorem known_exceedance : Known flagExceedance := by decide
theorem known_dayClosed : Known flagDayClosed := by decide
theorem known_stageChanged : Known flagStageChanged := by decide
theorem known_abnormalLimit : Known flagAbnormalLimit := by decide
theorem known_signalsStale : Known flagSignalsStale := by decide
theorem known_acquisition : Known flagAcquisition := by decide
theorem known_time : Known flagTime := by decide
theorem known_restarted : Known flagRestarted := by decide
theorem known_store : Known flagStore := by decide
theorem known_collectionDue : Known flagCollectionDue := by decide
theorem known_annotation : Known flagAnnotation := by decide
theorem known_year : Known flagYear := by decide

theorem Known.or {f g : FlagSet} (hf : Known f) (hg : Known g) : Known (f ||| g) := by
  unfold Known at *
  rw [BitVec.and_or_distrib_right, hf, hg]
  rfl

theorem State.raiseOn_inner (l : Link) {f : FlagSet} (hf : Known f) (s : State) :
    Inner s (s.raiseOn l f) := .one (.raiseOn _ l f hf)

theorem State.raiseAll_inner {f : FlagSet} (hf : Known f) (s : State) :
    Inner s (s.raiseAll f) := by
  unfold State.raiseAll
  split
  · exact .one (.hold _ f hf)
  · exact .one (.raiseAll _ f fun _ => hf)

/-! ### Ports -/

theorem State.modPort_inner (l : Link) (f : LinkPort → LinkPort) (s : State) :
    Inner s (s.modPort l f) := .same rfl

theorem State.draw_inner (s : State) : Inner s s.draw.2 := .same rfl

theorem State.beginOp_inner (l : Link) (c : BusyCmd) (s : State) : Inner s (s.beginOp l c) :=
  .same rfl

theorem State.endOp_inner (l : Link) (o : OpOutcome) (r : Option Reason) (i : Option Nat)
    (c : List Nat) (s : State) : Inner s (s.endOp l o r i c) := by
  unfold State.endOp
  split
  · exact .refl s
  · exact (State.modPort_inner l _ s).trans (State.raiseOn_inner l known_operationDone _)

theorem State.refuseOp_inner (l : Link) (r : Reason) (s : State) : Inner s (s.refuseOp l r) :=
  State.endOp_inner l _ _ _ _ s

theorem State.setWaiting_inner (l : Link) (w : Bool) (s : State) : Inner s (s.setWaiting l w) :=
  .same rfl

theorem State.setOpCmd_inner (l : Link) (c : BusyCmd) (s : State) : Inner s (s.setOpCmd l c) :=
  .same rfl

theorem State.claimWrite_inner (l : Link) (s : State) : Inner s (s.claimWrite l) := by
  unfold State.claimWrite
  split
  · exact State.refuseOp_inner l _ s
  · exact State.setWaiting_inner l _ s

theorem State.setAnnotation_inner (op : AnnOp) (s : State) : Inner s (s.setAnnotation op) :=
  .same rfl

/-! ### The write queue and event records -/

theorem State.offer_inner (x : QueueItem) (s : State) : Inner s (s.offer x) := by
  unfold State.offer
  split
  · rename_i h
    exact .one (.offer _ x (of_decide_eq_true h))
  · exact Inner.trans (t := { s with recorder := { s.recorder with
      notStored := saturate16 s.recorder.notStored 1 } }) (.same rfl)
      (State.raiseAll_inner known_store _)

theorem State.writeEvent_inner (e : EventRec) (s : State) : Inner s (s.writeEvent e) := by
  unfold State.writeEvent
  split
  · exact (State.offer_inner _ s).thenSame rfl
  · exact (State.offer_inner _ s).thenSame rfl
  · exact State.offer_inner _ s

theorem State.note_inner (k : EventKind) (t a : Nat) (s : State) : Inner s (s.note k t a) :=
  State.writeEvent_inner _ s

/-! ### The configuration area -/

/-- The stored mode that a write carries is the present one or RECORDING. -/
theorem State.carriedMode_cases (s : State) :
    s.carriedMode = s.store.area.mode ∨ s.carriedMode = .recording := by
  unfold State.carriedMode
  split
  · exact .inr rfl
  · exact .inl rfl

/-- A write programs the stored mode that it carries, or one that its own change gives. -/
theorem State.programArea_inner (f : ConfigArea → ConfigArea)
    (hf : ∀ a, (f a).mode = a.mode ∨ (f a).mode ≠ .suspended) (s : State) :
    Inner s (s.programArea f) := by
  refine .one (.program _ _ ?_)
  exact (hf _).elim
    (fun h => s.carriedMode_cases.imp (fun k => h.trans k) fun k => by
      rw [show (s.programArea f).store.areaSpare.mode = .recording from h.trans k]
      decide)
    Or.inr

theorem State.swapArea_inner (s : State) : Inner s s.swapArea := .one (.swap _)

theorem State.putImage_inner (i : Nat) (t : TallySlot) (s : State) : Inner s (s.putImage i t) :=
  .same rfl

theorem State.programImage_inner (i : Nat) (t : TallySlot) (s : State) :
    Inner s (s.programImage i t) := .same rfl

/-! ### The arbiter -/

theorem State.takeClaim_inner (c : Claim) (s : State) : Inner s (s.takeClaim c) := by
  cases c <;> exact .same rfl

theorem State.makeGrant_inner (c : Claim) (o : Option Link) (s : State) :
    Inner s (s.makeGrant c o) := (State.takeClaim_inner c s).thenSame rfl

theorem State.settle_inner (s : State) : Inner s s.settle := by
  unfold State.settle
  split
  · split
    · exact .refl s
    · exact State.makeGrant_inner _ _ s
  · exact .refl s

theorem State.dropGrant_inner (s : State) : Inner s s.dropGrant := .same rfl

theorem State.startGrant_inner (g : Grant) (s : State) : Inner s (s.startGrant g) := .same rfl

theorem State.returnGrant_inner (s : State) : Inner s s.returnGrant := by
  unfold State.returnGrant
  split
  · exact .refl s
  · split
    · exact .same rfl
    · split <;> exact .same rfl
    · exact .same rfl

theorem State.endAnnotation_inner (op : AnnOp) (o : OpOutcome) (r : Option Reason) (s : State) :
    Inner s (s.endAnnotation op o r) :=
  ((State.writeEvent_inner _ s).trans (State.raiseAll_inner known_annotation _)).trans
    (State.endOp_inner _ _ _ _ _ _)

theorem State.refuseWaiting_inner (l : Link) (s : State) : Inner s (s.refuseWaiting l) := by
  unfold State.refuseWaiting
  split
  · exact .refl s
  · split
    · split
      · exact .refl s
      · exact State.endAnnotation_inner _ _ _ s
    · split
      · exact State.refuseOp_inner l _ s
      · exact .refl s

theorem State.enterFault_inner (a : Word) (s : State) : Inner s (s.enterFault a) := by
  refine Inner.trans (t := { s with store := { s.store with fault := true } }) (.same rfl) ?_
  exact ((((State.writeEvent_inner _ _).trans (State.raiseAll_inner known_store _)).trans
    (State.dropGrant_inner _)).trans (State.refuseWaiting_inner _ _)).trans
    (State.refuseWaiting_inner _ _)

/-! ### Frames -/

theorem State.reply_inner (l : Link) (b : Byte) (d : Option (List Byte)) (s : State) :
    Inner s (s.reply l b d) := .same rfl

theorem State.refuse_inner (l : Link) (b : Byte) (s : State) : Inner s (s.refuse l b) := .same rfl

/-- The state that a ruling leads to, where it has one. -/
def Ruling.leads (P : State → Prop) : Ruling → Prop
  | .argument => True
  | .sequence => True
  | .answered t _ _ => P t

theorem State.answer_inner {l : Link} {r : Ruling} {s : State} (h : r.leads (Inner s)) :
    Inner s (s.answer l r) := by
  cases r with
  | argument => exact State.refuse_inner l _ s
  | sequence => exact State.refuse_inner l _ s
  | answered t d n => exact Inner.trans (t := t) h (State.reply_inner l _ d t)

/-- What a frame does: nothing, a refusal, or the reply to the ruling of its own rule. -/
theorem State.serve_cases (c : Command) (l : Link) (args : List Byte) (rule : State → Ruling)
    (s : State) : s.serve c l args rule = s ∨ (∃ b, s.serve c l args rule = s.refuse l b) ∨
      (s.linksRespond = true ∧ (s.port l).recv ≠ .replying ∧ (s.port l).recv ≠ .streaming ∧
        s.screen c l args = none ∧ s.serve c l args rule = s.answer l (rule s)) := by
  unfold State.serve
  cases h : s.linksRespond
  · exact .inl rfl
  · cases k : (s.port l).recv <;> cases m : s.screen c l args <;>
      simp <;> exact .inr ⟨_, rfl⟩

theorem State.serve_inner {c : Command} {l : Link} {args : List Byte} {rule : State → Ruling}
    {s : State} (h : (rule s).leads (Inner s)) : Inner s (s.serve c l args rule) := by
  rcases s.serve_cases c l args rule with k | ⟨b, k⟩ | ⟨_, _, _, _, k⟩ <;> rw [k]
  · exact .refl s
  · exact State.refuse_inner l b s
  · exact State.answer_inner h

theorem State.accept_leads {l : Link} {s t : State} {d : Option (List Byte)} (h : Inner s t) :
    (s.accept l t d).leads (Inner s) := by
  unfold State.accept
  simp only [Ruling.leads]
  split
  · exact h.thenSame rfl
  · exact h

theorem State.failFrame_inner (l : Link) (f : FrameFailure) (s : State) :
    Inner s (s.failFrame l f) := by
  unfold State.failFrame
  split
  · split
    · exact .refl s
    · exact .refl s
    · split
      · exact State.refuse_inner l _ s
      · split <;> exact State.refuse_inner l _ s
  · exact .refl s

theorem State.abandonReadoutGrant_inner (l : Link) (s : State) :
    Inner s (s.abandonReadoutGrant l) := by
  unfold State.abandonReadoutGrant
  split
  · split
    · exact .same rfl
    · exact .refl s
  · exact .refl s

theorem State.reachPhase_inner (p : Nat) (s : State) : Inner s (s.reachPhase p) := .same rfl

/-! ### Reads and submissions -/

theorem State.markSeen_inner (l : Link) (s : State) : Inner s (s.markSeen l) := .one (.see _ l)

theorem State.acknowledge_inner (l : Link) (f : FlagSet) (s : State) :
    Inner s (s.acknowledge l f) := .one (.acknowledge _ l f)

theorem State.setMask_inner (l : Link) {f : FlagSet} (hf : Known f) (s : State) :
    Inner s (s.setMask l f) := .one (.mask _ l f hf)

/-- A flag set read from argument bytes has its unused bits clear. -/
theorem readFlagSet_known {args : List Byte} {f : FlagSet} (h : readFlagSet args = some f) :
    Known f := by
  unfold readFlagSet at h
  split at h
  · rename_i k
    cases h
    refine BitVec.eq_of_getLsbD_eq fun i hi => ?_
    rw [BitVec.getLsbD_and, BitVec.getLsbD_ofNat]
    by_cases hi14 : i < 14
    · have : ∀ j : Fin 14, (~~~allFlags).getLsbD j = false := by decide
      simp [this ⟨i, hi14⟩]
    · have : (u16 args 0).testBit i = false :=
        Nat.testBit_lt_two_pow (lt_of_lt_of_le k (Nat.pow_le_pow_right (n := 2) (by decide)
          (Nat.le_of_not_lt hi14)))
      simp [this]
  · cases h

theorem State.submit_inner (c : Nat) (v : ValueSlot) (s : State) : Inner s (s.submit c v) :=
  .same rfl

theorem State.signal_inner (k : Nat) (v : LinkSlot) (s : State) : Inner s (s.signal k v) :=
  .same rfl

end Sys2Proof.Machine
end

