-- ==== Sys2Proof/Laws/ReachWork.lean ====
section
/-! SUPPORT. What the operations of the scan unit, the stack state unit, the recorder, the transfer and the
time base do to the view of Laws/Moves.lean. -/

namespace Sys2Proof.Machine

/-! ### Scan unit -/

theorem State.endSlot_inner (k : Nat) (r : List Nat) (s : State) : Inner s (s.endSlot k r) :=
  .same rfl

/-- A way to write an event record, at once or in its turn. -/
abbrev Writes (write : EventRec → State → State) : Prop := ∀ e s, Inner s (write e s)

theorem State.unlock_inner {w : EventRec → State → State} (hw : Writes w) (c : Nat) (s : State) :
    Inner s (s.unlock w c) :=
  Inner.via ((hw _ _).trans (State.raiseAll_inner known_acquisition _)) rfl

theorem State.lock_inner (s : State) : Inner s s.lock :=
  Inner.trans (t := { s with scan := { s.scan with synth := .locked } }) (.same rfl)
    ((State.note_inner _ _ _ _).trans (State.raiseAll_inner known_acquisition _))

theorem State.mainsChanged_inner {w : EventRec → State → State} (hw : Writes w) (s : State) :
    Inner s (s.mainsChanged w) := by
  unfold State.mainsChanged
  split
  · exact State.unlock_inner hw _ s
  · exact .refl s
  · exact .refl s

theorem State.noteFault_inner (c r : Nat) (b a : Bool) (s : State) :
    Inner s (s.noteFault c r b a) := by
  unfold State.noteFault
  split
  · exact .refl s
  · exact (State.note_inner _ _ _ _).trans (State.raiseAll_inner known_acquisition _)

theorem State.updateFaults_inner (ra rb : Nat) (a b : Check) (s : State) :
    Inner s (s.updateFaults ra rb a b) :=
  Inner.trans (t := { s with scan := { s.scan with
      faultyA := faultAfter s.scan.faultyA a
      faultyB := faultAfter s.scan.faultyB b } }) (.same rfl)
    ((State.noteFault_inner _ _ _ _ _).trans (State.noteFault_inner _ _ _ _ _))

theorem State.updateBreak_inner (s : State) (i : Nat) : Inner s (s.updateBreak i) := by
  unfold State.updateBreak
  split
  · exact .refl s
  · simp only
    split
    · refine Inner.trans (t := { s with scan := { s.scan with broken := s.scan.broken.set i _ } })
        (.same rfl) ((State.writeEvent_inner _ _).trans (State.raiseAll_inner known_acquisition _))
    · exact .same rfl

theorem State.formSamples_inner (a b : Check) (s : State) : Inner s (s.formSamples a b) := by
  unfold State.formSamples
  simp only
  split
  · exact Inner.via (State.raiseAll_inner known_signalsStale _) rfl
  · exact .same rfl

theorem State.updateBreaks_inner (s : State) : Inner s s.updateBreaks :=
  Inner.foldl State.updateBreak_inner (List.range 32) s

theorem State.endSelfCheck_inner (l : Bool) (a b : Nat) (s : State) :
    Inner s (s.endSelfCheck l a b) := by
  unfold State.endSelfCheck
  exact Inner.via (((State.updateFaults_inner _ _ _ _ _).trans
    (State.updateBreaks_inner _)).trans (State.formSamples_inner _ _ _)) rfl

/-! ### Stack state unit -/

theorem State.noteLimit_inner (k : EventKind) (n c : Nat) (s : State) :
    Inner s (s.noteLimit k n c) :=
  (State.writeEvent_inner _ _).trans (State.raiseAll_inner known_abnormalLimit _)

theorem State.setStackUnit_inner (k : Nat) (u : StackUnit) (s : State) :
    Inner s (s.setStackUnit k u) := .same rfl

/-- A choice between a state and one reached from it is reached. -/
theorem Inner.ite {s t u : State} {p : Prop} [Decidable p] (h : Inner s t) (k : Inner t u) :
    Inner s (if p then u else t) := by
  split
  · exact h.trans k
  · exact h

theorem State.evaluateStack_inner (s : State) (k : Nat) : Inner s (s.evaluateStack k) :=
  (((State.setStackUnit_inner k _ s).ite (State.raiseAll_inner known_signalsStale _)).ite
    (State.noteLimit_inner _ _ _ _)).ite (State.noteLimit_inner _ _ _ _)

theorem State.handStackSet_inner (s : State) : Inner s s.handStackSet := .same rfl

theorem State.evaluateStacks_inner (s : State) : Inner s s.evaluateStacks :=
  Inner.foldl State.evaluateStack_inner (List.range 4) s

theorem State.sampleStacks_inner (s : State) : Inner s s.sampleStacks :=
  Inner.via ((State.evaluateStacks_inner _).trans (State.handStackSet_inner _)) rfl

/-! ### Interval work -/

theorem State.handOn_inner (s : State) (r : IntervalRec) : Inner s (s.handOn r) :=
  (State.offer_inner _ s).thenSame rfl

theorem State.handOnAll_inner (rs : List IntervalRec) (s : State) : Inner s (s.handOnAll rs) :=
  ((Inner.foldl State.handOn_inner rs s).trans (State.raiseAll_inner known_intervalClosed _)).ite
    (State.raiseAll_inner known_exceedance _)

theorem State.closeSet_inner (b : Nat) (s : State) : Inner s (s.closeSet b) := by
  unfold State.closeSet
  split
  · exact .refl s
  · exact Inner.via (State.handOnAll_inner _ _) rfl

theorem State.closeSetFlagged_inner (b : Nat) (t i : Bool) (s : State) :
    Inner s (s.closeSetFlagged b t i) := Inner.via (State.closeSet_inner _ _) rfl

theorem State.openSet_inner (a : AccSet) (s : State) : Inner s (s.openSet a) := .same rfl

theorem State.addHanded_inner (n : NormSet) (s : State) : Inner s (s.addHanded n) :=
  Inner.ite (t := { s with recorder := { s.recorder with
      accSets := addSecond s.recorder.accSets n } }) (.same rfl) (State.closeSet_inner _ _)

theorem State.joinDay_inner (d : Nat) (s : State) : Inner s (s.joinDay d) := .same rfl

/-! ### Days and tally -/

theorem State.modSlot_inner (i : Nat) (f : TallySlot → TallySlot) (s : State) :
    Inner s (s.modSlot i f) := .same rfl

theorem State.takeSlot_inner (y i : Nat) (s : State) : Inner s (s.takeSlot y i) := by
  unfold State.takeSlot
  simp only
  split
  · exact State.modSlot_inner _ _ s
  · exact ((State.note_inner _ _ _ _).trans (State.raiseAll_inner known_year _)).trans
      (State.modSlot_inner _ _ _)

theorem State.selectSlot_inner (y : Nat) (s : State) : Inner s (s.selectSlot y).1 := by
  unfold State.selectSlot
  split
  · exact .refl s
  · exact State.takeSlot_inner _ _ s

theorem State.closeRecord_inner (i : Nat) (s : State) (r : DayRec) :
    Inner s (s.closeRecord i r) := (State.offer_inner _ s).trans (State.modSlot_inner _ _ _)

theorem State.bringToAccount_inner (i : Nat) (s : State) : Inner s (s.bringToAccount i) := .same rfl

theorem State.finalSlot_inner (i : Nat) (s : State) : Inner s (s.finalSlot i) :=
  (State.modSlot_inner _ _ s).trans (State.raiseAll_inner known_year _)

theorem State.checkpoint_inner (i : Nat) (s : State) : Inner s (s.checkpoint i) :=
  State.offer_inner _ s

theorem State.closeRecords_inner (i : Nat) (rs : List DayRec) (s : State) :
    Inner s (s.closeRecords i rs) :=
  ((Inner.foldl (State.closeRecord_inner i) rs s).trans (State.modSlot_inner _ _ _)).trans
    (State.bringToAccount_inner _ _)

theorem State.closeIntoTally_inner (d : Nat) (rs : List DayRec) (s : State) :
    Inner s (s.closeIntoTally d rs) := by
  unfold State.closeIntoTally
  split
  · split
    · split
      · exact (State.finalSlot_inner _ s).trans (State.checkpoint_inner _ _)
      · exact .refl s
    · exact .refl s
  · have h := (State.selectSlot_inner (yearOfDay d) s).trans
      (State.closeRecords_inner (s.selectSlot (yearOfDay d)).2 rs _)
    simp only
    split
    · exact (h.trans (State.finalSlot_inner _ _)).trans (State.checkpoint_inner _ _)
    · exact h.trans (State.checkpoint_inner _ _)

theorem State.claimProtection_inner (s : State) : Inner s s.claimProtection := by
  unfold State.claimProtection
  split
  · exact .refl s
  · exact .same rfl

theorem State.closeThrough_inner (d : Nat) (s : State) : Inner s (s.closeThrough d) :=
  Inner.via (State.claimProtection_inner _) rfl

theorem State.forgetDay_inner (d : Nat) (s : State) : Inner s (s.forgetDay d) := .same rfl

theorem State.closeDay_inner (g : Tables) (c : CloseCause) (p : ProvDay) (s : State) :
    Inner s (s.closeDay g c p) :=
  ((((State.closeIntoTally_inner p.day (p.records g c) s).trans (State.closeThrough_inner _ _)).trans
    (State.forgetDay_inner _ _)).trans (State.raiseAll_inner known_dayClosed _)).ite
    (State.raiseAll_inner known_exceedance _)

theorem State.addWork_inner (w : RecorderWork) (s : State) : Inner s (s.addWork w) := .same rfl

theorem State.finalIfOpen_inner (s : State) (i : Nat) : Inner s (s.finalIfOpen i) := by
  unfold State.finalIfOpen
  split
  · exact State.finalSlot_inner _ s
  · exact .refl s

theorem State.finalSlots_inner (s : State) : Inner s s.finalSlots :=
  (Inner.foldl State.finalIfOpen_inner _ s).trans
    (Inner.foldl (fun t i => State.checkpoint_inner i t) _ _)

theorem State.releaseWithdrawal_inner (s : State) : Inner s s.releaseWithdrawal := .same rfl

theorem State.finishWithdrawal_inner (p n : Nat) (s : State) : Inner s (s.finishWithdrawal p n) := by
  have h : Inner s (s.note .withdrawn p n).finalSlots.releaseWithdrawal :=
    ((State.note_inner _ _ _ s).trans (State.finalSlots_inner _)).trans
      (State.releaseWithdrawal_inner _)
  unfold State.finishWithdrawal
  simp only
  split
  · exact h.trans (State.endOp_inner _ _ _ _ _ _)
  · exact h

theorem State.endOccasion_inner (o : Occasion) (s : State) : Inner s (s.endOccasion o) := by
  unfold State.endOccasion
  have h : Inner s (match o.joins with | none => s | some day => s.joinDay day) := by
    split
    · exact .refl s
    · exact State.joinDay_inner _ s
  simp only
  split
  · exact h
  · exact h.trans (State.endOp_inner _ _ _ _ _ _)
  · split
    · exact h
    · exact h.trans (State.finishWithdrawal_inner _ _ _)

theorem State.workAmong_inner {t s : State} (l : List RecorderWork) : ∀ kept,
    s.workAmong kept l = some t → Inner s t := by
  induction l with
  | nil => intro kept h; cases h
  | cons w rest ih =>
    intro kept h
    unfold State.workAmong at h
    simp only at h
    split at h
    · split at h
      · cases h
      · cases h; exact Inner.via (State.closeSetFlagged_inner _ _ _ _) rfl
    · cases h; exact Inner.via (State.writeEvent_inner _ _) rfl
    · split at h
      · cases h; exact Inner.via (State.endOccasion_inner _ _) rfl
      · exact ih _ h

theorem State.runWorkFor_inner (n : Nat) : ∀ s, Inner s (State.runWorkFor n s) := by
  induction n with
  | zero => exact .refl
  | succ n ih =>
    intro s
    unfold State.runWorkFor
    split
    · exact .refl s
    · rename_i t h
      exact (State.workAmong_inner _ _ h).trans (ih t)

theorem State.runWork_inner (s : State) : Inner s s.runWork := State.runWorkFor_inner _ s

theorem State.countWithdrawn_inner (c : CloseCause) (s : State) : Inner s (s.countWithdrawn c) := by
  cases c <;> exact .same rfl

theorem State.closeNextDay_inner (o : Occasion) (p : ProvDay) (rest : List RecorderWork)
    (s : State) : Inner s (s.closeNextDay o p rest) :=
  ((State.closeDay_inner _ _ _ s).trans (State.countWithdrawn_inner _ _)).thenSame rfl

theorem State.drainCloses_inner (n : Nat) : ∀ s, Inner s (State.drainCloses n s) := by
  induction n with
  | zero => exact State.runWork_inner
  | succ n ih =>
    intro s
    unfold State.drainCloses
    split
    · exact State.runWork_inner s
    · exact ((State.runWork_inner s).trans (State.closeNextDay_inner _ _ _ _)).trans (ih _)

theorem State.dayBoundary_inner (g : Tables) (d : Nat) (s : State) :
    Inner s (s.dayBoundary g d) := by
  unfold State.dayBoundary
  simp only
  split
  · exact .same rfl
  · exact State.addWork_inner _ s

theorem State.dayBoundaries_inner (g : Tables) (n : Nat) : ∀ d s,
    Inner s (State.dayBoundaries g d n s) := by
  induction n with
  | zero => exact fun _ => .refl
  | succ n ih => exact fun d s => (State.dayBoundary_inner g d s).trans (ih _ _)

/-! ### Transfer and the start of a second -/

theorem State.changeOver_inner (o n : Tables) (s : State) : Inner s (s.changeOver o n) := .same rfl

theorem State.finishChangeOver_inner (s : State) : Inner s s.finishChangeOver := by
  unfold State.finishChangeOver
  split
  · exact .refl s
  · exact .same rfl

theorem State.claimTransfer_inner (s : State) : Inner s s.claimTransfer := by
  unfold State.claimTransfer
  split
  · exact .refl s
  · exact .same rfl

theorem State.windowLowered_inner (o n : Tables) (d : Nat) (s : State) :
    Inner s (s.windowLowered o n d) := by
  unfold State.windowLowered
  split
  · exact State.addWork_inner _ s
  · exact .refl s

theorem State.adopt_inner (n : Tables) (s : State) : Inner s (s.adopt n) := .same rfl

theorem State.mainsAfter_inner {w : EventRec → State → State} (hw : Writes w) (o n : Tables)
    (s : State) : Inner s (s.mainsAfter w o n) := by
  unfold State.mainsAfter
  split
  · exact .refl s
  · exact State.mainsChanged_inner hw s

theorem State.transferBy_inner {w : EventRec → State → State} (hw : Writes w) (b d : Nat)
    (s : State) : Inner s (s.transferBy w b d) := by
  unfold State.transferBy
  split
  · exact (((((((State.adopt_inner _ s).trans (State.changeOver_inner _ _ _)).trans
      (State.claimTransfer_inner _)).trans (hw _ _)).trans
      (State.raiseAll_inner known_stageChanged _)).trans (State.mainsAfter_inner hw _ _ _)).trans
      (State.windowLowered_inner _ _ _ _))
  · exact .refl s

theorem State.transferAt_inner (b d : Nat) (s : State) : Inner s (s.transferAt b d) :=
  State.transferBy_inner State.writeEvent_inner b d s

theorem State.recordLater_inner (e : EventRec) (s : State) : Inner s (s.recordLater e) :=
  State.addWork_inner _ s

theorem State.dropUnpaired_inner (s : State) : Inner s s.dropUnpaired := .same rfl

theorem State.skipSecond_inner (s : State) : Inner s s.skipSecond := .same rfl

theorem State.beginSecond_inner (s : State) : Inner s s.beginSecond := .same rfl

theorem State.reachWithdrawalPoint_inner (s : State) : Inner s s.reachWithdrawalPoint := .same rfl

theorem State.enterRecording_inner (s : State) : Inner s s.enterRecording :=
  .one (.mode _ .recording (by decide))

theorem State.startRecording_inner (b d : Nat) (i : Bool) (s : State) :
    Inner s (s.startRecording b d i) :=
  ((State.transferAt_inner b d s).trans (State.enterRecording_inner _)).trans
    ((State.openSet_inner _ _).trans (State.joinDay_inner _ _))

theorem State.intervalBoundary_inner (s : State) : Inner s s.intervalBoundary := by
  unfold State.intervalBoundary
  simp only
  split
  · exact .refl s
  · exact .refl s
  · exact State.transferAt_inner _ _ s
  · exact (State.transferAt_inner _ _ s).trans (State.openSet_inner _ _)
  · exact State.startRecording_inner _ _ _ s

theorem State.clearYear_inner (y : Nat) (s : State) : Inner s (s.clearYear y) := .same rfl

theorem State.boundaries_inner (s : State) : Inner s s.boundaries := by
  unfold State.boundaries
  simp only
  have h : Inner s (if s.time.counter % 1800 = 0 then s.intervalBoundary else s) :=
    (Inner.refl s).ite (State.intervalBoundary_inner s)
  split
  · split
    · exact h.trans (State.dayBoundary_inner _ _ _)
    · exact h.ite (State.clearYear_inner _ _)
  · exact h

/-! ### Boundaries -/

theorem State.runBoundaries_inner (s : State) : Inner s s.runBoundaries := by
  unfold State.runBoundaries
  split
  · exact .refl s
  · exact State.boundaries_inner s

theorem State.forgetRecovered_inner (s : State) : Inner s s.forgetRecovered := .same rfl

theorem State.leaveInterval_inner (o m : Nat) (s : State) : Inner s (s.leaveInterval o m) :=
  (((((State.addWork_inner _ s).trans (State.recordLater_inner _ _)).trans
    (State.dayBoundaries_inner _ _ _ _)).trans
    (State.transferBy_inner State.recordLater_inner _ _ _)).trans
    (State.openSet_inner _ _)).trans (State.runWork_inner _)

theorem State.stepRecording_inner (o m : Nat) (s : State) : Inner s (s.stepRecording o m) := by
  unfold State.stepRecording
  split
  · split
    · exact Inner.via (State.note_inner _ _ _ _) rfl
    · exact State.leaveInterval_inner _ _ s
  · exact State.note_inner _ _ _ s

theorem State.cross_inner (b : HeldBoundary) (s : State) : Inner s (s.cross b) := by
  cases b
  · exact (((State.finishChangeOver_inner s).trans (State.reachWithdrawalPoint_inner _)).trans
      (State.runBoundaries_inner _)).trans (State.forgetRecovered_inner _)
  · exact (((State.finishChangeOver_inner s).trans (State.stepRecording_inner _ _ _)).trans
      (State.reachWithdrawalPoint_inner _)).trans (State.forgetRecovered_inner _)
  · exact State.finishChangeOver_inner s

theorem State.hold_inner (b : HeldBoundary) (s : State) : Inner s (s.hold b) := .same rfl

theorem State.governSecond_inner (s : State) : Inner s s.governSecond := .same rfl

theorem State.meetMeanwhile_inner (b : HeldBoundary) (s : State) : Inner s (s.meetMeanwhile b) := by
  unfold State.meetMeanwhile
  simp only
  split
  · exact (State.finishChangeOver_inner s).trans (State.transferAt_inner _ _ _)
  · exact State.finishChangeOver_inner s

theorem State.meet_inner (b : HeldBoundary) (s : State) : Inner s (s.meet b) := by
  unfold State.meet
  split
  · exact ((State.meetMeanwhile_inner b s).trans (State.beginSecond_inner _)).trans
      (State.hold_inner b _)
  · exact (State.cross_inner b s).trans (State.beginSecond_inner _)

theorem State.withInputs_inner (latches : BitVec 16) (slots : List (Option ValueSlot)) (s : State) :
    Inner s (s.withInputs latches slots) := .same rfl

theorem State.withLinkSlots_inner (slots : List (Option LinkSlot)) (s : State) :
    Inner s (s.withLinkSlots slots) := .same rfl

theorem State.makeCheck_inner (s : State) : Inner s s.makeCheck := by
  unfold State.makeCheck
  split
  · exact .refl s
  · refine Inner.trans ?_ (State.withInputs_inner _ _ _)
    exact Inner.via (State.endSelfCheck_inner _ _ _ _) rfl

theorem State.makeSample_inner (s : State) : Inner s s.makeSample := by
  unfold State.makeSample
  split
  · exact .refl s
  · refine Inner.trans ?_ (State.withLinkSlots_inner _ _)
    exact Inner.via (State.sampleStacks_inner _) rfl

theorem State.passHeld_inner (s : State) : Inner s s.passHeld := by
  unfold State.passHeld
  split
  · exact .refl s
  · exact ((((State.cross_inner _ s).trans (State.governSecond_inner _)).trans
      (State.makeCheck_inner _)).trans (State.makeSample_inner _)).trans (State.runWork_inner _)

theorem State.passHeld_counter (s : State) : s.passHeld.time.counter = s.time.counter :=
  (State.passHeld_inner s).clock_and_power.1

theorem State.passHeld_power (s : State) : s.passHeld.supply.power = s.supply.power :=
  (State.passHeld_inner s).clock_and_power.2

/-! ### Time base -/

theorem State.countSecond_quiet (s : State) : Quiet s s.countSecond :=
  .one (.advance _ (s.time.counter + 1) (Nat.le_succ _))

theorem State.secondBoundary_quiet (s : State) : Quiet s s.secondBoundary :=
  (((State.passHeld_inner s).trans (State.dropUnpaired_inner _)).quiet.trans
    (State.countSecond_quiet _)).trans ((State.meet_inner _ _).trans (State.runWork_inner _)).quiet

theorem State.referencePulse_inner (p : Nat) (s : State) : Inner s (s.referencePulse p) := by
  unfold State.referencePulse
  simp only
  split
  · exact .same rfl
  · exact Inner.via ((State.writeEvent_inner _ _).trans (State.raiseAll_inner known_time _)) rfl

theorem State.takePulse_inner (p : Nat) (s : State) : Inner s (s.takePulse p) := by
  unfold State.takePulse
  split
  · exact .same rfl
  · split
    · exact .refl s
    · exact State.referencePulse_inner p s

theorem State.missPulse_inner (s : State) : Inner s s.missPulse := by
  unfold State.missPulse
  split
  · exact .refl s
  · split
    · exact .same rfl
    · exact Inner.via ((State.note_inner _ _ _ _).trans (State.raiseAll_inner known_time _)) rfl

theorem State.putTime_quiet {t m : Nat} {s : State} (h : s.time.counter ≤ t) :
    Quiet s (s.putTime t m) := .one (.advance _ t h)

theorem State.putTime_outer (t m : Nat) (s : State) : Outer s (s.putTime t m) := .one (.clock _ t)

theorem State.validate_inner (s : State) : Inner s s.validate := .same rfl

theorem State.setClock_outer (t m : Nat) (s : State) : Outer s (s.setClock t m) :=
  (((State.passHeld_inner s).trans (State.skipSecond_inner _)).outer.trans
    (State.putTime_outer t m _)).trans
    (((State.validate_inner _).trans (State.raiseAll_inner known_time _)).trans
    (State.meet_inner _ _)).outer

theorem State.forwardStep_quiet {t : Nat} (m : Nat) {s : State} (h : s.time.counter ≤ t) :
    Quiet s (s.forwardStep t m) := by
  have k : Inner s s.passHeld.skipSecond :=
    (State.passHeld_inner s).trans (State.skipSecond_inner _)
  exact (k.quiet.trans (State.putTime_quiet (k.counter.trans_le h))).trans
    ((State.raiseAll_inner known_time _).trans (State.meet_inner _ _)).quiet

theorem State.startAgain_outer (s : State) : Outer s s.startAgain :=
  (State.returnGrant_inner s).outer.trans (.one (.resume _))

theorem State.resumeRecovery_outer (t m : Nat) (s : State) : Outer s (s.resumeRecovery t m) :=
  ((State.putTime_outer t m s).trans (((State.validate_inner _).trans
    (State.note_inner _ _ _ _)).trans (State.raiseAll_inner known_time _)).outer).trans
    (State.startAgain_outer _)

end Sys2Proof.Machine
end

