-- ==== Sys2Proof/Laws/ReachStore.lean ====
section
/-! SUPPORT. What the operations of the stage, the archive, the annotations, the readouts and the record store
do to the view of Laws/Moves.lean. -/

namespace Sys2Proof.Machine

/-! ### Busy operations -/

theorem State.acceptBusy_leads (l : Link) (c : BusyCmd) (s : State) :
    (s.acceptBusy l c).leads (Inner s) :=
  State.accept_leads (((State.beginOp_inner l c s).trans (State.claimWrite_inner _ _)).trans
    (State.settle_inner _))

theorem State.giveBack_inner (l : Link) (r : Reason) (i : Option Nat) (s : State) :
    Inner s (s.giveBack l r i) :=
  ((State.endOp_inner _ _ _ _ _ s).trans (State.dropGrant_inner _)).trans (State.settle_inner _)

theorem State.commit_inner (g : Grant) (l : Link) (ok : Bool) (r : Reason) {p : State → State}
    {s : State} (h : Inner s (p s)) : Inner s (s.commit g l ok r p) := by
  unfold State.commit
  split
  · exact h.trans (State.startGrant_inner g _)
  · exact State.giveBack_inner _ _ _ s

theorem State.programStage_inner (g : StageSet) (s : State) : Inner s (s.programStage g) :=
  State.programArea_inner _ (fun _ => .inl rfl) s

theorem State.programApproval_inner (l : Link) (s : State) : Inner s (s.programApproval l) := by
  unfold State.programApproval
  split
  · exact State.programArea_inner _ (fun _ => .inl rfl) s
  · exact State.programStage_inner _ s

theorem State.programPointers_inner (r : RingName) (p : Pointers) (s : State) :
    Inner s (s.programArea (ConfigArea.setPointers r p)) :=
  State.programArea_inner _ (fun _ => .inl (by cases r <;> rfl)) s

theorem State.programReport_inner (l : Link) (y : Nat) (s : State) :
    Inner s (s.programReport l y) := by
  unfold State.programReport
  split
  · exact .refl s
  · exact (State.programImage_inner _ _ s).trans (State.setOpCmd_inner _ _ _)

theorem State.programMode_inner {m : Mode} (h : m ≠ .suspended) (s : State) :
    Inner s (s.programMode m) := State.programArea_inner _ (fun _ => .inr h) s

theorem State.commitStage_inner (g : Grant) (l : Link) (c : BusyCmd) (s : State) :
    Inner s (s.commitStage g l c) :=
  State.commit_inner _ _ _ _ (State.programStage_inner _ s)

theorem State.commitApprove_inner (g : Grant) (l : Link) (s : State) :
    Inner s (s.commitApprove g l) := by
  unfold State.commitApprove
  split
  · split
    · exact State.giveBack_inner _ _ _ s
    · exact (State.programApproval_inner l s).trans (State.startGrant_inner g _)
  · exact State.giveBack_inner _ _ _ s

/-! ### The stage -/

theorem State.putStage_inner (g : StageSet) (s : State) : Inner s (s.putStage g) :=
  Inner.via (State.swapArea_inner _) rfl

theorem State.staged_inner (g : Grant) (l : Link) (c : BusyCmd) (s : State) :
    Inner s (s.staged g l c) := by
  unfold State.staged
  exact (State.putStage_inner _ s).ite
    ((State.note_inner _ _ _ _).trans (State.raiseAll_inner known_stageChanged _))

theorem State.stageWithdrawn_inner (g : Grant) (s : State) : Inner s (s.stageWithdrawn g) :=
  ((State.putStage_inner _ s).trans (State.note_inner _ _ _ _)).trans
    (State.raiseAll_inner known_stageChanged _)

theorem State.stageRejected_inner (g : Grant) (s : State) : Inner s (s.stageRejected g) :=
  ((State.putStage_inner _ s).trans (State.note_inner _ _ _ _)).trans
    (State.raiseAll_inner known_stageChanged _)

theorem State.stageApproved_inner (g : Grant) (l : Link) (s : State) :
    Inner s (s.stageApproved g l) :=
  ((State.putStage_inner _ s).trans (State.note_inner _ _ _ _)).trans
    (State.raiseAll_inner known_stageChanged _)

theorem State.approveNow_inner (n : Tables) (s : State) : Inner s (s.approveNow n) :=
  Inner.via (State.swapArea_inner _) rfl

theorem State.approved_inner (g : Grant) (l : Link) (s : State) : Inner s (s.approved g l) := by
  unfold State.approved
  split
  · exact ((((State.approveNow_inner _ s).trans (State.note_inner _ _ _ _)).trans
      (State.note_inner _ _ _ _)).trans (State.raiseAll_inner known_stageChanged _)).trans
      (State.mainsAfter_inner State.writeEvent_inner _ _ _)
  · exact State.stageApproved_inner g l s

/-! ### The archive and the mode -/

theorem State.collected_inner (l : Link) (r : RingName) (n : Nat) (s : State) :
    Inner s (s.collected l r n) := by
  have h : Inner s { s with
      store := (s.store.setPointers r ((s.store.pointers r).collect n)).rearm r } := by
    refine .same ?_
    unfold Store.rearm
    split <;> cases r <;> rfl
  exact (h.trans (State.swapArea_inner _)).trans
    (State.endOp_inner _ _ _ _ _ _)

theorem State.reportSlot_inner (y i : Nat) (s : State) : Inner s (s.reportSlot y i) :=
  (Inner.refl s).ite (State.modSlot_inner _ _ s)

theorem State.reported_inner (l : Link) (y : Nat) (i : Option Nat) (s : State) :
    Inner s (s.reported l y i) := by
  unfold State.reported
  split
  · exact State.endOp_inner _ _ _ _ _ s
  · exact ((State.reportSlot_inner _ _ s).trans (State.putImage_inner _ _ _)).trans
      (State.endOp_inner _ _ _ _ _ _)

theorem State.setMode_inner {m : Mode} (h : m ≠ .suspended) (s : State) : Inner s (s.setMode m) :=
  .one (.mode _ m h)

theorem State.putMode_inner {m : Mode} (h : m ≠ .suspended) (s : State) : Inner s (s.putMode m) :=
  (State.setMode_inner h s).trans (State.swapArea_inner _)

theorem State.inServiceDone_inner (g : Grant) (l : Link) (s : State) :
    Inner s (s.inServiceDone g l) :=
  ((State.putMode_inner (by decide) s).trans (State.note_inner _ _ _ _)).trans
    (State.endOp_inner _ _ _ _ _ _)

theorem State.beginWithdrawal_inner (s : State) : Inner s s.beginWithdrawal := .same rfl

theorem State.withdrawn_inner (s : State) : Inner s s.withdrawn :=
  (State.putMode_inner (by decide) s).trans (State.beginWithdrawal_inner _)

theorem State.eraseStacks_inner (s : State) : Inner s s.eraseStacks := .same rfl

theorem State.eraseScan_inner (s : State) : Inner s s.eraseScan := .same rfl

theorem State.eraseRecorder_inner (s : State) : Inner s s.eraseRecorder := .one (.emptyQueue _)

theorem State.eraseStore_inner (s : State) : Inner s s.eraseStore :=
  (((Relation.ReflTransGen.single (.emptyRings s.view)).tail (.forget _)).tail
    (.program _ .commissioning (.inr (by decide)))).tail (.swap _)

theorem State.eraseRest_inner (s : State) : Inner s s.eraseRest :=
  .one (.mode _ .commissioning (by decide))

theorem State.eraseComplete_inner (l : Link) (s : State) : Inner s (s.eraseComplete l) :=
  ((((((State.eraseStacks_inner s).trans (State.eraseScan_inner _)).trans
    (State.eraseRecorder_inner _)).trans (State.eraseStore_inner _)).trans
    (State.eraseRest_inner _)).trans (State.mainsAfter_inner State.writeEvent_inner _ _ _)).trans
    (State.endOp_inner _ _ _ _ _ _)

/-! ### Annotations -/

theorem State.putMarks_inner (m : Marks) (s : State) : Inner s (s.putMarks m) := .same rfl

theorem State.walkOn_inner (op : AnnOp) (s : State) : Inner s (s.walkOn op) := by
  unfold State.walkOn
  split
  · exact State.endAnnotation_inner _ _ _ s
  · split
    · exact (State.setAnnotation_inner _ s).trans (State.setWaiting_inner _ _ _)
    · exact State.setAnnotation_inner _ s

theorem State.beginAnnotation_inner (op : AnnOp) (s : State) : Inner s (s.beginAnnotation op) :=
  (((State.putMarks_inner _ s).trans (State.beginOp_inner _ _ _)).trans
    (State.walkOn_inner _ _)).trans (State.settle_inner _)

theorem State.annotationRead_inner (op : AnnOp) (q : Nat) (s : State) :
    Inner s (s.annotationRead op q) := by
  unfold State.annotationRead
  split
  · exact State.walkOn_inner _ s
  · split
    · exact (State.setAnnotation_inner _ s).trans (State.setWaiting_inner _ _ _)
    · exact State.walkOn_inner _ s

theorem State.moveContribution_inner (o n : IntervalRec) (s : State) :
    Inner s (s.moveContribution o n) := .same rfl

theorem State.programRewrite_inner (q : Nat) (n : IntervalRec) (s : State) :
    Inner s (s.programRewrite q n) := .one (.putImage _ _ _)

theorem State.replaceImage_inner (q : Nat) (o n : IntervalRec) (s : State) :
    Inner s (s.replaceImage q o n) :=
  (Relation.ReflTransGen.single (.putInterval s.view _ _)).tail (.putImage _ _ _)

theorem State.completeRewrite_inner (op : AnnOp) (o n : IntervalRec) (s : State) :
    Inner s (s.completeRewrite op o n) :=
  (State.moveContribution_inner o n s).trans (State.setAnnotation_inner _ _)

/-! ### The normaliser's and the recorder's steps -/

theorem State.showSecond_inner (n : NormSet) (s : State) : Inner s (s.showSecond n) := .same rfl

theorem State.handSecond_inner (m : Mode) (n : NormSet) (s : State) :
    Inner s (s.handSecond m n) := by
  unfold State.handSecond
  split <;> exact .same rfl

theorem State.normaliseSecond_inner (p : SampleSet) (q : StackSet) (s : State) :
    Inner s (s.normaliseSecond p q) :=
  Inner.via ((State.showSecond_inner _ _).trans (State.handSecond_inner _ _ _)) rfl

theorem State.setRunning_inner (n : NormSet) (a : List AccSet) (s : State) :
    Inner s (s.setRunning n a) := by
  unfold State.setRunning
  split
  · exact .same rfl
  · exact .refl s

theorem State.accumulateSecond_inner (n : NormSet) (s : State) : Inner s (s.accumulateSecond n) :=
  Inner.via ((((State.addHanded_inner n _).trans (State.setRunning_inner _ _ _)).trans
    (State.runWork_inner _)).trans (State.settle_inner _)) rfl

theorem State.resumeQueued_inner (s : State) : Inner s s.resumeQueued := by
  unfold State.resumeQueued
  split
  · exact .refl s
  · split
    · exact State.walkOn_inner _ s
    · exact .refl s

theorem State.commitCloseDays_inner (d : Nat) (s : State) : Inner s (s.commitCloseDays d) := by
  unfold State.commitCloseDays
  split
  · exact State.refuseOp_inner _ _ s
  · split
    · exact State.endOp_inner _ _ _ _ _ s
    · exact ((State.note_inner _ _ _ s).trans (State.addWork_inner _ _)).trans
        (State.setOpCmd_inner _ _ _)

theorem State.closeOpenSets_inner (s : State) : Inner s s.closeOpenSets :=
  Inner.foldl (fun t b => State.closeSetFlagged_inner b true false t) _ s

theorem State.startWithdrawal_inner (w : Withdrawal) (s : State) :
    Inner s (s.startWithdrawal w) := .same rfl

theorem State.withdrawalWork_inner (w : Withdrawal) (s : State) : Inner s (s.withdrawalWork w) :=
  (((((State.closeOpenSets_inner s).trans (State.startWithdrawal_inner w _)).trans
    (State.addWork_inner _ _)).trans (State.drainCloses_inner _ _)).trans
    (State.resumeQueued_inner _)).trans (State.settle_inner _)

/-! ### Readouts -/

theorem State.openReadout_inner (l : Link) (r : Readout) (s : State) :
    Inner s (s.openReadout l r) := (State.modPort_inner _ _ s).trans (State.settle_inner _)

theorem State.readFor_inner (l : Link) (r : Readout) (s : State) : Inner s (s.readFor l r) := by
  unfold State.readFor
  split <;> exact State.modPort_inner _ _ s

theorem State.sendBlock_inner (l : Link) (s : State) : Inner s (s.sendBlock l) := by
  unfold State.sendBlock
  split
  · exact State.modPort_inner _ _ s
  · exact .refl s
  · split
    · exact State.modPort_inner _ _ s
    · exact .refl s

theorem State.stopStream_inner (l : Link) (s : State) : Inner s (s.stopStream l) :=
  ((State.modPort_inner _ _ s).trans (State.abandonReadoutGrant_inner _ _)).trans
    (State.settle_inner _)

theorem State.stopFrame_inner (l : Link) (a : List Byte) (s : State) :
    Inner s (s.stopFrame l a) := by
  unfold State.stopFrame
  split
  · exact .refl s
  · split
    · exact State.refuse_inner l _ s
    · exact State.stopStream_inner l s

/-! ### The store's writes -/

theorem setPointers_inner (r : RingName) (p : Pointers) (s : State) :
    Inner s { s with store := s.store.setPointers r p } := by
  cases r <;> exact .same rfl

theorem setArmed_inner (r : RingName) (b : Bool) (s : State) :
    Inner s { s with store := s.store.setArmed r b } := by
  cases r <;> exact .same rfl

theorem dropAt_inner (r : RingName) (p : Nat) (s : State) :
    Inner s { s with store := s.store.dropAt r p } := by
  cases r
  · exact .one (.dropInterval _ p)
  · exact .one (.dropDay _ p)
  · exact .one (.dropEvent _ p)

theorem putRecord_inner (x : QueueItem) (s : State) :
    Inner s { s with store := s.store.putRecord x } := by
  cases x
  · exact .one (.putInterval _ _ _)
  · exact .one (.putDay _ _ _)
  · exact .one (.putEvent _ _ _)
  · exact .same rfl

theorem State.overwrite_inner (r : RingName) (s : State) : Inner s (s.overwrite r) := by
  have h : Inner s { s with store := ((s.store.setPointers r (s.store.pointers r).overwrite).dropAt r
      (r.position (s.store.pointers r).oldest)) } :=
    (setPointers_inner r _ s).trans (dropAt_inner r _
      { s with store := s.store.setPointers r (s.store.pointers r).overwrite })
  unfold State.overwrite
  simp only
  split
  · exact h.trans (Inner.via (State.raiseAll_inner known_collectionDue _) rfl)
  · exact h

theorem State.programQueued_inner (x : QueueItem) (s : State) : Inner s (s.programQueued x) := by
  cases x
  · exact State.programPointers_inner _ _ s
  · exact State.programPointers_inner _ _ s
  · exact State.programPointers_inner _ _ s
  · exact State.programImage_inner _ _ s

theorem State.makeRoom_inner (x : QueueItem) (s : State) : Inner s (s.makeRoom x) := by
  unfold State.makeRoom
  split
  · exact .refl s
  · exact (Inner.refl s).ite (State.overwrite_inner _ s)

theorem State.beginQueueWrite_inner (g : Grant) (s : State) : Inner s (s.beginQueueWrite g) := by
  unfold State.beginQueueWrite
  split
  · exact State.startGrant_inner g s
  · exact ((State.makeRoom_inner _ s).trans (State.programQueued_inner _ _)).trans
      (State.startGrant_inner g _)

theorem State.programTransfer_inner (s : State) : Inner s s.programTransfer :=
  State.programArea_inner _ (fun _ => .inl rfl) s

theorem State.programProtection_inner (s : State) : Inner s s.programProtection :=
  State.programArea_inner _ (fun _ => .inl rfl) s

theorem State.checkHeadroom_inner (r : RingName) (s : State) : Inner s (s.checkHeadroom r) := by
  unfold State.checkHeadroom
  split
  · split
    · exact (setArmed_inner r _ s).trans (State.raiseAll_inner known_collectionDue _)
    · exact .refl s
  · exact setArmed_inner r _ s

theorem State.handBack_inner (x : QueueItem) (q : Nat) (s : State) : Inner s (s.handBack x q) := by
  cases x <;> exact .same rfl

theorem State.advanceRing_inner (r : RingName) (s : State) : Inner s (s.advanceRing r) :=
  (setPointers_inner r _ s).trans (State.swapArea_inner _)

theorem State.dequeue_inner (s : State) : Inner s s.dequeue := .one (.dequeue _)

theorem State.written_inner (x : QueueItem) (s : State) : Inner s (s.written x) := by
  have h : Inner s ({ s with store := s.store.putRecord x } : State).dequeue :=
    (putRecord_inner x s).trans (State.dequeue_inner _)
  unfold State.written
  simp only
  split
  · exact h
  · exact ((h.trans (State.advanceRing_inner _ _)).trans (State.handBack_inner _ _ _)).trans
      (State.checkHeadroom_inner _ _)

theorem State.operationWritten_inner (g : Grant) (l : Link) (c : BusyCmd) (s : State) :
    Inner s (s.operationWritten g l c) := by
  cases c with
  | stageChannel i e => exact (State.staged_inner _ _ _ s).trans (State.endOp_inner _ _ _ _ _ _)
  | stageStack i e => exact (State.staged_inner _ _ _ s).trans (State.endOp_inner _ _ _ _ _ _)
  | stageDevice d => exact (State.staged_inner _ _ _ s).trans (State.endOp_inner _ _ _ _ _ _)
  | withdrawStage => exact (State.stageWithdrawn_inner _ s).trans (State.endOp_inner _ _ _ _ _ _)
  | approve => exact (State.approved_inner _ _ s).trans (State.endOp_inner _ _ _ _ _ _)
  | rejectStage => exact (State.stageRejected_inner _ s).trans (State.endOp_inner _ _ _ _ _ _)
  | applyAnnotation op => exact .refl s
  | commitCollection r n => exact State.collected_inner l r n s
  | commitReport y i => exact State.reported_inner l y i s
  | closeDays d t => exact .refl s
  | inService => exact State.inServiceDone_inner g l s
  | withdraw => exact State.withdrawn_inner s
  | eraseArchive => exact State.eraseComplete_inner l s

theorem State.transferWritten_inner (s : State) : Inner s s.transferWritten :=
  Inner.via (State.swapArea_inner _) rfl

theorem State.protectionWritten_inner (s : State) : Inner s s.protectionWritten :=
  State.swapArea_inner s

theorem State.rewriteWritten_inner (s : State) : Inner s s.rewriteWritten := by
  unfold State.rewriteWritten
  split
  · exact .refl s
  · split
    · exact (State.replaceImage_inner _ _ _ s).trans (State.setAnnotation_inner _ _)
    · exact .refl s

theorem State.nextPart_inner (g : Grant) (b : Bool) (s : State) : Inner s (s.nextPart g b) :=
  .same rfl

theorem State.erasePart_inner (n : Nat) (s : State) : Inner s (s.erasePart n) := by
  unfold State.erasePart
  split <;> exact .same rfl

theorem State.programErase_inner (n : Nat) (s : State) : Inner s (s.programErase n) := by
  unfold State.programErase
  split
  · exact .refl s
  · exact .same rfl
  · exact .one (.program _ .commissioning (.inr (by decide)))

theorem State.opWritten_inner (g : Grant) (l : Link) (s : State) : Inner s (s.opWritten g l) := by
  unfold State.opWritten
  split
  · exact State.dropGrant_inner s
  · split
    · exact ((State.erasePart_inner _ s).trans (State.programErase_inner _ _)).trans
        (State.nextPart_inner _ _ _)
    · exact ((State.operationWritten_inner _ _ _ s).trans (State.dropGrant_inner _)).trans
        (State.passHeld_inner _)

theorem State.writeVerified_inner (g : Grant) (s : State) : Inner s (s.writeVerified g) := by
  unfold State.writeVerified
  split
  · split
    · exact State.dropGrant_inner s
    · exact (State.written_inner _ s).trans (State.dropGrant_inner _)
  · exact (State.transferWritten_inner s).trans (State.dropGrant_inner _)
  · exact (State.protectionWritten_inner s).trans (State.dropGrant_inner _)
  · exact (State.rewriteWritten_inner s).trans (State.dropGrant_inner _)
  · exact State.opWritten_inner _ _ s
  · exact State.dropGrant_inner s
  · exact State.dropGrant_inner s

theorem State.ringFailed_inner (g : Grant) (x : QueueItem) (r : RingName) (s : State) :
    Inner s (s.ringFailed g x r) := by
  unfold State.ringFailed
  simp only
  split
  · exact (dropAt_inner r _ s).trans (State.enterFault_inner _ _)
  · exact (putRecord_inner x s).trans (State.enterFault_inner _ _)

theorem State.queueFailed_inner (g : Grant) (x : QueueItem) (s : State) :
    Inner s (s.queueFailed g x) := by
  cases x
  · exact State.ringFailed_inner _ _ _ s
  · exact State.ringFailed_inner _ _ _ s
  · exact State.ringFailed_inner _ _ _ s
  · exact State.enterFault_inner _ s

theorem State.opFailure_inner (g : Grant) (c : BusyCmd) (s : State) :
    Inner s (s.opFailure g c).2 := by
  unfold State.opFailure
  split
  · exact .refl s
  · split
    · exact State.draw_inner s
    · split
      · exact State.draw_inner s
      · exact .refl s
  · exact .refl s

theorem State.opFailed_inner (g : Grant) (l : Link) (s : State) : Inner s (s.opFailed g l) := by
  unfold State.opFailed
  split
  · exact State.dropGrant_inner s
  · exact (((State.opFailure_inner _ _ s).trans (State.enterFault_inner _ _)).trans
      (State.refuseOp_inner _ _ _)).trans (State.passHeld_inner _)

theorem State.writeFailed_inner (g : Grant) (s : State) : Inner s (s.writeFailed g) := by
  unfold State.writeFailed
  split
  · split
    · exact State.dropGrant_inner s
    · exact State.queueFailed_inner _ _ s
  · exact State.enterFault_inner _ s
  · exact State.enterFault_inner _ s
  · exact State.enterFault_inner _ s
  · exact State.opFailed_inner _ _ s
  · exact State.dropGrant_inner s
  · exact State.dropGrant_inner s

theorem State.retry_inner (g : Grant) (s : State) : Inner s (s.retry g) := .same rfl

theorem State.attemptFailed_inner (g : Grant) (s : State) : Inner s (s.attemptFailed g) := by
  unfold State.attemptFailed
  split
  · exact State.writeFailed_inner g s
  · exact State.retry_inner g s

theorem State.attemptEnds_inner (g : Grant) (a : Attempt) (s : State) :
    Inner s (s.attemptEnds g a) := by
  unfold State.attemptEnds
  split
  · exact State.writeVerified_inner g s
  · exact State.attemptFailed_inner g s
  · split
    · exact State.nextPart_inner _ _ s
    · exact State.attemptFailed_inner g s

end Sys2Proof.Machine
end

