-- ==== Sys2Proof/Laws/ReachExec.lean ====
section
/-! SUPPORT. What the snapshot, the recovery and every whole command do to the view of Laws/Moves.lean. -/

namespace Sys2Proof.Machine

/-! ### The snapshot -/

theorem State.finishWrite_inner (n : Nat) : ∀ a s, Inner s (State.finishWrite n a s).2 := by
  induction n with
  | zero => exact fun _ => .refl
  | succ n ih =>
    intro a s
    unfold State.finishWrite
    split
    · exact .refl s
    · exact (State.attemptEnds_inner _ _ s).trans (ih _ _)

theorem State.finishGrant_inner (a : List Attempt) (s : State) : Inner s (s.finishGrant a).2 :=
  (State.finishWrite_inner _ a s).trans (State.dropGrant_inner _)

theorem State.finishTransfer_inner (a : List Attempt) (s : State) :
    Inner s (s.finishTransfer a) := by
  unfold State.finishTransfer
  split
  · split
    · exact (State.programTransfer_inner s).trans (State.transferWritten_inner _)
    · exact (State.programTransfer_inner s).trans (State.enterFault_inner _ _)
  · exact .refl s

theorem State.finishRewrite_inner (s : State) : Inner s s.finishRewrite := by
  unfold State.finishRewrite
  split
  · exact .refl s
  · split
    · exact State.completeRewrite_inner _ _ _ s
    · exact .refl s

theorem State.abandonSeconds_inner (s : State) : Inner s s.abandonSeconds := .same rfl

theorem State.accumulateHanded_inner (s : State) : Inner s s.accumulateHanded :=
  Inner.via (Inner.foldl (fun t n => State.addHanded_inner n t) _ _) rfl

theorem State.finishWork_inner (s : State) : Inner s s.finishWork :=
  (((State.abandonSeconds_inner s).trans (State.accumulateHanded_inner _)).trans
    (State.runWork_inner _)).thenSame rfl

theorem State.windUp_inner (a : List Attempt) (s : State) : Inner s (s.windUp a) :=
  (((State.finishRewrite_inner s).trans (State.finishTransfer_inner a _)).trans
    (State.finishWork_inner _)).trans (State.finishChangeOver_inner _)

theorem State.notePowerLoss_inner (c : SnapCause) (s : State) : Inner s (s.notePowerLoss c) := by
  cases c
  · exact State.note_inner _ _ _ s
  · exact .refl s
  · exact .refl s

theorem State.stopScan_inner (s : State) : Inner s s.stopScan := .same rfl

theorem State.silence_inner (s : State) : Inner s s.silence := .one (.calm _)

theorem State.startSnapshot_quiet (c : SnapCause) (a : List Attempt) {s : State}
    (h : s.supply.mode ≠ .suspended) : Quiet s (s.startSnapshot c a) := by
  have k : Inner s (((s.finishGrant a).2.windUp (s.finishGrant a).1).notePowerLoss c) :=
    ((State.finishGrant_inner a s).trans (State.windUp_inner _ _)).trans
      (State.notePowerLoss_inner c _)
  exact (k.trans (((State.abandonSeconds_inner _).trans (State.stopScan_inner _)).trans
    (State.silence_inner _))).quiet.trans (.one (.take _ _ rfl (k.mode h) rfl))

theorem State.enterHalt_quiet (s : State) : Quiet s s.enterHalt := .one (.halt _)

theorem State.halt_quiet (s : State) : Quiet s s.halt :=
  (State.silence_inner s).quiet.trans (State.enterHalt_quiet _)

theorem State.takeCause_quiet (c : SnapCause) (a : List Attempt) (s : State) :
    Quiet s (s.takeCause c a) := by
  unfold State.takeCause
  split
  · split
    · exact State.halt_quiet s
    · rename_i h
      exact State.startSnapshot_quiet c a h
  · exact State.halt_quiet s
  · exact .refl s
  · exact .refl s

theorem State.failSnapshot_inner (s : State) : Inner s s.failSnapshot :=
  Inner.via ((State.writeEvent_inner _ _).trans (State.raiseAll_inner known_store _)) rfl

theorem State.endWriting_quiet (o : SnapshotEnd) (s : State) : Quiet s (s.endWriting o) := by
  cases o
  · exact .one (.keep _)
  · exact .same rfl
  · exact (State.failSnapshot_inner s).quiet

/-! ### Recovery -/

theorem State.restartLinks_inner (ops : List (Option OpSnapshot)) (s : State) :
    Inner s (s.restartLinks ops) :=
  (Relation.ReflTransGen.single (.calm s.view)).tail (.release _)

theorem held_cases {st : Store} {p : Snapshot} (h : st.held = some p) : st.snapshot = some p := by
  unfold Store.held at h
  split at h
  · exact h
  · cases h

theorem State.takeUp_quiet (s : State) : Quiet s s.takeUp := by
  unfold State.takeUp
  split
  · rename_i p h
    exact (Quiet.one (s := s) (t := s.restore p) (.restore s.view p (held_cases h))).trans
      (State.restartLinks_inner _ _).quiet
  · exact ((Inner.one (s := s) (t := s.rebuild) (.emptyQueue s.view)).trans (State.restartLinks_inner _ _)).quiet

/-- What a state's view says of its snapshot and stored mode stays through the taking up. -/
theorem State.takeUp_store (s : State) : s.takeUp.view.snap = s.view.snap ∧
    s.takeUp.view.area = s.view.area := by
  unfold State.takeUp
  split <;> exact ⟨rfl, rfl⟩

theorem State.governing_cases (s : State) :
    s.governing = s.view.area ∨ ∃ p, s.view.snap = some p ∧ s.governing = p.mode := by
  unfold State.governing
  split
  · rename_i p h
    exact .inr ⟨p, held_cases h, rfl⟩
  · exact .inl rfl

theorem State.recover_outer (b : Bool) (s : State) :
    Outer s (((s.selfTest b).decideClock.clearScan.takeUp).enterStarting s.governing) := by
  have h : Outer s (s.selfTest b).decideClock.clearScan.takeUp :=
    (Outer.one (s := s) (t := (s.selfTest b).decideClock.clearScan) (.clock s.view _)).trans
      (State.takeUp_quiet _).outer
  refine h.trans (.one (.start _ _ ?_))
  rw [(State.takeUp_store _).1, (State.takeUp_store _).2]
  exact s.governing_cases

theorem State.drainAll_inner (s : State) : Inner s s.drainAll := State.drainCloses_inner _ s

theorem State.joinThrough_inner (a b : Nat) (s : State) : Inner s (s.joinThrough a b) := .same rfl

theorem State.overdueDays_inner (n : Nat) (s : State) : Inner s (s.overdueDays n) :=
  ((State.addWork_inner _ s).trans (State.drainAll_inner _)).trans (State.joinThrough_inner _ _ _)

theorem State.closeHeldSets_inner (e : Option Nat) (s : State) : Inner s (s.closeHeldSets e) :=
  Inner.foldl (fun t b => State.closeSetFlagged_inner b false true t) _ s

theorem State.openAtRecovery_inner (f : Nat) (s : State) : Inner s (s.openAtRecovery f) :=
  ((State.transferAt_inner _ _ s).trans (State.openSet_inner _ _)).trans (State.drainAll_inner _)

theorem State.ranTo_inner (f : Nat) (s : State) : Inner s (s.ranTo f) := .same rfl

theorem State.missedDays_inner (d f : Nat) (s : State) : Inner s (s.missedDays d f) :=
  (State.dayBoundaries_inner _ _ _ s).trans (State.drainAll_inner _)

theorem State.interrupt_inner (b : Nat) (s : State) : Inner s (s.interrupt b) := .same rfl

theorem State.interruptAll_inner (s : State) : Inner s s.interruptAll :=
  Inner.foldl (fun t b => State.interrupt_inner b t) _ s

theorem State.resumeRecording_inner (n f : Nat) (s : State) : Inner s (s.resumeRecording n f) := by
  unfold State.resumeRecording
  split
  · split
    · exact (State.closeHeldSets_inner _ s).trans (State.interrupt_inner _ _)
    · exact ((State.closeHeldSets_inner _ s).trans (State.missedDays_inner _ _ _)).trans
        (State.openAtRecovery_inner _ _)
  · exact (State.missedDays_inner _ _ s).trans (State.openAtRecovery_inner _ _)

theorem State.resumeMode_inner (n f : Nat) (s : State) : Inner s (s.resumeMode n f) := by
  unfold State.resumeMode
  split
  · exact ((State.overdueDays_inner n s).trans (State.resumeRecording_inner _ _ _)).trans
      (State.ranTo_inner _ _)
  · split
    · exact ((State.startRecording_inner _ _ _ s).trans (State.drainAll_inner _)).trans
        (State.ranTo_inner _ _)
    · exact .refl s
  · split
    · exact (State.interruptAll_inner s).trans (State.withdrawalWork_inner _ _)
    · exact .refl s
  · exact .refl s
  · exact .refl s

theorem State.noteLost_inner (f : Nat) (s : State) : Inner s (s.noteLost f) :=
  State.note_inner _ _ _ s

theorem State.lostDays_inner (f : Nat) (s : State) : Inner s (s.lostDays f) := by
  unfold State.lostDays
  split
  · exact State.missedDays_inner _ _ s
  · exact State.missedDays_inner _ _ s
  · exact .refl s

theorem State.lostWithdrawal_inner (f : Nat) (s : State) : Inner s (s.lostWithdrawal f) := by
  unfold State.lostWithdrawal
  simp only
  refine Inner.trans ?_ (State.finalSlots_inner _)
  split
  · exact (State.addWork_inner _ s).trans (State.drainAll_inner _)
  · exact ((State.addWork_inner _ s).trans (State.drainAll_inner _)).trans (State.note_inner _ _ _ _)

theorem State.lostMode_inner (f : Nat) (s : State) : Inner s (s.lostMode f) := by
  unfold State.lostMode
  split
  · exact (((State.noteLost_inner f s).trans (State.lostDays_inner _ _)).trans
      (State.openAtRecovery_inner _ _)).trans (State.ranTo_inner _ _)
  · exact State.noteLost_inner f s
  · exact (State.noteLost_inner f s).trans (State.lostWithdrawal_inner _ _)
  · exact .refl s
  · exact .refl s

theorem State.rebuildYears_inner (s : State) : Inner s s.rebuildYears := .same rfl

theorem State.recoveryWork_inner (s : State) : Inner s s.recoveryWork := by
  unfold State.recoveryWork
  split
  · exact State.resumeMode_inner _ _ s
  · exact (State.rebuildYears_inner s).trans (State.lostMode_inner _ _)

theorem State.clearMark_inner (c : Bool) (s : State) : Inner s (s.clearMark c) := by
  unfold State.clearMark
  split
  · exact .same rfl
  · split
    · exact .refl s
    · exact (State.draw_inner s).trans (State.enterFault_inner _ _)

theorem State.endLinks_inner (s : State) : Inner s s.endLinks := by
  unfold State.endLinks
  split
  · exact .refl s
  · exact .same rfl

theorem State.endFlags_known {s : State} (h : Known s.attention.held) : Known s.endFlags := by
  unfold State.endFlags
  refine (known_restarted.or ?_).or h
  split
  · exact known_store
  · exact known_zero

theorem State.endAttention_inner (s : State) : Inner s s.endAttention := by
  unfold State.endAttention
  split
  · exact (Relation.ReflTransGen.single (.raiseAll s.view _ State.endFlags_known)).tail (.release _)
  · exact .one (.begins _ _ State.endFlags_known)

theorem State.endClaims_inner (s : State) : Inner s s.endClaims := .same rfl

theorem State.leaveStarting_quiet (s : State) : Quiet s s.leaveStarting := .one (.leave _)

theorem State.finishRecovery_quiet (c : Bool) (s : State) : Quiet s (s.finishRecovery c) :=
  ((((((State.recoveryWork_inner s).trans (State.clearMark_inner c _)).trans
    (State.note_inner _ _ _ _)).trans (State.endLinks_inner _)).trans
    (State.endAttention_inner _)).trans (State.endClaims_inner _)).quiet.trans
    ((State.leaveStarting_quiet _).trans
      ((State.runWork_inner _).trans (State.settle_inner _)).quiet)

theorem State.suspend_quiet {s : State} (h : s.supply.power = .starting) : Quiet s s.suspend := by
  have k := (State.endLinks_inner s).trans (State.endAttention_inner _)
  exact k.quiet.trans (.one (.suspend _ (k.power.trans h)))

end Sys2Proof.Machine
end

