-- ==== Sys2Proof/Laws/ReachAll.lean ====
section
/-! SUPPORT. Said once for all commands: what `exec` does to the view of Laws/Moves.lean (`exec_outer`). -/

namespace Sys2Proof.Machine

/-! ### Link requests -/

theorem State.answer_outer {l : Link} {r : Ruling} {s : State} (h : r.leads (Outer s)) :
    Outer s (s.answer l r) := by
  cases r with
  | argument => exact (State.refuse_inner l _ s).outer
  | sequence => exact (State.refuse_inner l _ s).outer
  | answered t d n => exact Outer.trans (t := t) h (State.reply_inner l _ d t).outer

theorem State.serve_outer {c : Command} {l : Link} {args : List Byte} {rule : State → Ruling}
    {s : State} (h : (rule s).leads (Outer s)) : Outer s (s.serve c l args rule) := by
  rcases s.serve_cases c l args rule with k | ⟨b, k⟩ | ⟨_, _, _, _, k⟩ <;> rw [k]
  · exact (Inner.refl s).outer
  · exact (State.refuse_inner l b s).outer
  · exact State.answer_outer h

theorem Ruling.leads_mono {P Q : State → Prop} (h : ∀ t, P t → Q t) {r : Ruling} (k : r.leads P) :
    r.leads Q := by
  cases r with
  | argument => trivial
  | sequence => trivial
  | answered t d n => exact h t k

theorem State.accept_outer {l : Link} {s t : State} {d : Option (List Byte)} (h : Outer s t) :
    (s.accept l t d).leads (Outer s) := by
  unfold State.accept
  simp only [Ruling.leads]
  split
  · exact h.trans (Inner.same rfl).outer
  · exact h

theorem State.accept_quiet {l : Link} {s t : State} {d : Option (List Byte)} (h : Quiet s t) :
    (s.accept l t d).leads (Quiet s) := by
  unfold State.accept
  simp only [Ruling.leads]
  split
  · exact h.trans (Inner.same rfl).quiet
  · exact h

theorem State.endMark_leads (k : Nat) (c : Option Nat) (a b : Nat) (s : State) :
    (s.endMark k c a b).leads (Inner s) := by
  unfold State.endMark
  split
  · trivial
  · split
    · trivial
    · exact State.putMarks_inner _ s

/-- An offset of more than 2,000 ms names a later second. -/
theorem State.counter_le_of_offset {s : State} {t m p : Nat} (hm : m ≤ 999)
    (h : 2000 < s.offset t m p) : s.time.counter ≤ t := by
  unfold State.offset at h
  omega

theorem State.offsetRuling_leads (l : Link) (t : Nat) {m : Nat} (hm : m ≤ 999) (p : Nat) (s : State) :
    (s.offsetRuling l t m p).leads (Quiet s) := by
  unfold State.offsetRuling
  simp only
  split
  · exact Ruling.leads_mono (fun _ => Inner.quiet) (State.accept_leads (.same rfl))
  · split
    · trivial
    · split
      · refine State.accept_quiet ((State.forwardStep_quiet m ?_).trans
          (State.settle_inner _).quiet)
        rename_i h1 h2 _
        exact State.counter_le_of_offset (p := p) hm (by omega)
      · trivial

theorem State.setTimeRuling_leads (l : Link) (t m p : Nat) (s : State) :
    (s.setTimeRuling l t m p).leads (Outer s) := by
  unfold State.setTimeRuling
  split
  · trivial
  · rename_i hm
    have k := Ruling.leads_mono (fun _ => Quiet.outer)
      (s.offsetRuling_leads l t (Nat.le_of_not_lt hm) p)
    split
    · split
      · split
        · trivial
        · exact State.accept_outer (State.resumeRecovery_outer t m s)
      · trivial
    · exact State.accept_outer ((State.setClock_outer t m s).trans (State.settle_inner _).outer)
    · exact k
    · exact k
    · exact k

/-! ### Every command -/

/-- A command's outcome is a next state that quiet moves lead to. -/
def Leads (s : State) (o : Host.Outcome State Fault Refusal) : Prop := ∀ t, o = .next t → Quiet s t

theorem Leads.next {s t : State} (h : Quiet s t) : Leads s (.next t) := by
  intro u k
  cases k
  exact h

theorem Leads.inner {s t : State} (h : Inner s t) : Leads s (.next t) := .next h.quiet

/-- The commands that may turn the clock back: SET TIME, and the end of a halt. -/
def setsClock : Instr → Bool
  | .setTime _ _ _ => true
  | .haltEnd _ => true
  | _ => false

theorem exec_leads (i : Instr) (hi : setsClock i = false) (s : State) : Leads s (exec i s) := by
  cases i with
  | linkStatus l a => exact .inner (State.serve_inner (State.accept_leads (.refl s)))
  | readTime l a p => exact .inner (State.serve_inner (State.accept_leads (.refl s)))
  | readLive l a => exact .inner (State.serve_inner (State.accept_leads (.refl s)))
  | readEvents l a =>
    exact .inner (State.serve_inner (State.accept_leads (State.markSeen_inner l s)))
  | acknowledgeEvents l a =>
    refine .inner (State.serve_inner ?_)
    split
    · trivial
    · exact State.accept_leads (State.acknowledge_inner _ _ s)
  | setEventMask l a =>
    refine .inner (State.serve_inner ?_)
    split
    · trivial
    · rename_i f h
      exact State.accept_leads (State.setMask_inner _ (readFlagSet_known h) s)
  | submitValue l a =>
    refine .inner (State.serve_inner ?_)
    split
    · trivial
    · split
      · trivial
      · split
        · exact State.accept_leads (State.submit_inner _ _ s)
        · trivial
  | setStackSignals l a =>
    refine .inner (State.serve_inner ?_)
    split
    · trivial
    · split
      · trivial
      · split
        · exact State.accept_leads (State.signal_inner _ _ s)
        · trivial
  | readConfig l a =>
    refine .inner (State.serve_inner ?_)
    split
    · exact State.accept_leads (.refl s)
    · exact State.accept_leads (.refl s)
    · trivial
  | readTally l a =>
    refine .inner (State.serve_inner ?_)
    split
    · trivial
    · split
      · exact State.accept_leads (.refl s)
      · split
        · exact State.accept_leads (.refl s)
        · trivial
  | openReadout l a =>
    refine .inner (State.serve_inner ?_)
    unfold State.openRuling
    split
    · trivial
    · split
      · trivial
      · exact State.accept_leads (State.openReadout_inner _ _ s)
  | stop l a =>
    refine .inner ?_
    split
    · exact State.stopFrame_inner l a s
    · exact State.serve_inner trivial
  | setTime l a p => cases hi
  | stageChannel l a =>
    refine .inner (State.serve_inner ?_)
    split
    · trivial
    · split
      · exact State.acceptBusy_leads _ _ s
      · trivial
  | stageStack l a =>
    refine .inner (State.serve_inner ?_)
    split
    · trivial
    · split
      · exact State.acceptBusy_leads _ _ s
      · trivial
  | stageDevice l a =>
    refine .inner (State.serve_inner ?_)
    split
    · trivial
    · split
      · exact State.acceptBusy_leads _ _ s
      · trivial
  | withdrawStage l a =>
    refine .inner (State.serve_inner ?_)
    split
    · exact State.acceptBusy_leads _ _ s
    · trivial
  | approve l a =>
    refine .inner (State.serve_inner ?_)
    split
    · exact State.acceptBusy_leads _ _ s
    · trivial
  | rejectStage l a =>
    refine .inner (State.serve_inner ?_)
    split
    · trivial
    · exact State.acceptBusy_leads _ _ s
  | markStart l a =>
    refine .inner (State.serve_inner ?_)
    unfold State.markStartRuling
    split
    · trivial
    · split
      · trivial
      · split
        · exact State.putMarks_inner _ s
        · trivial
  | markEnd l a =>
    refine .inner (State.serve_inner ?_)
    unfold State.markEndRuling
    split
    · trivial
    · split
      · trivial
      · split
        · trivial
        · exact State.endMark_leads _ _ _ _ s
        · exact State.endMark_leads _ _ _ _ s
  | applyAnnotation l a =>
    refine .inner (State.serve_inner ?_)
    unfold State.annotationRuling
    split
    · trivial
    · split
      · trivial
      · split
        · trivial
        · trivial
        · exact State.beginAnnotation_inner _ s
  | commitCollection l a =>
    refine .inner (State.serve_inner ?_)
    unfold State.collectionRuling
    split
    · trivial
    · split
      · trivial
      · exact State.acceptBusy_leads _ _ s
  | commitReport l a =>
    refine .inner (State.serve_inner ?_)
    unfold State.reportRuling
    split
    · trivial
    · split
      · trivial
      · trivial
      · exact State.acceptBusy_leads _ _ s
  | closeDays l a =>
    refine .inner (State.serve_inner ?_)
    unfold State.closeDaysRuling
    split
    · trivial
    · split
      · trivial
      · split
        · trivial
        · exact State.accept_leads (State.beginOp_inner _ _ s)
  | inService l a =>
    refine .inner (State.serve_inner ?_)
    split
    · exact State.acceptBusy_leads _ _ s
    · trivial
  | withdraw l a =>
    refine .inner (State.serve_inner ?_)
    split
    · exact State.acceptBusy_leads _ _ s
    · trivial
  | eraseArchive l a =>
    refine .inner (State.serve_inner ?_)
    split
    · exact State.acceptBusy_leads _ _ s
    · trivial
  | restart l a at' =>
    have h : Inner s (s.serve .restart l a fun t => .answered t none false) :=
      State.serve_inner (Inner.refl s)
    refine .next ?_
    split
    · exact h.quiet.trans (State.takeCause_quiet _ _ _)
    · exact h.quiet
  | failedFrame l f => exact .inner (State.failFrame_inner l f s)
  | selectDeasserted l =>
    refine .inner ?_
    split
    · exact (State.modPort_inner _ _ s).trans (State.abandonReadoutGrant_inner _ _)
    · exact State.modPort_inner _ _ s
  | selectAsserted l =>
    refine .inner ?_
    split
    · exact .refl s
    · split <;> exact State.modPort_inner _ _ s
  | stageCommit =>
    refine .inner ?_
    split
    · exact State.commitStage_inner _ _ _ s
    · exact State.commitStage_inner _ _ _ s
    · exact State.commitStage_inner _ _ _ s
    · exact .refl s
  | withdrawStageCommit =>
    refine .inner ?_
    split
    · exact State.commit_inner _ _ _ _ (State.programStage_inner _ s)
    · exact .refl s
  | rejectStageCommit =>
    refine .inner ?_
    split
    · exact State.commit_inner _ _ _ _ (State.programStage_inner _ s)
    · exact .refl s
  | approveCommit =>
    refine .inner ?_
    split
    · exact State.commitApprove_inner _ _ s
    · exact .refl s
  | collectionCommit =>
    refine .inner ?_
    split
    · exact State.commit_inner _ _ _ _ (State.programPointers_inner _ _ s)
    · exact .refl s
  | reportCommit =>
    refine .inner ?_
    split
    · exact State.commit_inner _ _ _ _ (State.programReport_inner _ _ s)
    · exact .refl s
  | closeDaysCommit =>
    refine .inner ?_
    split
    · split
      · exact .refl s
      · exact (State.commitCloseDays_inner _ s).trans (State.settle_inner _)
    · exact .refl s
  | inServiceCommit =>
    refine .inner ?_
    split
    · exact State.commit_inner _ _ _ _ (State.programMode_inner (by decide) s)
    · exact .refl s
  | withdrawCommit =>
    refine .inner ?_
    split
    · exact State.commit_inner _ _ _ _ (State.programMode_inner (by decide) s)
    · exact .refl s
  | withdrawalWork =>
    refine .inner ?_
    split
    · split
      · exact State.withdrawalWork_inner _ s
      · exact .refl s
    · exact .refl s
  | eraseGrant =>
    refine .inner ?_
    split
    · exact State.commit_inner _ _ _ _ (State.programErase_inner 0 s)
    · exact .refl s
  | annotationQueuedWaitEnd =>
    refine .inner ?_
    split
    · split
      · exact (State.walkOn_inner _ s).trans (State.settle_inner _)
      · exact .refl s
    · exact .refl s
  | annotationReadGrant =>
    refine .inner ?_
    split
    · split
      · exact ((State.dropGrant_inner s).trans (State.annotationRead_inner _ _ _)).trans
          (State.settle_inner _)
      · exact (State.dropGrant_inner s).trans (State.settle_inner _)
    · exact .refl s
  | annotationRewriteGrant =>
    refine .inner ?_
    split
    · split
      · split
        · exact ((State.dropGrant_inner s).trans (State.walkOn_inner _ _)).trans
            (State.settle_inner _)
        · exact ((State.programRewrite_inner _ _ s).trans (State.startGrant_inner _ _)).trans
            (State.setAnnotation_inner _ _)
      · exact (State.dropGrant_inner s).trans (State.settle_inner _)
    · exact .refl s
  | annotationRewriteComplete =>
    refine .inner ?_
    split
    · split
      · exact (((State.completeRewrite_inner _ _ _ s).trans (State.walkOn_inner _ _)).trans
          (State.runWork_inner _)).trans (State.settle_inner _)
      · exact .refl s
    · exact .refl s
  | queueWriteGrant =>
    refine .inner ?_
    split
    · exact State.beginQueueWrite_inner _ s
    · exact .refl s
  | writeAttemptComplete a =>
    refine .inner ?_
    split
    · exact (State.attemptEnds_inner _ _ s).trans (State.settle_inner _)
    · exact .refl s
  | transferWriteGrant =>
    refine .inner ?_
    split
    · exact (State.programTransfer_inner s).trans (State.startGrant_inner _ _)
    · exact .refl s
  | protectionWordGrant =>
    refine .inner ?_
    split
    · exact (State.programProtection_inner s).trans (State.startGrant_inner _ _)
    · exact .refl s
  | readoutReadGrant =>
    refine .inner ?_
    split
    · exact .refl s
    · split
      · split
        · exact (State.dropGrant_inner s).trans (State.settle_inner _)
        · exact ((State.dropGrant_inner s).trans (State.readFor_inner _ _ _)).trans
            (State.settle_inner _)
      · exact (State.dropGrant_inner s).trans (State.settle_inner _)
  | readoutBlockSent l =>
    refine .inner ?_
    split
    · exact (State.sendBlock_inner l s).trans (State.settle_inner _)
    · exact .refl s
  | internalSecondEdge =>
    refine .next ?_
    split
    · exact .refl s
    · split
      · exact (State.secondBoundary_quiet s).trans (State.settle_inner _).quiet
      · exact (State.countSecond_quiet s).trans (Quiet.same rfl)
  | referenceWindowClose =>
    refine .inner ?_
    split
    · refine Inner.trans ?_ (State.settle_inner _)
      split
      · exact State.reachPhase_inner _ s
      · exact (State.reachPhase_inner _ s).trans (State.missPulse_inner _)
    · exact .refl s
  | trefPulse p =>
    refine .inner ?_
    split
    · exact ((State.reachPhase_inner _ s).trans (State.takePulse_inner _ _)).trans
        (State.settle_inner _)
    · exact .refl s
  | scanSlot k r =>
    refine .inner ?_
    split
    · exact State.endSlot_inner _ _ s
    · exact .refl s
  | statusLineActive n =>
    refine .inner ?_
    split
    · exact .same rfl
    · exact .refl s
  | selfCheckEnd a b =>
    refine .inner ?_
    split
    · split
      · exact .same rfl
      · exact Inner.via ((State.endSelfCheck_inner _ a b _).trans (State.settle_inner _)) rfl
    · exact .refl s
  | lossOfLock =>
    refine .inner ?_
    split
    · exact (State.unlock_inner State.writeEvent_inner _ s).trans (State.settle_inner _)
    · exact .refl s
  | acquisitionComplete =>
    refine .inner ?_
    split
    · exact (State.lock_inner s).trans (State.settle_inner _)
    · exact .refl s
  | samplingPoint n =>
    refine .inner ?_
    split
    · simp only
      split
      · exact .same rfl
      · exact Inner.via ((State.sampleStacks_inner _).trans (State.settle_inner _)) rfl
    · exact .refl s
  | normaliseSecond =>
    refine .inner ?_
    split
    · split
      · exact State.normaliseSecond_inner _ _ s
      · exact .refl s
    · exact .refl s
  | accumulateSecond =>
    refine .inner ?_
    split
    · exact State.accumulateSecond_inner _ s
    · exact .refl s
  | dayClose =>
    refine .inner ?_
    split
    · exact (((State.closeNextDay_inner _ _ _ s).trans (State.runWork_inner _)).trans
        (State.resumeQueued_inner _)).trans (State.settle_inner _)
    · exact .refl s
  | pfailActive a => exact .next (Quiet.via (State.takeCause_quiet _ _ _) rfl)
  | rstnActive a => exact .next (Quiet.via (State.takeCause_quiet _ _ _) rfl)
  | snapshotWriteEnd o =>
    refine .next ?_
    split
    · exact (State.endWriting_quiet o s).trans (State.enterHalt_quiet _)
    · exact .refl s
    · exact .refl s
    · exact .refl s
  | haltEnd b => cases hi
  | endOfRecovery c =>
    refine .next ?_
    split
    · rename_i h
      split
      · exact State.suspend_quiet h
      · exact State.finishRecovery_quiet c s
    · exact .refl s
    · exact .refl s
    · exact .refl s
  | replySent l =>
    refine .inner ?_
    split
    · exact State.modPort_inner _ _ s
    · exact .refl s
  | backupSupplyLoss =>
    refine .inner ?_
    split
    · exact .same rfl
    · exact .refl s
    · exact .refl s
    · exact .refl s

/-- Said once: what a command other than SET TIME and the end of a halt does to the view of the state. -/
theorem exec_quiet {i : Instr} (hi : setsClock i = false) {s t : State} (h : exec i s = .next t) :
    Quiet s t := exec_leads i hi s t h

/-- Said once: what a command that answers a next state does to the view of the state. -/
theorem exec_outer {i : Instr} {s t : State} (h : exec i s = .next t) : Outer s t := by
  have key : ∀ u, Outer s u → Host.Outcome.next u = exec i s → Outer s t := by
    intro u hu k
    rw [h] at k
    cases k
    exact hu
  by_cases hi : setsClock i = false
  · exact (exec_quiet hi h).outer
  · cases i with
    | setTime l a p =>
      exact key _ (State.serve_outer (State.setTimeRuling_leads _ _ _ _ s)) rfl
    | haltEnd b =>
      refine key _ ?_ rfl
      split
      · exact State.recover_outer b s
      · exact (Inner.refl s).outer
      · exact (Inner.refl s).outer
      · exact (Inner.refl s).outer
    | _ => exact absurd rfl hi

end Sys2Proof.Machine
end

