-- ==== Sys2Proof/Tests/Slice0.lean ====
section
/-! SUPPORT. Tests: ill-formed terms refused, the spec's own numbers, frames written out byte by byte,
one step of many commands, and for every statement with hypotheses states that meet them. -/

namespace Sys2Proof.Tests

-- The tests are checked one after another: side by side, so many waiting threads outgrow the memory limit.
set_option Elab.async false

open Sys2Proof Sys2Proof.Machine

/-! ### Ill-formed terms -/

theorem test_frame_of_41_arguments_refused :
    (Instr.readLive .plant (List.replicate 41 0)).wellFormed = false := by decide +kernel

/-- A pulse may fall in a lengthened second, of 1,010 ms at the most (R40). -/
theorem test_phase_1000_refused :
    (Instr.readTime .plant [] 1000).wellFormed = false ∧
      (Instr.trefPulse 1010).wellFormed = true ∧
      (Instr.trefPulse 1011).wellFormed = false := by decide +kernel

theorem test_known_code_is_no_unknown_code :
    (Instr.failedFrame .plant (.unknownCode 0x24)).wellFormed = false ∧
      (Instr.failedFrame .plant (.unknownCode 0x7F)).wellFormed = true := by decide +kernel

theorem test_nine_attempts_refused :
    (Instr.pfailActive (List.replicate 9 .verified)).wellFormed = false := by decide +kernel

theorem test_scan_slot_10_refused :
    (Instr.scanSlot 10 (List.replicate 32 4000)).wellFormed = false := by decide +kernel

theorem test_31_readings_refused :
    (Instr.scanSlot 0 (List.replicate 31 4000)).wellFormed = false := by decide +kernel

theorem test_reading_above_25000_refused :
    (Instr.scanSlot 0 (List.replicate 32 25001)).wellFormed = false ∧
      (Instr.selfCheckEnd 25001 12000).wellFormed = false := by decide +kernel

theorem test_status_line_16_refused : (Instr.statusLineActive 16).wellFormed = false := by decide +kernel

theorem test_three_stacks_of_pins_refused :
    (Instr.samplingPoint (List.replicate 3 .allOff)).wellFormed = false := by decide +kernel

/-! ### The check word and the frames of R164, R167 and R183 -/

/-- The check word of the ASCII text "123456789", as R167 gives it. -/
theorem test_check_word :
    checkWord [0x31, 0x32, 0x33, 0x34, 0x35, 0x36, 0x37, 0x38, 0x39] = 0x29B1 := by decide +kernel

theorem test_link_status_frame :
    decodeFrame .plant 0 [] [0xC3, 0x01, 0x00, 0x2E, 0x3E] = some (.linkStatus .plant []) := by decide +kernel

/-- 2031-03-14 at counter 984,587,920, the phase 500 ms, from the operator link. -/
theorem test_set_time_frame :
    decodeFrame .operator 7 []
      [0xC3, 0x24, 0x06, 0x3A, 0xAF, 0x9E, 0x90, 0x01, 0xF4, 0x82, 0x5B] = some (.setTime .operator [0x3A, 0xAF, 0x9E, 0x90, 0x01, 0xF4] 7) := by decide +kernel

theorem test_erase_archive_frame :
    decodeFrame .inspection 0 [] [0xC3, 0x62, 0x00, 0x70, 0x47] =
      some (.eraseArchive .inspection []) := by decide +kernel

theorem test_set_stack_signals_frame :
    decodeFrame .plant 0 [] [0xC3, 0x11, 0x04, 0x02, 0x01, 0x01, 0x00, 0x31, 0x5B] =
      some (.setStackSignals .plant [0x02, 0x01, 0x01, 0x00]) := by decide +kernel

theorem test_unknown_code_frame :
    decodeFrame .plant 0 [] [0xC3, 0x7F, 0x00, 0x05, 0x68] =
      some (.failedFrame .plant (.unknownCode 0x7F)) := by decide +kernel

theorem test_wrong_check_frame :
    decodeFrame .plant 0 [] [0xC3, 0x01, 0x00, 0x2E, 0x3F] = some (.failedFrame .plant .check) := by
  decide +kernel

/-- Bytes before the lead byte are ignored, and a frame without it is none (R167). -/
theorem test_bytes_before_the_lead_byte :
    decodeFrame .plant 0 [] [0x01, 0xFF, 0xC3, 0x01, 0x00, 0x2E, 0x3E] =
        some (.linkStatus .plant []) ∧
      decodeFrame .plant 0 [] [0x01, 0x00, 0x2E, 0x3E] = none := by decide +kernel

/-- The lengths of R185 and R186: READ CONFIG ACTIVE, LINK STATUS, READ TIME by its fields, READ LIVE. -/
theorem test_block_lengths :
    (activeBlock .factory).length = 1265 ∧ (linkStatusBlock .reset .plant).length = 33 ∧
      (tallyDeviceBlock (.blank .opened (some 2031))).length = 40 := by decide +kernel

/-! ### Numbers that the spec works out -/

/-- R1: 10,972.5 and 3,412.249; -2.5 and 2.5. -/
theorem test_rounding :
    roundHalfUp 21945 2 = 10973 ∧ roundHalfUp 3412249 1000 = 3412 ∧
      roundHalfAway (-5) 2 = -3 ∧ roundHalfAway 5 2 = 3 := by decide +kernel

/-- R65 and R66: m = 3,700 at range 50,000 gives -938; with a = -150 and b = 10,450 the value is -1,130, and 0
after its clamp. -/
theorem test_scaling_and_calibration :
    scale 3700 50000 = -938 ∧ scale 3600 50 = -1 ∧ scale 20500 1000000 = 1031250 ∧
      clampValue (-150 + roundHalfAway (10450 * -938) 10000) = 0 := by decide +kernel

/-- The extremes of the dry basis and of the oxygen reference (R69, R70). -/
theorem test_dry_and_reference_factors :
    dryValue 7000 3000 = 10000 ∧ dryValue 7000 4000 = 10000 ∧ dryValue 7000 0 = 7000 ∧
      referenceValue 100 300 2000 2100 = 1800 := by decide +kernel

/-- 2031-03-14 (R36), the first day, and the last day that the counter reaches. -/
theorem test_day_numbers :
    dayNumber 2031 3 14 = some 11395 ∧ dayNumber 2000 1 1 = some 0 ∧
      dayNumber 2136 2 7 = some 49710 ∧ dayNumber 2136 2 8 = none ∧
      dayNumber 2031 2 29 = none := by decide +kernel

theorem test_years :
    yearOfDay 11395 = 2031 ∧ yearOfDay 365 = 2000 ∧ yearOfDay 366 = 2001 ∧
      isFirstOfYear 366 = true ∧ isLastOfYear 365 = true := by decide +kernel

/-- R88: 1,800 regulated seconds need 1,200 valid ones, and 600 need 400. -/
def oneSecond (op valid : Nat) : Accumulator :=
  { Accumulator.fresh false false 0 with secsOp := op, validReg := valid }

theorem test_validity_bound :
    (oneSecond 1800 1200).validity = .valid ∧ (oneSecond 1800 1199).validity = .invalid ∧
      (oneSecond 600 400).validity = .valid ∧ (oneSecond 600 399).validity = .invalid ∧
      (oneSecond 1 1).validity = .valid ∧ (oneSecond 1 0).validity = .invalid ∧
      (oneSecond 0 0).validity = .none := by decide +kernel

/-! ### The worked second of SO2 (chapters Acquisition and Normalisation) -/

/-- Channel 3, SO2 on stack 1, as the worked case configures it. -/
def so2 : ChannelEntry :=
  { inUse := true, stack := 1, kind := .so2, source := .analog 7, range := some 50000,
    offset := -150, slope := 10450, ceiling := 12000, wet := true, o2Ref := some 1100,
    ciPercent := 20, intervalLimit := some 20000, dayLimit := some 5000, maintLine := some 2,
    faultLine := none }

/-- Channels 4 (O2), 5 (H2O), 6 (FLOW) and 20 (DUST) of stack 1. -/
def o2 : ChannelEntry :=
  { ChannelEntry.factory with
    inUse := true, stack := 1, kind := .o2, source := .analog 8, range := some 2500 }

def h2o : ChannelEntry :=
  { o2 with kind := .h2o, source := .analog 9, range := some 4000 }

def flow : ChannelEntry := { o2 with kind := .flow, source := .link, range := none }

def dust : ChannelEntry :=
  { so2 with
    kind := .dust, source := .analog 20, range := some 3000, offset := 0, slope := 10000
    ceiling := 3000 }

/-- Stack 1 with its references. -/
def stack1 : StackEntry :=
  { StackEntry.factory with
    inUse := true, o2Chan := some 4, h2oChan := some 5, flowChan := some 6 }

/-- The configuration of the worked cases. -/
def plant : Tables :=
  { channels := ((((Tables.factory.channels.set 3 so2).set 4 o2).set 5 h2o).set 6 flow).set 20 dust
    stackTab := Tables.factory.stackTab.set 1 stack1
    device := .factory }

/-- A sample with a value. -/
def sampleAt (c : Nat) (v : Verdict) (m : Int) : Sample :=
  { channel := c, verdict := v, value := some m, conversions := some 6 }

/-- Second s of the worked case. -/
def second (o2Verdict : Verdict) (o2Mean : Int) : SampleSet :=
  { second := 984587920, mode := .recording, cfg := plant
    samples := [sampleAt 3 .good 7360, sampleAt 4 o2Verdict o2Mean, sampleAt 5 .good 11400,
      sampleAt 6 .good 7000000, sampleAt 20 .saturated 19637] }

/-- The conversions of the worked loss of lock: means 7,360 and 19,637 with the saturated mark. -/
theorem test_second_means :
    let a := [7352, 7361, 7358, 7366, 7359, 7364].foldl SecondAcc.add .empty
    let b := [18940, 19870, 20612, 20215, 19433, 18862].foldl SecondAcc.add .empty
    roundHalfUp a.sum a.n = 7360 ∧ roundHalfUp b.sum b.n = 19637 ∧ a.saturated = false ∧
      b.saturated = true := by decide +kernel

theorem test_so2_second :
    let n := (second .good 9440).normalise (sampleAt 3 .good 7360)
    n.verdict = .good ∧ n.y = some 10823 ∧ n.yDry = some 13280 ∧ n.yRef = some 10624 ∧
      n.outOfCal = false := by decide +kernel

theorem test_dust_second :
    let n := (second .good 9440).normalise (sampleAt 20 .saturated 19637)
    n.verdict = .saturated ∧ n.y = some 2932 ∧ n.yDry = some 3598 ∧ n.yRef = some 2878 ∧
      n.saturated = true := by decide +kernel

/-- The cap case, and the reference in maintenance. -/
theorem test_so2_at_the_cap :
    ((second .good 17120).normalise (sampleAt 3 .good 7360)).yRef = some 66400 ∧
      ((second .good 17120).normalise (sampleAt 4 .good 17120)).yRef = some 2050 := by
  decide +kernel

def inMaintenance : SampleSet :=
  { second .good 9440 with
    samples := [sampleAt 3 .good 7360,
      { channel := 4, verdict := .maintenance, value := none, conversions := some 6 },
      sampleAt 5 .good 11400, sampleAt 20 .saturated 19637] }

theorem test_reference_in_maintenance :
    let n := inMaintenance.normalise (sampleAt 3 .good 7360)
    let d := inMaintenance.normalise (sampleAt 20 .saturated 19637)
    n.verdict = .dependency ∧ n.yDry = some 13280 ∧ n.yRef = none ∧
      d.verdict = .dependency ∧ d.saturated = true ∧ d.yDry = some 3598 := by decide +kernel

/-- A submitted flow of 7,000,000 is carried at the chain ceiling, one of -40 at 0. -/
theorem test_clamped_submissions :
    ((second .good 9440).normalise (sampleAt 6 .good 7000000)).y = some 5125000 ∧
      ((second .good 9440).normalise (sampleAt 6 .good 7000000)).verdict = .saturated ∧
      ((second .good 9440).normalise (sampleAt 6 .good (-40))).y = some 0 := by decide +kernel

/-! ### The worked interval, day and tally -/

def so2Interval : Accumulator :=
  { Accumulator.fresh false false 3 with
    secsRec := 1800, secsOp := 1800, validReg := 1750, sumReg := 5971437, sumDry := 7402731
    secsMaint := 30, validAll := 1750, sumAll := 5971437 }

def flowInterval : Accumulator :=
  { Accumulator.fresh false false 6 with
    secsRec := 1800, secsOp := 1800, validReg := 1800, sumReg := 153000000
    sumDry := 153000000, validAll := 1800, sumAll := 153000000 }

def nineOClock : AccSet :=
  { start := 984560400, cfg := plant, accs := [so2Interval, flowInterval] }

theorem test_full_interval :
    let r := nineOClock.record so2Interval
    r.origClass = .operating ∧ r.origValid = .valid ∧ r.average = some 3412 ∧
      r.validated = some 2412 ∧ r.exceeded = false ∧ r.load = some 1797750 ∧
      (nineOClock.record flowInterval).validated = some 85000 := by decide +kernel

theorem test_start_up_interval :
    let x := { so2Interval with
      secsOp := 600, validReg := 380, sumReg := 342190, secsMaint := 0, validAll := 1530
      sumAll := 1262190 }
    let r := nineOClock.record x
    r.origValid = .invalid ∧ r.average = some 901 ∧ r.validated = some 0 ∧ r.load = none ∧
      r.loadGap = true ∧ r.allAverage = some 825 := by decide +kernel

/-- 2031-03-14 of channel 3. -/
def marchDay : DayEntry :=
  { DayEntry.fresh 3 with
    recorded := 48, nValid := 44, nInvalid := 2, nNotOp := 2, sumValidated := 101376
    maximum := some (2980, 984591000), loadSum := 78301000, loadGaps := 2, secsSat := 120
    label := some (1, .so2) }

theorem test_closing_day :
    let r := marchDay.record plant .scheduled 11395
    r.dayClass = .operating ∧ r.validity = .valid ∧ r.average = some 2304 ∧
      r.exceeded = false ∧ r.nUnrecorded = 0 := by decide +kernel

/-- Channel 3's section of the 2031 slot before that day, and what it takes in. -/
theorem test_tally_takes_the_day :
    let t := { ChannelTally.zero with
      ivValid := 3180, ivInvalid := 61, ivAbnormal := 8, ivNotOp := 183, ivUnrecorded := 24
      dayValid := 68, dayInvalid := 1, dayNoOperation := 3, maxInterval := some (3950, 1)
      maxDay := some (2611, 2), secsSat := 4310 }
    let u := t.add (marchDay.record plant .scheduled 11395)
    u.ivValid = 3224 ∧ u.ivInvalid = 63 ∧ u.ivAbnormal = 8 ∧ u.ivNotOp = 185 ∧
      u.ivUnrecorded = 24 ∧ u.dayValid = 69 ∧ u.maxInterval = some (3950, 1) ∧
      u.maxDay = some (2611, 2) ∧ u.secsSat = 4430 := by decide +kernel

/-! ### The worked run-out (chapter Stack Operating States) -/

/-- Raw FIRE, FEED and ABN of seconds 100 to 108. -/
def rawSignals : List Signals :=
  (List.range 9).map fun n => { fire := true, feed := n == 0, abn := decide (4 ≤ n) }

def runOutStack : StackEntry := { StackEntry.factory with inUse := true, debounce := 2, runOut := 5 }

/-- Stack 2 after so many of them, from a second in which it was OPERATING. -/
def afterSignals (n : Nat) : StackUnit :=
  (rawSignals.take n).foldl (fun u f => u.next runOutStack f .recording 984587920)
    { StackUnit.initial 2031 with
      raw := ⟨true, true, false⟩, filtered := ⟨true, true, false⟩, state := .operating
      wasInUse := true }

theorem test_run_out_states :
    (List.range 10).map (fun n => (afterSignals n).state) =
      [.operating, .operating, .operating, .operating, .operating, .operating, .operating,
        .abnormal, .abnormal, .shutdown] ∧
      (afterSignals 4).runOut = some ⟨4, false⟩ ∧ (afterSignals 7).runOut = some ⟨1, true⟩ ∧
      (afterSignals 8).runCounter = 2 ∧ (afterSignals 9).runCounter = 0 ∧
      (afterSignals 9).yearCounter = 2 := by decide +kernel

/-! ### Positions in the rings (R134) -/

theorem test_ring_positions :
    RingName.event.position 5905 = 1808 ∧ RingName.event.position 10001 = 1808 ∧
      RingName.interval.position 65537 = 0 ∧ RingName.day.position 1 = 0 := by decide +kernel

/-! ### Small states -/

/-- A part that runs in a mode, at second 984,587,920, with the worked configuration. -/
def run (m : Mode) : State :=
  { State.reset with
    time := { State.reset.time with counter := 984587920, clockValid := true, setMark := true }
    config := { State.reset.config with active := plant }
    sec := { State.reset.sec with processed := true, mode := m, cfg := plant, lockHeld := true }
    supply := { State.reset.supply with power := .running, mode := m } }

/-- The same part with a stage in a state. -/
def staged (m : Mode) (g : StageState) : State :=
  let s := run m
  { s with config := { s.config with stage := { StageSet.emptied with
      state := g, device := some .factory } } }

/-- A part whose link has an operation in flight. -/
def working (s : State) (l : Link) (cmd : BusyCmd) : State := s.withPort l (LinkPort.initial.withOp cmd false)

/-- A grant of a claim, its write begun or not. -/
def grantOf (c : Claim) (begun : Bool) : Grant :=
  { claim := c, begun := begun, failedOnce := false, part := 0, second := 984587920, stale := false }

/-- A part whose link's operation holds the grant. -/
def holding (s : State) (l : Link) (cmd : BusyCmd) (begun : Bool) : State :=
  (working s l cmd).granted (some (grantOf (.op l) begun))

/-- A part with records in its write queue. -/
def queued (s : State) (q : List QueueItem) : State :=
  { s with recorder := { s.recorder with queue := q } }

/-- An event record. -/
def anEvent : QueueItem := .event (.plain 984587900 .timeStep 984587000)

/-- What a step leaves, where it goes on. -/
def after (i : Instr) (s : State) : Option State :=
  match exec i s with
  | .next t => some t
  | .fault _ => none
  | .refused _ => none

/-! ### One step of many commands -/

theorem test_step_takes_the_first_command :
    (match step { run .recording with pending := [.statusLineActive 2, .statusLineActive 3] } with
      | .next t => decide (t.pending = [.statusLineActive 3] ∧ t.scan.latches = 4)
      | _ => false) = true := by decide +kernel

theorem test_submit_value :
    ((after (.submitValue .plant [6, 0xFF, 0xFF, 0xFF, 0xD8, 1]) (run .recording)).map fun t =>
      t.scan.slots[6]?) =
      some (some (some { value := -40, maintenance := true, arrival := 984587920 })) := by
  decide +kernel

/-- A link channel refused with SEQUENCE: channel 3 is ANALOG. -/
theorem test_submit_to_analog_channel :
    ((after (.submitValue .plant [3, 0, 0, 0, 1, 0]) (run .recording)).map fun t =>
      (t.port .plant).tx) = some [.reply 0x40] := by decide +kernel

theorem test_wrong_length_is_argument :
    ((after (.submitValue .plant [6, 0, 0, 0, 1]) (run .recording)).map fun t =>
      (t.port .plant).tx) = some [.reply 0x20] := by decide +kernel

theorem test_plant_may_not_set_time :
    ((after (.setTime .plant [0, 0, 0, 0, 0, 0] 0) (run .recording)).map fun t =>
      ((t.port .plant).tx, t.time.counter)) = some ([.reply 0x04], 984587920) := by decide +kernel

theorem test_read_time :
    ((after (.readTime .plant [] 700) (run .recording)).map fun t => (t.port .plant).tx) =
      some [.reply 0x00, .replyBlock
        [0x3A, 0xAF, 0x9E, 0x90, 0x02, 0xBC, 0x01, 0x00, 0x00, 0x00, 0x00, 0x00]] := by
  decide +kernel

/-- A deselect leaves the operation in flight, and the next select finds BUSY. -/
theorem test_deselect_then_select :
    ((after (.selectDeasserted .operator) (working (run .recording) .operator .approve)).bind
      fun t => (after (.selectAsserted .operator) t).map fun u => (u.port .operator).recv) =
      some .busy := by decide +kernel

theorem test_mark_start_over_marks_has_notice :
    ((after (.markStart .operator [1, 3, 0x3A, 0xAF, 0x33, 0x10]) { run .recording with
        links := { State.reset.links with marks := .startMarked 0 none 0 } }).map fun t =>
      ((t.port .operator).tx, t.links.marks)) =
      some ([.reply 0x40], .startMarked 1 (some 3) 984560400) := by decide +kernel

theorem test_slew :
    ((after (.setTime .operator [0x3A, 0xAF, 0x9E, 0x91, 0x01, 0xF4] 0) (run .recording)).map
      fun t => t.time.pendingSlew) = some 1500 := by decide +kernel

theorem test_operator_may_not_step :
    ((after (.setTime .operator [0x3A, 0xAF, 0x9F, 0x91, 0x00, 0x00] 0) (run .recording)).map
      fun t => (t.port .operator).tx) = some [.reply 0x20] := by decide +kernel

/-- The step across midnight: the target's interval opens, and day 2031-03-11 waits to close. -/
theorem test_step_across_midnight :
    let s := run .recording
    let old : AccSet := { start := 984612600, cfg := plant, accs := [] }
    let u := after (.setTime .inspection [0x3A, 0xB0, 0x15, 0x46, 0x00, 0x00] 600) { s with
      time := { s.time with counter := 984613280 }
      recorder := { s.recorder with
        accSets := [old], table := [11392, 11393, 11394, 11395].map fun d => ⟨d, []⟩ } }
    (u.map fun t => (t.time.counter, t.recorder.accSets.map AccSet.start,
      (t.dueClose.map fun x => x.2.1.day), t.recorder.queue)) =
      some (984618310, [984618000], some 11392,
        [.event (.plain 984618310 .timeStep 984613280)]) := by decide +kernel

theorem test_second_edge_slews_ten :
    let s := run .recording
    ((after .internalSecondEdge { s with time := { s.time with pendingSlew := 137 } }).map fun t =>
      (t.time.counter, t.time.pendingSlew, t.time.slewStep)) = some (984587921, 127, 10) := by
  decide +kernel

/-- A pulse 137 ms before the edge regains the reference with offset 137. -/
theorem test_pulse_before_the_edge :
    ((after (.trefPulse 863) (run .recording)).map fun t =>
      (t.time.pendingSlew, t.time.reference, t.recorder.queue)) =
      some (137, .tracking, [.event { time := 984587921, kind := .referenceRegained, stack := none,
                                      channel := none, argument := 137 }]) := by decide +kernel

theorem test_third_missed_window :
    let s := run .recording
    ((after .referenceWindowClose { s with time := { s.time with
        reference := .tracking, missed := 2 } }).map fun t => t.time.reference) =
      some .noReference := by decide +kernel

/-- AIN7 is listed, AIN0 is not. -/
theorem test_scan_slot :
    ((after (.scanSlot 0 (List.replicate 32 7352)) (run .recording)).map fun t =>
      (t.scan.accs[7]?, t.scan.accs[0]?)) =
      some (some ⟨1, 7352, false, false⟩, some .empty) := by decide +kernel

theorem test_self_check_fails_converter_a :
    ((after (.selfCheckEnd 11939 12060) (run .recording)).map fun t =>
      (t.scan.faultyA, t.scan.faultyB, t.norm.samples.length)) = some (true, false, 1) := by
  decide +kernel

theorem test_loss_of_lock :
    let s := run .recording
    ((after .lossOfLock { s with scan := { s.scan with synth := .locked } }).map fun t =>
      (t.scan.synth, t.recorder.queue)) =
      some (.acquiring, [.event (.plain 984587920 .scanClockUnlocked 1)]) := by decide +kernel

theorem test_acquisition_writes_fifty :
    ((after .acquisitionComplete (run .recording)).map fun t => t.recorder.queue) =
      some [.event (.plain 984587920 .scanClockLocked 50)] := by decide +kernel

theorem test_sampling_point :
    ((after (.samplingPoint [.allOff, ⟨true, true, false⟩, .allOff, .allOff])
        (run .recording)).map fun t =>
      (t.stackUnits.map StackUnit.state, t.norm.stackSets.length)) =
      some ([.off, .operating, .off, .off], 1) := by decide +kernel

def paired : State :=
  let s := run .recording
  { s with norm := { s.norm with
      samples := [second .good 9440]
      stackSets := [{ second := 984587920, marks := List.replicate 4 ⟨true, .operating, false⟩ }] } }

theorem test_normalise_second :
    ((after .normaliseSecond paired).map fun t =>
      (t.recorder.handed.map NormSet.second, t.norm.samples.length)) =
      some ([984587920], 0) := by decide +kernel

theorem test_accumulate_second :
    ((after .normaliseSecond { paired with recorder := { paired.recorder with
        accSets := [.opened 984587400 plant false false] } }).bind fun t =>
      (after .accumulateSecond t).map fun u =>
        (u.recorder.accSets.map fun a => a.accs.map fun x => (x.channel, x.validReg, x.sumReg))) =
      some [[(3, 1, 10624), (4, 1, 850), (5, 1, 1850), (6, 1, 5125000), (20, 1, 2878)]] := by
  decide +kernel

theorem test_stage_commit_begins_its_write :
    ((after .stageCommit (holding (staged .recording .opened) .operator (.stageDevice .factory)
        false)).map fun t => t.arbiter.grant.map Grant.begun) = some (some true) := by
  decide +kernel

theorem test_stage_write_verifies :
    ((after (.writeAttemptComplete .verified)
        (holding (staged .recording .opened) .operator .withdrawStage true)).map fun t =>
      (t.config.stage, t.store.area.stage, ((t.port .operator).last.map OpResult.outcome))) =
      some (.emptied, .emptied, some .done) := by decide +kernel

/-- The approval of the worked configuration passes, and one whose O2 channel is out of use does not. -/
theorem test_approval_checks :
    approvalFailure plant = none ∧
      approvalFailure { plant with channels := plant.channels.set 4 .factory } =
        some (.referenceMissing, 3) := by decide +kernel

theorem test_queue_write_and_its_number :
    let s := (queued (run .recording) [anEvent]).granted (some (grantOf .queue true))
    ((after (.writeAttemptComplete .verified) s).map fun t =>
      (t.recorder.queue, t.store.event.ptr, t.store.event.cells.map Prod.fst)) =
      some ([], ⟨1, 1, 0⟩, [0]) := by decide +kernel

theorem test_second_failure_is_a_fault :
    let g := { grantOf .queue true with failedOnce := true }
    let s := (queued (run .recording) [anEvent]).granted (some g)
    ((after (.writeAttemptComplete .failed) s).map fun t =>
      (t.store.fault, t.recorder.queue.length, t.arbiter.grant)) = some (true, 2, none) := by
  decide +kernel

/-- A readout of a ring with one record sends it with its token. -/
def oneRecord : State :=
  let s := run .recording
  { s with store := { s.store with event := {
      s.store.event with
      ptr := ⟨1, 1, 0⟩, cells := [(0, (1, .plain 984587900 .timeStep 984587000))] } } }

theorem test_open_readout_claims_its_read :
    ((after (.openReadout .operator [2, 0, 0, 0, 1, 0, 8, 0, 0, 0, 0, 0, 0]) oneRecord).map
      fun t => t.arbiter.grant.map Grant.claim) = some (some (.readout .operator)) := by
  decide +kernel

theorem test_read_grant_sends_block_and_token :
    ((after (.openReadout .operator [2, 0, 0, 0, 1, 0, 8, 0, 0, 0, 0, 0, 0]) oneRecord).bind
      fun t => (after .readoutReadGrant t).map fun u => (u.port .operator).tx.length) =
      some 3 := by decide +kernel

theorem test_day_close :
    let s := run .recording
    ((after .dayClose { s with recorder := { s.recorder with
        table := [⟨11391, []⟩, ⟨11395, []⟩]
        work := [.occasion { cause := .scheduled, range := .through 11391, joins := none
                             gov := plant, closed := 0 }] } }).map fun t =>
      (t.recorder.table.map ProvDay.day, t.store.closedThrough)) =
      some ([11395], some 11391) := by decide +kernel

theorem test_close_days_records_its_last_day :
    let s := working (run .recording) .inspection (.closeDays 11394 false)
    ((after .closeDaysCommit { s with recorder := { s.recorder with
        table := [⟨11392, []⟩, ⟨11395, []⟩] } }).map fun t => t.recorder.queue) =
      some [.event (.plain 984587920 .daysClosedEarly 11392)] := by decide +kernel

theorem test_power_loss_takes_a_snapshot :
    ((after (.pfailActive []) (run .recording)).map fun t =>
      (t.supply.power, (t.supply.taking.map fun p => (p.second, p.queue)))) =
      some (.snapshotting,
        some (984587920, [.event (.plain 984587920 .powerLoss 0)])) := by decide +kernel

theorem test_halt_ends_in_starting :
    ((after (.haltEnd true) .reset).map fun t =>
      (t.supply.power, t.supply.mode, t.scan.synth)) =
      some (.starting, .commissioning, .stopped) := by decide +kernel

theorem test_first_recovery_ends :
    ((after (.haltEnd true) .reset).bind fun t => (after (.endOfRecovery true) t).map fun u =>
      (u.supply.power, u.recorder.queue, (u.port .plant).last.map OpResult.outcome)) =
      some (.running, [.event (.plain 1 .restart 0)], some .restart) := by decide +kernel

/-- With its clock lost, a part that was recording waits in SUSPENDED. -/
theorem test_lost_clock_suspends :
    let s := run .recording
    ((after (.endOfRecovery true) { s with
        time := { s.time with clockValid := false }
        supply := { s.supply with power := .starting } }).map fun t =>
      (t.supply.mode, t.supply.beneath)) = some (.suspended, .recording) := by decide +kernel

theorem test_restart_begins_a_snapshot :
    ((after (.restart .inspection [] []) (run .recording)).map fun t =>
      (t.supply.taking.map Snapshot.cause)) = some (some .restart) := by decide +kernel

/-! ### Witnesses: states and operands that meet the hypotheses of each statement -/

theorem noGrant {s : State} {P : Grant → Prop} (h : s.arbiter.grant = none) :
    ∀ g, s.arbiter.grant = some g → P g := by
  intro g k
  rw [h] at k
  cases k

theorem witness_StepRunsTheFrontCommand :
    ({ State.reset with pending := [.lossOfLock] } : State).pending = [.lossOfLock] ∧
      State.reset.pending = [] := by decide +kernel

theorem witness_CommandsLeaveTheWaitingQueue :
    ∃ t, exec (.haltEnd true) .reset = .next t := ⟨_, rfl⟩

/-- The part as it leaves the factory, its halt about to end. -/
def waking : State := { State.reset with pending := [.haltEnd true] }

theorem waking_steps : ∃ t, step waking = .next t := ⟨_, rfl⟩

theorem witness_WriteQueueNeverExceeds96 : waking.QueueBounded ∧ ∃ t, step waking = .next t :=
  ⟨⟨by decide, (fun _ h => by cases h), (fun _ h => by cases h)⟩, waking_steps⟩

theorem witness_RingsKeepTheirCanonicalForm :
    ({ oneRecord with pending := [.lossOfLock] } : State).RingsOrdered ∧
      ∃ t, step { oneRecord with pending := [.lossOfLock] } = .next t :=
  ⟨⟨by decide, by decide, by decide, by decide⟩, _, rfl⟩

theorem witness_FlagSetsStayConsistent :
    waking.SeenArePending ∧ waking.FlagsKnown ∧ ∃ t, step waking = .next t :=
  ⟨fun l => by cases l <;> decide, ⟨fun l => by cases l <;> decide, by decide⟩, waking_steps⟩

theorem witness_SuspendedIsNeverStored :
    waking.SuspendedUnstored ∧ ∃ t, step waking = .next t :=
  ⟨⟨by decide, by decide, fun _ h => (by cases h), fun _ h => (by cases h), by decide, by decide⟩,
    waking_steps⟩

theorem witness_TimeOfRecordNeverDecreasesInService :
    (run .recording).supply.power = .running ∧ (run .recording).supply.mode = .recording ∧
      ∃ t, exec .internalSecondEdge (run .recording) = .next t := ⟨rfl, rfl, _, rfl⟩

theorem witness_CommandFramesRoundTrip :
    (List.replicate 40 (0 : Byte)).length ≤ 40 ∧ (∀ b ∈ ([0x00, 0xFF] : List Byte), b ≠ 0xC3) ∧
      40 < (41 : Byte).toNat ∧ (40 : Byte).toNat ≤ 40 ∧
      (List.replicate 39 (0 : Byte)).length < (40 : Byte).toNat ∧
      (0 : Byte).toNat ≤ 40 ∧ ([] : List Byte).length = (0 : Byte).toNat ∧
      (0x2E : Byte).toNat * 256 + (0x3F : Byte).toNat ≠ (checkWord [0x01, 0x00]).toNat ∧
      (0x05 : Byte).toNat * 256 + (0x68 : Byte).toNat = (checkWord [0x7F, 0x00]).toNat ∧
      commandOfCode 0x7F = none := by decide +kernel

theorem witness_ConfigurationEntriesRoundTrip :
    31 ≤ 31 ∧ so2.admissible = true ∧ ChannelEntry.factory.admissible = true ∧ 3 ≤ 3 ∧
      stack1.admissible = true ∧ DeviceSettings.factory.admissible = true := by decide +kernel

/-- The same part while it is STARTING. -/
def starting : State :=
  let s := run .recording
  { s with supply := { s.supply with power := .starting } }

theorem witness_FramesAreScreenedInOrder :
    starting.supply.power = .starting ∧ Command.readTime ≠ .linkStatus ∧
      permitted .setTime .plant (run .recording).supply.mode = false ∧
      permitted .stageDevice .operator (run .recording).supply.mode = true ∧
      ((working (run .recording) .operator .approve).port .operator).op.isSome = true ∧
      ((run .recording).port .operator).op = none ∧
      [0, 3, 5, 0].length = argumentLength .stageDevice ∧
      ([] : List Byte).length ≠ argumentLength .stageDevice ∧
      ([0] : List Byte).length ≠ argumentLength .linkStatus ∧
      permitted .linkStatus .plant starting.supply.mode = true := by decide +kernel

/-- A record of channel 3 that waits for an annotation at number 1 of the interval ring. -/
def aRecord : IntervalRec := nineOClock.record so2Interval

/-- A part whose three rings hold a record each, numbered 1. -/
def threeRecords : State :=
  let s := run .recording
  { s with store := { s.store with
      interval := { s.store.interval with ptr := ⟨1, 1, 0⟩, cells := [(0, (1, aRecord))] }
      day := { s.store.day with
        ptr := ⟨1, 1, 0⟩, cells := [(0, (1, marchDay.record plant .scheduled 11395))] }
      event := { s.store.event with
        ptr := ⟨1, 1, 0⟩, cells := [(0, (1, .plain 984587900 .timeStep 984587000))] } } }

theorem witness_RecordsAreLaidOut :
    getCell threeRecords.store.interval.cells ((1 - 1) % 65536) = some (1, aRecord) ∧
      getCell threeRecords.store.day.cells ((1 - 1) % 16384) =
        some (1, marchDay.record plant .scheduled 11395) ∧
      getCell threeRecords.store.event.cells ((4097 - 1) % 4096) =
        some (1, .plain 984587900 .timeStep 984587000) ∧
      getCell threeRecords.store.interval.cells ((65536 - 1) % 65536) = none ∧
      getCell threeRecords.store.day.cells ((2 - 1) % 16384) = none ∧
      getCell threeRecords.store.event.cells ((2 - 1) % 4096) = none := by decide +kernel

theorem witness_RefusedFramesChangeOnlyTheirReply :
    (run .recording).listens .plant ∧ (run .recording).screen .setTime .plant [] = some 0x04 ∧
      starting.listens .plant ∧ starting.screen .readTime .plant [] = some 0x01 ∧
      State.reset.linksRespond = false ∧
      (({ (run .recording) with links := { State.reset.links with
        plant := { LinkPort.initial with recv := .replying } } } : State).port .plant).recv =
          .replying ∧
      (({ (run .recording) with links := { State.reset.links with
        operator := { LinkPort.initial with recv := .streaming } } } : State).port
          .operator).recv = .streaming ∧ Command.readTime ≠ .stop := by
  unfold State.listens
  decide +kernel

theorem witness_PortsFollowSelectionAndReplies :
    ∃ (s : State) (p q : LinkPort), s.linksRespond = true ∧
      (s.arbiter.grant = some (grantOf (.readout .operator) false)) ∧
      (∀ g, s.arbiter.grant = some g → g.claim ≠ .readout .plant) ∧
      (s.port .plant).selected = false ∧ p.recv = .replying ∧ p.readout = none ∧
      p.tx = [.reply 0x00] ∧ (s.withPort .operator q).linksRespond = true ∧
      q.recv = .streaming ∧ q.leaving = [] ∧ q.tx = [.endOfStream] :=
  ⟨(run .recording).granted (some (grantOf (.readout .operator) false)),
    { LinkPort.initial with recv := .replying, tx := [.reply 0x00] },
    { LinkPort.initial with recv := .streaming, tx := [.endOfStream] },
    by decide, rfl, fun g h => by cases h; decide, rfl, rfl, rfl, rfl, by decide, rfl, rfl, rfl⟩

/-- A readout of the event ring from its first record. -/
def aReadout : Readout :=
  { ring := .event, next := 1, walked := 0, count := 8, match3 := 0, mask3 := 0, forming := []
    waiting := false, ended := false, stopping := false }

theorem witness_PortsFollowSelectionAndReplies_stream :
    let p := { LinkPort.initial with
      recv := .replying, readout := some aReadout, tx := [.reply 0x00, .endOfStream] }
    let s := (run .recording).withPort .operator p
    s.linksRespond = true ∧ (s.port .operator).recv = .replying ∧
      (s.port .operator).readout.isSome = true ∧
      (s.port .operator).tx = .reply 0x00 :: [.endOfStream] ∧
      (s.withPort .plant { LinkPort.initial with selected := true }).linksRespond = true := by
  decide +kernel

/-- A part whose operator port is in a state of its receiver with so much to send. -/
def sending (recv : Receiver) (readout : Option Readout) (tx : List TxItem) : State :=
  (run .recording).withPort .operator { LinkPort.initial with
    recv := recv, readout := readout, tx := tx }

/-- A part whose operator port has this left of what an erase cut. -/
def left (items : List TxItem) : State :=
  (run .recording).withPort .operator { LinkPort.initial with leaving := items }

theorem witness_PortsFollowSelectionAndReplies_sent :
    State.reset.linksRespond = false ∧ (sending .replying none []).linksRespond = true ∧
      ((sending .replying none [.endOfStream, .reply 0]).port .operator).tx =
        [.endOfStream, .reply 0] ∧
      ((sending .replying none [.dataFault 1, .reply 0]).port .operator).tx =
        [.dataFault 1, .reply 0] ∧
      ((sending .replying none [.reply 0, .replyBlock [1]]).port .operator).tx =
        [.reply 0, .replyBlock [1]] ∧
      ((sending .streaming (some aReadout) [.dataFault 1]).port .operator).recv = .streaming ∧
      ((sending .streaming (some aReadout) [.dataFault 1]).port .operator).tx = [.dataFault 1] ∧
      ((sending .idle none []).port .operator).recv = .idle ∧
      ((sending .busy none []).port .operator).recv = .busy ∧
      ((sending .receiving none []).port .operator).recv = .receiving ∧
      ((sending .streaming (some aReadout) []).port .operator).tx = [] ∧
      ((sending .idle none []).port .operator).leaving = [] ∧
      ((run .recording).port .plant).selected = false ∧ OpOutcome.done ≠ .restart ∧
      ((left [.streamBlock [1], .dataFault 1]).port .operator).leaving =
        .streamBlock [1] :: [.dataFault 1] ∧
      ((left [.reply 0, .replyBlock [1]]).port .operator).leaving =
        .reply 0 :: [.replyBlock [1]] ∧
      (((run .recording).withPort .plant { LinkPort.initial with selected := true }).port
        .plant).selected = true ∧
      ((working (run .recording) .operator .approve).port .operator).op =
        some { cmd := .approve, waiting := false } := by decide +kernel

/-- A part whose live value buffer shows the worked second, and whose stage is full. -/
def shown : State := (after .normaliseSecond paired).getD .reset

theorem witness_BlocksAreLaidOut :
    ((shown.norm.liveChannels.getD 3 none).bind NormChannel.value).isSome = true ∧
      (shown.norm.liveChannels.getD 0 none).isSome = true ∧
      (shown.norm.liveChannels.getD 0 none).bind NormChannel.value = none ∧
      (shown.norm.liveStacks.getD 3 none).isSome = true ∧
      (TallySlot.blank .opened (some 2031)).channels[31]? = some .zero ∧
      ChannelTally.zero.label = none ∧
      (ChannelTally.zero.add (marchDay.record plant .scheduled 11395)).label = some (1, .so2) ∧
      (State.reset.port .plant).last = none ∧
      ((working (run .recording) .operator .approve).port .operator).last.isSome = true ∧
      plant.channels.length = 32 ∧ plant.stackTab.length = 4 ∧
      StageSet.emptied.state ≠ .approved ∧
      ({ StageSet.emptied with state := .approved, approver := some .operator } :
        StageSet).state = .approved ∧ 3 < 4 ∧ (4294965599 / 1800 + 1) * 1800 ≤ 4294967295 ∧
      4294967295 < (4294965600 / 1800 + 1) * 1800 := by decide +kernel

theorem witness_AttentionRequestsActOnTheirOwnLink :
    (run .recording).reaches .readEvents .plant [] = true ∧
      (run .recording).reaches .acknowledgeEvents .plant [0x3F, 0xFF] = true ∧
      u16 [0x3F, 0xFF] 0 < 16384 ∧
      (run .recording).reaches .setEventMask .plant [0x40, 0x00] = true ∧
      16384 ≤ u16 [0x40, 0x00] 0 := by decide +kernel

theorem witness_FlagsArePendingUntilReadAndAcknowledged :
    (run .recording).supply.power ≠ .starting ∧ starting.supply.power = .starting ∧
      (run .recording).supply.power = .running ∧ 15 < 16 ∧
      Attention.initial.seen &&& ~~~Attention.initial.pending = 0 := by decide +kernel

/-- A part with a slot of the 2031 tally. -/
def tallied (state : TallyState) : State :=
  let s := run .recording
  { s with recorder := { s.recorder with
      tally := [.blank state (some 2031), .blank .unused none] } }

theorem witness_ReadRequestsAreAnswered :
    starting.listens .plant ∧ (run .recording).reaches .readTime .plant [] = true ∧
      (run .recording).reaches .readLive .plant [0, 0, 0, 8] = true ∧
      (run .recording).reaches .readConfig .operator [0] = true ∧ u8 [0] 0 = 0 ∧
      (run .recording).reaches .readConfig .operator [1] = true ∧ u8 [1] 0 = 1 ∧
      (run .recording).reaches .readConfig .operator [2] = true ∧ 2 ≤ u8 [2] 0 ∧
      (tallied .opened).reaches .readTally .operator [0x07, 0xEF, 31] = true ∧
      findSlot (tallied .opened).recorder.tally (u16 [0x07, 0xEF, 31] 0) =
        some (.blank .opened (some 2031)) ∧ u8 [0x07, 0xEF, 31] 2 ≤ 31 ∧
      u8 [0x07, 0xEF, 255] 2 = 255 ∧
      findSlot (tallied .opened).recorder.tally (u16 [0x07, 0xF0, 31] 0) = none ∧
      31 < u8 [0x07, 0xEF, 32] 2 ∧ u8 [0x07, 0xEF, 32] 2 ≠ 255 := by
  unfold State.listens
  decide +kernel

/-- A part in which stack 2 takes its signals from the plant link. -/
def linkStack : State :=
  let s := run .recording
  { s with config := { s.config with active := { plant with
      stackTab := plant.stackTab.set 2 { StackEntry.factory with inUse := true, source := .link } } } }

theorem witness_PlantValuesFillTheirSlots :
    (run .recording).reaches .submitValue .plant [6, 0, 0, 0, 1, 1] = true ∧
      31 < u8 [32, 0, 0, 0, 1, 0] 0 ∧ u8 [6, 0, 0, 0, 1, 1] 5 ≤ 1 ∧
      1 < u8 [6, 0, 0, 0, 1, 2] 5 ∧
      ((run .recording).inForce.channel (u8 [6, 0, 0, 0, 1, 1] 0)).inUse = true ∧
      ((run .recording).inForce.channel (u8 [6, 0, 0, 0, 1, 1] 0)).source = .link ∧
      ((run .recording).inForce.channel 31).inUse = false ∧
      linkStack.reaches .setStackSignals .plant [2, 1, 1, 1] = true ∧ 3 < u8 [4, 1, 1, 1] 0 ∧
      1 < u8 [2, 2, 1, 1] 1 ∧ (linkStack.inForce.stack 2).inUse = true ∧
      (linkStack.inForce.stack 2).source = .link ∧ (linkStack.inForce.stack 3).inUse = false ∧
      linkStack.stackUnits[2]? = some (.initial 2000) := by decide +kernel

/-! #### Busy operations -/

theorem stageable_of {s : State} (h : s.supply.mode = .recording)
    (k : s.config.stage.state ≠ .approved) : s.stageable := ⟨.inr (.inr h), k⟩

theorem movable_of {s : State} (h : s.supply.mode = .recording)
    (k : s.config.stage.state = .opened) : s.movable := ⟨.inr (.inr h), k⟩

theorem serviceable_commissioning : (run .commissioning).serviceable :=
  ⟨rfl, rfl, rfl, 3, by decide, by decide +kernel, by decide +kernel⟩

theorem erasable_withdrawn : (run .withdrawn).erasable :=
  ⟨rfl, fun r => by cases r <;> rfl, by decide +kernel⟩

theorem witness_BusyRequestsAreAccepted_stage :
    (run .recording).stageable ∧ (staged .recording .opened).movable ∧
      (run .recording).store.fault = false ∧
      (run .recording).reaches .stageChannel .operator (encodeChannelEntry 31 .factory) = true ∧
      readStageChannel (encodeChannelEntry 31 .factory) = some (31, .factory) ∧
      (run .recording).reaches .stageStack .operator (encodeStackEntry 3 .factory) = true ∧
      readStageStack (encodeStackEntry 3 .factory) = some (3, .factory) ∧
      (run .recording).reaches .stageDevice .operator [50, 3, 5, 0] = true ∧
      readStageDevice [50, 3, 5, 0] = some .factory ∧
      (staged .recording .opened).reaches .withdrawStage .operator [] = true ∧
      (staged .recording .opened).reaches .approve .inspection [] = true ∧
      (staged .recording .opened).reaches .rejectStage .inspection [] = true ∧
      (staged .recording .opened).config.stage.state ≠ .empty :=
  ⟨stageable_of rfl (by decide), movable_of rfl rfl, by decide +kernel⟩

theorem witness_BusyRequestsAreAccepted_archive :
    (run .commissioning).serviceable ∧ (run .withdrawn).erasable ∧
      oneRecord.reaches .commitCollection .operator [2, 0, 0, 0, 1] = true ∧
      ringOfCode (u8 [2, 0, 0, 0, 1] 0) = some .event ∧
      (oneRecord.store.pointers .event).collected ≤ u32 [2, 0, 0, 0, 1] 1 ∧
      u32 [2, 0, 0, 0, 1] 1 ≤ (oneRecord.store.pointers .event).newest ∧
      (tallied .final).reaches .commitReport .inspection [0x07, 0xEF] = true ∧
      slotOfYear (tallied .final).recorder.tally (u16 [0x07, 0xEF] 0) = some 0 ∧
      ((tallied .final).slot 0).state = .final ∧ (tallied .final).supply.mode ≠ .suspended ∧
      (run .commissioning).reaches .inService .inspection [] = true ∧
      (run .recording).reaches .withdraw .inspection [] = true ∧
      (run .withdrawn).reaches .eraseArchive .inspection [] = true :=
  ⟨serviceable_commissioning, erasable_withdrawn, by decide +kernel⟩

/-- A part in FAULT. -/
def faulty (s : State) : State := { s with store := { s.store with fault := true } }

/-- Every request that a FAULT refuses, with a part that is ready for it. -/
def readyRequests : List (State × Command × Link × List Byte) :=
  [(run .recording, .stageChannel, .operator, encodeChannelEntry 0 .factory),
    (run .recording, .stageStack, .operator, encodeStackEntry 0 .factory),
    (run .recording, .stageDevice, .operator, [50, 3, 5, 0]),
    (staged .recording .opened, .withdrawStage, .operator, []),
    (staged .recording .opened, .approve, .inspection, []),
    (staged .recording .opened, .rejectStage, .inspection, []),
    (oneRecord, .commitCollection, .operator, [2, 0, 0, 0, 1]),
    (tallied .final, .commitReport, .inspection, [0x07, 0xEF]),
    (run .commissioning, .inService, .inspection, []),
    (run .recording, .withdraw, .inspection, []), (run .withdrawn, .eraseArchive, .inspection, [])]

theorem witness_BusyRequestsAreAccepted_fault :
    (faulty (run .recording)).stageable ∧ (faulty (staged .recording .opened)).movable ∧
      (faulty (run .recording)).store.fault = true ∧
      (∀ r ∈ readyRequests, (faulty r.1).reaches r.2.1 r.2.2.1 r.2.2.2 = true) ∧
      1 ≤ ((faulty oneRecord).store.pointers .event).newest ∧
      ((faulty (tallied .final)).slot 0).state = .final :=
  ⟨stageable_of rfl (by decide), movable_of rfl rfl, by decide +kernel⟩

theorem witness_BusyRequestsAreRefused :
    ¬ (staged .recording .approved).stageable ∧ ¬ (run .recording).movable ∧
      ¬ (run .recording).serviceable ∧ ¬ (run .recording).erasable ∧
      readStageChannel (encodeChannelEntry 32 .factory) = none ∧
      (readStageChannel (encodeChannelEntry 0 .factory)).isSome = true ∧
      (staged .recording .approved).reaches .stageChannel .operator
        (encodeChannelEntry 0 .factory) = true ∧
      readStageStack (encodeStackEntry 4 .factory) = none ∧ readStageDevice [50, 0, 5, 0] = none ∧
      (readStageDevice [50, 1, 48, 0]).isSome = true ∧
      (run .recording).config.stage.state = .empty ∧
      (oneRecord.store.pointers .event).newest < u32 [2, 0, 0, 0, 2] 1 ∧
      2 < u8 [3, 0, 0, 0, 1] 0 ∧
      slotOfYear (tallied .final).recorder.tally (u16 [0x07, 0xF0] 0) = none ∧
      ((tallied .reported).slot 0).state ≠ .final ∧
      (run .commissioning).supply.mode ≠ .recording :=
  ⟨fun h => h.2 rfl, (fun h => by cases h.2), (fun h => by cases h.1), (fun h => by cases h.1),
    by decide +kernel⟩

/-- An operation of the operator link holds the grant, not yet begun, for a part that grants it. -/
theorem holds (m : Mode) (g : StageState) (l : Link) (cmd : BusyCmd) :
    (holding (staged m g) l cmd false).grants (grantOf (.op l) false) (.op l) ∧
      (holding (staged m g) l cmd false).opCmd l = some cmd :=
  ⟨⟨rfl, rfl, rfl, rfl⟩, by cases l <;> rfl⟩

theorem witness_CommitsBeginTheirWrite_begin :
    (holding (staged .recording .opened) .operator .withdrawStage false).movable ∧
      (holding (staged .recording .opened) .operator (.stageDevice .factory) false).stageable ∧
      (holding (staged .recording .opened) .inspection .approve false).movable ∧
      (run .commissioning).serviceable ∧ (run .withdrawn).erasable ∧
      (holding (staged .recording .opened) .inspection .rejectStage false).config.stage.state ≠
        .empty ∧
      approvalFailure (merged plant (staged .recording .opened).config.stage) = none ∧
      1 ≤ (oneRecord.store.pointers .event).newest ∧
      slotOfYear (tallied .final).recorder.tally 2031 = some 0 ∧
      (tallied .final).recorder.tally[0]? = some (.blank .final (some 2031)) ∧
      ((working (tallied .final) .operator (.commitReport 2031 none)).port .operator).op.map
        LinkOp.waiting = some false ∧
      (staged .commissioning .opened).supply.mode = .commissioning ∧
      approvalFailure (merged plant (staged .commissioning .opened).config.stage) = none :=
  ⟨movable_of rfl rfl, stageable_of rfl (by decide), movable_of rfl rfl,
    serviceable_commissioning, erasable_withdrawn, by decide +kernel⟩

theorem witness_CommitsBeginTheirWrite_refuse :
    ¬ (holding (staged .recording .approved) .operator (.stageDevice .factory) false).stageable ∧
      ¬ (holding (staged .recording .empty) .inspection .approve false).movable ∧
      (holding (staged .recording .empty) .inspection .rejectStage false).config.stage.state =
        .empty ∧
      approvalFailure (merged { plant with channels := plant.channels.set 4 .factory }
        (staged .recording .opened).config.stage) = some (.referenceMissing, 3) ∧
      (run .recording).store.pointers .event = .zero ∧ Pointers.zero.newest < 1 ∧
      slotOfYear (run .recording).recorder.tally 2031 = none ∧
      ((tallied .opened).slot 0).state ≠ .final ∧ ¬ (run .recording).serviceable ∧
      (run .withdrawn).supply.mode ≠ .recording ∧ ¬ (run .recording).erasable :=
  ⟨fun h => h.2 rfl, (fun h => by cases h.2), rfl, by decide +kernel, rfl, by decide,
    by decide +kernel, by decide +kernel, (fun h => by cases h.1), by decide,
    (fun h => by cases h.1)⟩

theorem witness_ApprovalChecksAreThose (t : Tables) :
    ∃ (clash homeless lacksO2 lacksH2o misfit : Nat → Prop) (lowest : (Nat → Prop) → Nat → Nat → Prop),
      (∀ c, clash c ↔ (t.channel c).inUse = true ∧ ∃ i d, (t.channel c).source = .analog i ∧
        d < c ∧ (t.channel d).inUse = true ∧ (t.channel d).source = .analog i) ∧
      (∀ c, homeless c ↔ (t.channel c).inUse = true ∧
        (t.stack (t.channel c).stack).inUse = false) ∧
      (∀ c, lacksO2 c ↔ (t.channel c).inUse = true ∧ (t.channel c).kind.peripheral = false ∧
        (t.channel c).o2Ref.isSome = true ∧
        ∀ o, (t.stack (t.channel c).stack).o2Chan = some o → (t.channel o).inUse = false) ∧
      (∀ c, lacksH2o c ↔ (t.channel c).inUse = true ∧ (t.channel c).kind.peripheral = false ∧
        (t.channel c).wet = true ∧
        ∀ h, (t.stack (t.channel c).stack).h2oChan = some h → (t.channel h).inUse = false) ∧
      (∀ k, misfit k ↔ (t.stack k).inUse = true ∧ ∃ r,
        ((t.stack k).o2Chan = some r ∧ ((t.channel r).kind ≠ .o2 ∨ (t.channel r).stack ≠ k)) ∨
        ((t.stack k).h2oChan = some r ∧ ((t.channel r).kind ≠ .h2o ∨ (t.channel r).stack ≠ k)) ∨
        ((t.stack k).flowChan = some r ∧
          ((t.channel r).kind ≠ .flow ∨ (t.channel r).stack ≠ k))) ∧
      ∀ p bound i, lowest p bound i ↔ i < bound ∧ p i ∧ ∀ j, j < i → ¬ p j :=
  ⟨_, _, _, _, _, _, fun _ => .rfl, fun _ => .rfl, fun _ => .rfl, fun _ => .rfl, fun _ => .rfl,
    fun _ _ _ => .rfl⟩

/-- The stack of the worked case without its moisture reference. -/
def dryStack : StackEntry := { stack1 with h2oChan := none }

/-- The five checks of R12, each failing at the highest index it can name or near it. -/
theorem test_approval_failures :
    approvalFailure { plant with channels := plant.channels.set 31 so2 } =
        some (.inputConflict, 31) ∧
      approvalFailure { plant with
        channels := plant.channels.set 31 { flow with stack := 3 } } =
        some (.stackNotInUse, 31) ∧
      approvalFailure { plant with stackTab := plant.stackTab.set 1 dryStack } =
        some (.referenceMissing, 3) ∧
      approvalFailure { plant with stackTab := plant.stackTab.set 3 stack1 } =
        some (.referenceMissing, 3) := by decide +kernel

/-! #### Readouts -/

theorem witness_ReadoutsWalkTheirRing_open :
    let args (n k : Byte) : List Byte := [2, 0, 0, 0, n, 0, k, 0, 0, 0, 0, 0, 0]
    oneRecord.reaches .openReadout .operator (args 1 8) = true ∧ u32 (args 0 8) 1 = 0 ∧
      u16 (args 1 0) 5 = 0 ∧ ringOfCode (u8 (args 1 8) 0) = some .event ∧
      u32 (args 1 8) 1 ≠ 0 ∧ u16 (args 1 8) 5 ≠ 0 ∧
      (oneRecord.store.pointers .event).newest < u32 (args 2 8) 1 ∧
      (oneRecord.store.pointers .event).oldest ≤ u32 (args 1 8) 1 ∧
      u32 (args 1 8) 1 < ({ oldest := 2, newest := 5, collected := 2 } : Pointers).oldest := by
  decide +kernel

/-- A part whose operator readout holds the grant. -/
def reading (r : Readout) : State :=
  (oneRecord.withPort .operator { LinkPort.initial with recv := .streaming, readout := some r }).granted
    (some (grantOf (.readout .operator) false))

/-- The same part with other pointers of its event ring. -/
def pointing (p : Pointers) (s : State) : State :=
  { s with store := { s.store with event := { s.store.event with ptr := p } } }

theorem witness_ReadoutsWalkTheirRing_grant :
    (reading aReadout).grants (grantOf (.readout .operator) false) (.readout .operator) ∧
      ((reading aReadout).port .operator).readout = some aReadout ∧
      (grantOf (.readout .operator) false).stale = false ∧ aReadout.ended = false ∧
      ({ aReadout with ended := true } : Readout).ended = true ∧
      ((reading aReadout).store.readRecord .event 1).record?.isSome = true ∧
      (reading aReadout).store.readRecord .event 2 = .empty ∧
      (reading aReadout).store.readRecord .event 4097 = .other 1 ∧
      8 ≤ (List.replicate 7 ([] : List Byte) ++ [[]]).length ∧ aReadout.walked + 1 ≠ aReadout.count ∧
      aReadout.next + 1 ≤ ((pointing ⟨1, 2, 0⟩ (reading aReadout)).store.pointers .event).newest ∧
      ((pointing ⟨2, 2, 0⟩ (reading aReadout)).store.pointers .event).oldest ≤
        aReadout.next + 1 ∧
      aReadout.next + 1 < ((pointing ⟨3, 5, 0⟩ (reading aReadout)).store.pointers .event).oldest ∧
      ((reading aReadout).store.pointers .event).newest < aReadout.next + 1 ∧
      ({ aReadout with count := 1 } : Readout).walked + 1 = 1 :=
  ⟨⟨rfl, rfl, rfl, rfl⟩, rfl, rfl, rfl, rfl, by decide +kernel, by decide +kernel,
    by decide +kernel, by decide, by decide, by decide +kernel, by decide +kernel,
    by decide +kernel, by decide +kernel, rfl⟩

/-- A part whose operator port streams. -/
def streaming (r : Readout) (tx : List TxItem) : State :=
  oneRecord.withPort .operator { LinkPort.initial with
    recv := .streaming, readout := some r, tx := tx }

theorem witness_ReadoutsEnd :
    (run .recording).reaches .stop .operator [] = true ∧
      (streaming aReadout []).linksRespond = true ∧ ([0] : List Byte).length ≠ 0 ∧
      ({ streaming aReadout [] with supply := starting.supply } : State).supply.power =
        .starting ∧
      (streaming aReadout []).running = true ∧
      ((streaming aReadout []).port .operator).recv = .streaming ∧
      ((streaming aReadout []).port .operator).readout = some aReadout ∧
      (∀ g, (streaming aReadout []).arbiter.grant = some g → g.claim ≠ .readout .operator) ∧
      ((streaming aReadout []).granted (some (grantOf (.readout .operator) false))).arbiter.grant =
        some (grantOf (.readout .operator) false) ∧
      (∀ d rest, ((streaming aReadout [.dataFault 1]).port .operator).tx ≠
        .streamBlock d :: rest) ∧
      ((streaming aReadout [.streamBlock [0], .dataFault 1]).port .operator).tx =
        .streamBlock [0] :: [.dataFault 1] :=
  ⟨by decide +kernel, by decide, by decide, rfl, by decide, rfl, rfl, noGrant rfl, rfl,
    (fun _ _ h => by cases h), rfl⟩

theorem witness_ReadoutsEnd_sent :
    ((streaming aReadout [.streamBlock [0]]).port .operator).tx = .streamBlock [0] :: [] ∧
      ((streaming aReadout [.streamBlock [0]]).port .operator).leaving = [] ∧
      ((left [.streamBlock [0], .dataFault 1]).port .operator).leaving =
        .streamBlock [0] :: [.dataFault 1] ∧ (left []).linksRespond = true ∧
      ({ aReadout with stopping := true } : Readout).stopping = true ∧
      ({ aReadout with ended := true } : Readout).ended = true ∧ aReadout.walked ≠ aReadout.count ∧
      aReadout.next ≤ ((streaming aReadout []).store.pointers .event).newest ∧
      ((streaming aReadout []).store.pointers .event).oldest ≤ aReadout.next ∧
      ((streaming aReadout []).store.pointers .event).newest ≠ 0 ∧
      aReadout.next < ((pointing ⟨2, 5, 0⟩ (streaming aReadout [])).store.pointers .event).oldest ∧
      ({ aReadout with next := 0 } : Readout).next ≤
        ((run .recording).store.pointers .event).newest ∧
      ((run .recording).store.pointers .event).newest = 0 ∧
      ((streaming aReadout []).store.pointers .event).newest <
        ({ aReadout with next := 2 } : Readout).next := by decide +kernel

/-! #### The store -/

/-- A part whose grant is at hand for a claim. -/
def granting (s : State) (c : Claim) (begun : Bool) : State := s.granted (some (grantOf c begun))

theorem grants_of {s : State} (h : s.running = true) (c : Claim) :
    (granting s c false).grants (grantOf c false) c ∧
      (granting s c true).programs (grantOf c true) c := ⟨⟨h, rfl, rfl, rfl⟩, h, rfl, rfl, rfl⟩

/-- Both links wait: the operator for a write, the inspection link for a read. -/
def bothWait : State :=
  (run .recording).withPort .operator (LinkPort.initial.withOp .withdrawStage true)
    |>.withPort .inspection { LinkPort.initial with readout := some { aReadout with waiting := true } }

theorem witness_ArbiterGrantsInOrder :
    bothWait.running = true ∧ bothWait.arbiter.grant = none ∧
      bothWait.links.operator.claim .operator = some (.op .operator) ∧
      bothWait.links.inspection.claim .inspection = some (.readout .inspection) ∧
      bothWait.arbiter.recClaims = [] ∧ bothWait.recorder.queue = [] ∧
      bothWait.inForce.device.arbiterMode = .rotate ∧
      bothWait.arbiter.rotation ≠ .operator ∧ bothWait.recorderClaim = none ∧
      (run .recording).recorderClaim = none ∧
      (run .recording).links.operator.claim .operator = none ∧
      (queued (run .recording) [anEvent]).recorder.queue ≠ [] ∧
      (faulty bothWait).store.fault = true ∧ (run .suspended).supply.mode = .suspended ∧
      ([RecClaim.transfer] : List RecClaim) = .transfer :: [] ∧
      ([RecClaim.protection, .transfer] : List RecClaim) = .protection :: [.transfer] := by
  decide +kernel

/-- So many event records wait. -/
def full (n : Nat) : State := queued (run .recording) (List.replicate n anEvent)

/-- The full event ring of the worked sequence. -/
def fullRing (collected : Nat) : State :=
  let s := queued (run .recording) [anEvent]
  { s with store := { s.store with event := { s.store.event with
      ptr := ⟨5905, 10000, collected⟩
      cells := [(1808, (5905, .plain 0 .timeStep 0))] } } }

theorem witness_RecordsAreOfferedAndTheirWritesBegin :
    (full 95).recorder.queue.length < 96 ∧ (full 96).recorder.queue.length = 96 ∧
      (full 96).supply.power ≠ .starting ∧
      (granting (run .recording) .transfer false).grants (grantOf .transfer false) .transfer ∧
      (granting (run .recording) .protection false).grants (grantOf .protection false) .protection ∧
      (granting (fullRing 5905) .queue false).grants (grantOf .queue false) .queue ∧
      (queued (run .recording) [.checkpoint 0 (.blank .opened none)]).recorder.queue =
        .checkpoint 0 (.blank .opened none) :: [] ∧
      (fullRing 5905).recorder.queue = anEvent :: [] ∧ anEvent.ring = some .event ∧
      ((run .recording).store.pointers .event).oldest = 0 ∧
      ((fullRing 5905).store.pointers .event).oldest ≠ 0 ∧
      10000 + 1 - 5905 = RingName.event.capacity ∧
      ((fullRing 5905).store.pointers .event).oldest ≤
        ((fullRing 5905).store.pointers .event).collected ∧
      ((fullRing 5904).store.pointers .event).collected <
        ((fullRing 5904).store.pointers .event).oldest ∧
      (fullRing 5904).store.numberAt .event ((5905 - 1) % RingName.event.capacity) =
        some 5905 :=
  ⟨by decide +kernel, by decide +kernel, by decide, (grants_of rfl _).1, (grants_of rfl _).1,
    (grants_of rfl _).1, rfl, rfl, rfl, rfl, by decide, by decide, by decide, by decide,
    by decide +kernel⟩

theorem witness_QueuedRecordsAreWritten :
    (granting (fullRing 5905) .queue true).programs (grantOf .queue true) .queue ∧
      (fullRing 5905).RingsOrdered ∧ (fullRing 5905).recorder.queue = anEvent :: [] ∧
      anEvent.ring = some .event ∧
      (queued (run .recording) [.checkpoint 1 (.blank .final none)]).recorder.queue =
        .checkpoint 1 (.blank .final none) :: [] ∧
      (run .recording).store.tally[1]? = some (.blank .unused none) ∧
      (granting (queued (run .recording) [.checkpoint 1 (.blank .final none)]) .queue
        true).programs (grantOf .queue true) .queue :=
  ⟨(grants_of rfl _).2, ⟨by decide, by decide, by decide, by decide⟩, rfl, rfl, rfl, rfl,
    (grants_of rfl _).2⟩

/-- A grant whose first attempt has failed. -/
def failedGrant (c : Claim) : Grant := { grantOf c true with failedOnce := true }

/-- A part whose claim has failed once, in a part of its writes. -/
def failing (s : State) (c : Claim) (part : Nat) : State :=
  s.granted (some { failedGrant c with part := part })

theorem failing_programs {s : State} (h : s.running = true) (c : Claim) (part : Nat) :
    (failing s c part).programs { failedGrant c with part := part } c := ⟨h, rfl, rfl, rfl⟩

theorem witness_FailedWritesAreRetriedOnce :
    (run .recording).running = true ∧ (full 95).roomFor 1 ∧
      ((full 1).port .operator).op = none ∧
      (((run .recording).withPort .operator (LinkPort.initial.withOp .approve true)).port
        .operator).op = some { cmd := .approve, waiting := true } ∧
      (granting (full 1) .queue true).programs (grantOf .queue true) .queue ∧
      Attempt.failed ≠ .verified ∧ Attempt.pointersFailed ≠ .verified ∧
      (grantOf .queue true).failedOnce = false ∧ (grantOf .queue true).part = 0 ∧
      (full 1).recorder.queue = anEvent :: [] ∧ anEvent.ring = some .event ∧
      (∀ part, (failing (full 1) .queue part).programs { failedGrant .queue with part := part }
        .queue) ∧
      (queued (run .recording) [.checkpoint 1 (.blank .final none)]).recorder.queue =
        .checkpoint 1 (.blank .final none) :: [] ∧
      (failing (run .recording) .transfer 0).programs { failedGrant .transfer with part := 0 }
        .transfer ∧
      (failing (run .recording) .protection 0).programs
        { failedGrant .protection with part := 0 } .protection :=
  ⟨rfl, by unfold State.roomFor; decide +kernel, rfl, rfl, (grants_of rfl _).2, by decide,
    by decide, rfl, rfl, rfl, rfl, failing_programs rfl _, rfl, failing_programs rfl _ _,
    failing_programs rfl _ _⟩

theorem witness_FailedWritesAreRetriedOnce_operations (cmd : BusyCmd) (part : Nat) :
    (failing (working (run .recording) .operator cmd) (.op .operator) part).programs
        { failedGrant (.op .operator) with part := part } (.op .operator) ∧
      (failing (working (run .recording) .operator cmd) (.op .operator) part).opCmd .operator =
        some cmd := ⟨failing_programs rfl _ _, rfl⟩

theorem holds_begun (m : Mode) (g : StageState) (l : Link) (cmd : BusyCmd) :
    (holding (staged m g) l cmd true).programs (grantOf (.op l) true) (.op l) ∧
      (holding (staged m g) l cmd true).opCmd l = some cmd ∧
      (holding (staged m g) l cmd true).roomFor 2 := by
  refine ⟨⟨rfl, rfl, rfl, rfl⟩, by cases l <;> rfl, ?_⟩
  show 0 + 2 ≤ 96
  decide

theorem witness_StageWritesTakeEffect :
    BusyCmd.withdrawStage ≠ .approve ∧
      (holding (staged .recording .opened) .inspection .approve true).supply.mode ≠ .commissioning ∧
      (holding (staged .recording .opened) .operator .withdrawStage true).config.stage.state =
        .opened ∧
      (holding (staged .recording .empty) .operator (.stageDevice .factory) true).config.stage.state =
        .empty ∧
      (holding (staged .commissioning .opened) .operator .approve true).supply.mode =
        .commissioning ∧
      (merged plant (staged .commissioning .opened).config.stage).device.mains =
        plant.device.mains ∧
      (holding (staged .recording .opened) .inspection .approve true).recorder.queue.length + 3 ≤
        96 := by decide +kernel

/-- A device record that rejects 60 Hz. -/
def sixty : DeviceSettings := { DeviceSettings.factory with mains := .hz60 }

/-- A commissioning approval that moves a LOCKED synthesizer to 60 Hz. -/
def moving : State :=
  let s := holding (staged .commissioning .opened) .operator .approve true
  { s with
    config := { s.config with stage := { s.config.stage with device := some sixty } }
    scan := { s.scan with synth := .locked } }

theorem witness_StageWritesTakeEffect_unlocks :
    moving.programs (grantOf (.op .operator) true) (.op .operator) ∧
      moving.opCmd .operator = some .approve ∧ moving.supply.mode = .commissioning ∧
      moving.scan.synth = .locked ∧
      (merged moving.config.active moving.config.stage).device.mains ≠
        moving.config.active.device.mains :=
  ⟨⟨rfl, rfl, rfl, rfl⟩, rfl, rfl, rfl, by decide +kernel⟩

/-- A part whose second boundary waits for the write in progress, at a second. -/
def heldAt (t : Nat) (s : State) : State :=
  { s with
    time := { s.time with counter := t }
    sec := { s.sec with processed := true, held := some .edge } }

theorem witness_ArchiveWritesTakeEffect :
    (holding (run .recording) .operator (.commitCollection .event 9000) true).programs
        (grantOf (.op .operator) true) (.op .operator) ∧
      (holding (tallied .final) .inspection (.commitReport 2031 (some 0)) true).programs
        (grantOf (.op .inspection) true) (.op .inspection) ∧
      (tallied .final).store.tallySpare[0]? = some (.blank .unused none) ∧
      (tallied .final).store.tally[0]? = some (.blank .unused none) ∧
      slotOfYear (tallied .final).recorder.tally 2031 = some 0 ∧
      (tallied .final).recorder.tally[0]? = some (.blank .final (some 2031)) ∧
      slotOfYear (tallied .final).recorder.tally 2030 ≠ some 0 ∧
      (holding (run .commissioning) .inspection .inService true).opCmd .inspection =
        some .inService ∧
      (heldAt 984587400 (run .commissioning)).sec.held = some .edge ∧
      (heldAt 984587400 (run .commissioning)).time.counter % 1800 = 0 ∧
      (run .commissioning).sec.held = none ∧ (run .commissioning).roomFor 1 ∧
      ((run .commissioning).time.counter / 1800 + 1) * 1800 ≤ 4294967295 ∧
      (let s := heldAt 4294965601 (run .commissioning)
       s.sec.held = some .edge ∧ s.time.counter % 1800 ≠ 0 ∧
        4294967295 < (s.time.counter / 1800 + 1) * 1800) ∧
      (holding (run .recording) .inspection .withdraw true).opCmd .inspection = some .withdraw ∧
      (granting (run .recording) .transfer true).programs (grantOf .transfer true) .transfer ∧
      (granting (run .recording) .protection true).programs (grantOf .protection true)
        .protection :=
  ⟨⟨rfl, rfl, rfl, rfl⟩, ⟨rfl, rfl, rfl, rfl⟩, rfl, rfl, by decide +kernel, by decide +kernel,
    by decide +kernel, rfl, rfl, by decide, rfl, by unfold State.roomFor; decide, by decide,
    by decide, rfl,
    (grants_of rfl _).2, (grants_of rfl _).2⟩

/-- An IN SERVICE committed before an interval boundary and verified after it starts recording at that
boundary (R152). -/
theorem test_start_boundary_of_a_held_edge :
    ((after (.writeAttemptComplete .verified)
      (heldAt 984587400 (holding (run .commissioning) .inspection .inService true))).map fun t =>
        (t.supply.mode, t.recorder.accSets.map AccSet.start)) =
      some (.recording, [984587400]) := by decide +kernel

/-- The point of a withdrawal committed before an edge and verified after it is that edge (R154). -/
theorem test_withdrawal_point_of_a_held_edge :
    ((after (.writeAttemptComplete .verified)
      (heldAt 984587921 (holding (run .recording) .inspection .withdraw true))).bind fun t =>
        t.recorder.withdrawal.bind Withdrawal.point) = some 984587921 := by decide +kernel

/-- An erase whose last write is being programmed, with a readout open on its link. -/
def erasing (part : Nat) : State :=
  ((run .withdrawn).withPort .inspection { (LinkPort.initial.withOp .eraseArchive false) with
    readout := some aReadout }).granted
      (some { grantOf (.op .inspection) true with part := part })

theorem witness_EraseLeavesTheFactoryArchive :
    (∀ part, (erasing part).programs { grantOf (.op .inspection) true with part := part }
        (.op .inspection)) ∧ (erasing 2).opCmd .inspection = some .eraseArchive ∧
      (erasing 2).scan.synth ≠ .locked ∧ moving.scan.synth = .locked ∧
      sixty.mains = .hz60 ∧ (erasing 2).config.active.device.mains = .hz50 ∧
      ((erasing 2).port .inspection).readout = some aReadout ∧
      ((erasing 2).port .operator).readout = none :=
  ⟨fun _ => ⟨rfl, rfl, rfl, rfl⟩, rfl, by decide, rfl, rfl, by decide, rfl, rfl⟩

/-- A port that an erase cuts in the middle of a block sends the block and the token before the reply to a
later frame (R156, R174). -/
theorem test_erase_cuts_a_stream :
    let s := (erasing 2).withPort .operator { LinkPort.initial with
      selected := true, recv := .streaming, readout := some aReadout
      tx := [.streamBlock [7], .endOfStream] }
    let t := (after (.writeAttemptComplete .verified) s).getD .reset
    let u := (after (.readTime .operator [] 0) t).getD .reset
    let v := [Instr.readoutBlockSent .operator, .replySent .operator, .replySent .operator].foldl
      (fun x i => (after i x).getD x) u
    (t.port .operator).leaving = [.streamBlock [7], .dataFault 1] ∧
      (t.port .operator).recv = .idle ∧ (u.port .operator).recv = .replying ∧
      (u.port .operator).leaving = [.streamBlock [7], .dataFault 1] ∧
      (v.port .operator).leaving = [] ∧ (v.port .operator).recv = .idle ∧
      (v.port .operator).tx = [] := by decide +kernel

/-! #### Annotations -/

/-- A part whose operator marks are set. -/
def marked (m : Marks) : State := { run .recording with links := { State.reset.links with marks := m } }

theorem witness_MarksAreSet :
    (run .recording).reaches .markStart .operator [3, 255, 0, 0, 0x07, 0x08] = true ∧
      3 < u8 [4, 255, 0, 0, 0, 0] 0 ∧ u8 [3, 255, 0, 0, 0x07, 0x08] 1 = 255 ∧
      u8 [3, 31, 0, 0, 0x07, 0x08] 1 ≤ 31 ∧ u32 [3, 255, 0, 0, 0x07, 0x08] 2 % 1800 = 0 ∧
      u32 [3, 255, 0, 0, 0x07, 0x09] 2 % 1800 ≠ 0 ∧
      (run .withdrawn).supply.mode ≠ .recording ∧
      (marked (.startMarked 1 none 1800)).reaches .markEnd .operator [0, 0, 0x07, 0x08] = true ∧
      u32 [0, 0, 0, 0] 0 < 1800 ∧ u32 [0, 0, 0x07, 0x08] 0 % 1800 = 0 ∧
      1800 ≤ u32 [0, 0, 0x07, 0x08] 0 ∧
      336 < (u32 (bytes4 (1800 * 337)) 0 - 1800) / 1800 + 1 ∧
      (u32 (bytes4 (1800 * 336)) 0 - 1800) / 1800 + 1 ≤ 336 ∧
      (run .recording).links.marks = .none ∧
      (holding (run .recording) .inspection .withdraw true).supply.mode = .recording ∧
      (holding (run .recording) .inspection .withdraw true).committed = some .withdraw ∧
      (holding (run .recording) .inspection .withdraw true).reaches .markStart .operator
        [3, 255, 0, 0, 0x07, 0x08] = true ∧
      (marked (.startMarked 1 none 1800)).committed = none := by decide +kernel

/-- The day of that record, with its map slot in a state. -/
def aDay (m : MapState) : ProvDay :=
  { day := 11395, entries := [DayEntry.contribute aRecord m (.fresh 3)] }

def annotating (m : MapState) : State :=
  let s := marked (.bothMarked 1 (some 3) 984560400 984560400)
  { s with
    recorder := { s.recorder with table := [aDay m] }
    store := { s.store with interval := { s.store.interval with
      ptr := ⟨1, 1, 0⟩, cells := [(0, (1, aRecord))] } } }

/-- An annotation at its only candidate, in a phase. -/
def anAnnotation (p : AnnPhase) : AnnOp :=
  { stack := 1, channel := some 3, first := 984560400, last := 984560400, kind := .invalidate
    remark := 7, interval := 984560400, todo := [some 3]
    counts := { applied := 0, refusedClosed := 0, refusedKind := 0, absent := 0 }, phase := p }

def annotated (m : MapState) (p : AnnPhase) : State :=
  (annotating m).withPort .operator
    (LinkPort.initial.withOp (.applyAnnotation (anAnnotation p)) false)

theorem witness_AnnotationsBegin :
    (annotating (.stored 1)).reaches .applyAnnotation .operator [1, 0] = true ∧
      u8 [0, 0] 0 = 0 ∧ 5 < u8 [6, 0] 0 ∧ 1 ≤ u8 [1, 0] 0 ∧ u8 [5, 0] 0 ≤ 5 ∧
      (∀ k c a b, (run .recording).links.marks ≠ .bothMarked k c a b) ∧
      (holding (run .recording) .inspection .withdraw true).committed = some .withdraw ∧
      (annotating (.stored 1)).committed = none ∧ annKindOfCode (u8 [1, 0] 0) = some .invalidate ∧
      (annotating (.stored 1)).supply.mode = .recording ∧
      (annotating (.stored 1)).links.marks = .bothMarked 1 (some 3) 984560400 984560400 ∧
      candidates (annotating (.stored 1)).recorder.table 1 (some 3) 984560400 = some 3 :: [] ∧
      (annotating (.stored 1)).finding 1 984560400 (some 3) = .stored 1 ∧
      (annotating (.stored 1)).store.fault = false :=
  ⟨by decide +kernel, by decide, by decide, by decide, by decide, (fun _ _ _ _ h => by cases h),
    rfl, rfl, by decide, rfl, rfl, by decide +kernel, by decide +kernel, rfl⟩

theorem witness_AnnotationsBegin_candidates :
    (∃ d, ({ State.reset.store with closedThrough := some 11395 } : Store).closedThrough = some d ∧
        dayOf 984560400 ≤ d) ∧
      (∀ d, ({ State.reset.store with closedThrough := some 11394 } : Store).closedThrough =
        some d → d < dayOf 984560400) ∧
      (∃ m, slotAt (annotating .queued).recorder.table 984560400 3 = some m ∧
        m.state = .queued ∧ m.stack = 1) ∧
      (∃ m, slotAt (annotating .notStored).recorder.table 984560400 3 = some m ∧
        m.state = .notStored) ∧
      (∃ m, slotAt (annotating (.stored 1)).recorder.table 984560400 3 = some m ∧
        m.state = .stored 1 ∧ m.stack = 1) ∧
      slotAt (annotating .queued).recorder.table 984560400 4 = none :=
  ⟨⟨11395, rfl, by decide⟩, (fun d h => by cases h; decide), ⟨_, rfl, rfl, rfl⟩, ⟨_, rfl, rfl⟩,
    ⟨_, rfl, rfl, rfl⟩, by decide +kernel⟩

/-- The walk at its ends: behind the last interval, before it, and at each finding, in FAULT too. -/
theorem witness_AnnotationsBegin_walk :
    let op : AnnOp := { (anAnnotation .examine) with todo := [] }
    let closed (s : State) : State := { s with store := { s.store with closedThrough := some 11395 } }
    op.last ≤ op.interval ∧ ({ op with last := op.interval + 1800 } : AnnOp).interval <
        ({ op with last := op.interval + 1800 } : AnnOp).last ∧
      (closed (annotating .queued)).finding 1 984560400 (some 3) = .refusedClosed ∧
      (annotating .notStored).finding 1 984560400 (some 3) = .absent ∧
      (annotating .queued).finding 1 984560400 (some 3) = .queued ∧
      (faulty (annotating .queued)).store.fault = true ∧
      (faulty (annotating (.stored 1))).finding 1 984560400 (some 3) = .stored 1 ∧
      (annotated .queued .examine).running = true ∧
      ((annotated .queued .examine).port .operator).op =
        some { cmd := .applyAnnotation (anAnnotation .examine), waiting := false } ∧
      (annotated .queued .examine).recorder.queue.length + 1 ≤ 96 := by decide +kernel

theorem witness_KindsRewriteRecords :
    let n := aRecord.annotate .invalidate 7 false
    let x := aRecord.annotate .abnormal 7 false
    aRecord.finalClass = .operating ∧ aRecord.finalValid = .valid ∧
      aRecord.annotated = false ∧ n.finalClass = .operating ∧ n.finalValid = .invalid ∧
      x.finalClass = .abnormal ∧ x.finalClass ≠ .operating ∧ n.start = aRecord.start ∧
      n.channel = aRecord.channel ∧ n.validated = aRecord.validated ∧ n.annotated = true ∧
      (aRecord.annotate .startupShutdown 0 false).finalClass = .notOperating ∧
      (n.annotate .restore 0 false).annotated = false ∧
      (aRecord.annotate .remark 7 false).finalValid = aRecord.finalValid ∧
      marchDay.nValid ≠ 0 ∧ marchDay.nInvalid ≠ 0 ∧ marchDay.nNotOp ≠ 0 := by decide +kernel

theorem witness_KindsRewriteRecords_exceeded :
    let r := { aRecord with exceeded := true }
    r.exceeded = true ∧ (r.annotate .invalidate 0 true).exceeded = false ∧
      ((r.annotate .invalidate 0 true).annotate .restore 0 true).exceeded = true ∧
      ({ marchDay with nAbnormal := 1 } : DayEntry).nAbnormal ≠ 0 ∧
      aRecord.validated.getD 0 ≤ marchDay.sumValidated ∧
      marchDay.map[18]? = some .vacant ∧
      ((annotating (.stored 1)).recorder.table.flatMap ProvDay.entries).map
        (fun e => (e.map[18]?).map MapSlot.state) = [some (.stored 1)] := by decide +kernel

theorem witness_AnnotationsGoOn_phases :
    let n := aRecord.annotate .invalidate 7 false
    (annotated (.stored 1) .waitQueued).running = true ∧
      (annotated (.stored 1) .waitQueued).finding 1 984560400 (some 3) = .stored 1 ∧
      (annotated .queued .waitQueued).finding 1 984560400 (some 3) = .queued ∧
      (annotated .queued .waitQueued).store.fault = false ∧
      (annotated (.stored 1) (.waitRead 1)).store.interval.read .interval 1 =
        .record aRecord ∧
      (annotated (.stored 1) (.waitRead 2)).store.interval.read .interval 2 = .empty ∧
      (annotated (.stored 1) (.waitRead 65537)).store.interval.read .interval 65537 = .other 1 ∧
      AnnKind.invalidate.applies aRecord = true ∧
      AnnKind.restore.applies aRecord = false ∧
      (annotated (.stored 1) (.verified aRecord n)).recorder.work = [] ∧
      (anAnnotation (.waitRead 1)).last ≤ (anAnnotation (.waitRead 1)).interval ∧
      (annotated (.stored 1) (.verified aRecord n)).recorder.queue.length + 1 ≤ 96 := by
  decide +kernel

theorem witness_AnnotationsGoOn_grants :
    let n := aRecord.annotate .invalidate 7 false
    (granting (annotated (.stored 1) (.waitRead 1)) .annRead false).grants
        (grantOf .annRead false) .annRead ∧
      (granting (annotated (.stored 1) (.waitRewrite 1 aRecord n)) .annRewrite false).grants
        (grantOf .annRewrite false) .annRewrite ∧
      (granting (annotated (.stored 1) (.programming 1 aRecord n)) .annRewrite true).programs
        (grantOf .annRewrite true) .annRewrite ∧
      (annotated (.stored 1) (.programming 1 aRecord n)).RingsOrdered ∧
      ((annotated (.stored 1) (.waitRead 1)).port .operator).op =
        some { cmd := .applyAnnotation (anAnnotation (.waitRead 1)), waiting := false } ∧
      (∀ d, (annotated (.stored 1) (.waitRead 1)).store.closedThrough = some d →
        d < dayOf aRecord.start) ∧ dayOf aRecord.start ≤ 11395 ∧
      (annotated (.stored 1) (.waitRead 1)).roomFor 1 :=
  ⟨(grants_of rfl _).1, (grants_of rfl _).1, (grants_of rfl _).2,
    ⟨by decide +kernel, by decide, by decide, by decide⟩, rfl, (fun _ h => by cases h),
    by decide, by unfold State.roomFor; decide⟩

/-! #### From a sample to a year's tally -/

theorem witness_QuotientsAreRounded : 0 < 1 := by decide

theorem witness_DatesAreReckoned :
    dayNumber 2000 1 1 = some 0 ∧ dayNumber 2000 12 31 = some 365 ∧
      dayNumber 2001 1 1 = some 366 ∧ dayNumber 2136 2 7 = some 49710 ∧
      dayNumber 2100 2 28 = some 36583 ∧ dayNumber 2100 3 1 = some 36584 ∧
      dayNumber 2028 2 28 = some 10285 ∧ dayNumber 2028 2 29 = some 10286 := by decide +kernel

theorem witness_SecondsAreNormalised_chain :
    (second .good 9440).sampleOf 5 = some (sampleAt 5 .good 11400) ∧
      ((second .good 9440).cfg.channel 5).kind.peripheral = true ∧
      Verdict.stale.valid = false ∧ Verdict.good.valid = true ∧ so2.source = .analog 7 ∧
      so2.range = some 50000 ∧ so2.kind.peripheral = false ∧ so2.wet = true ∧
      so2.o2Ref = some 1100 ∧ flow.source = .link ∧
      (second .good 9440).reference (some 4) = some 850 ∧
      inMaintenance.reference (some 4) = none ∧
      ((second .good 9440).normalise (sampleAt 3 .good 7360)).yDry = some 13280 ∧
      ChannelEntry.factory.source = .constant 0 ∧ ChannelEntry.factory.wet = false := by
  decide +kernel

theorem witness_SecondsAreNormalised :
    paired.running = true ∧ paired.norm.samples = second .good 9440 :: [] ∧
      paired.norm.stackSets =
        { second := 984587920, marks := List.replicate 4 ⟨true, .operating, false⟩ } :: [] ∧
      (second .good 9440).second = 984587920 ∧ (second .good 9440).mode = .recording ∧
      ({ second .good 9440 with second := 984587919 } : SampleSet).second ≠ 984587920 ∧
      ({ second .good 9440 with mode := .withdrawn } : SampleSet).mode ≠ .recording ∧
      paired.recorder.handed = [] ∧ nineOClock.start = intervalStart 984560401 := by
  decide +kernel

/-- A normalised set of a second of the worked interval. -/
def aSet (second : Nat) : NormSet :=
  normalSet { Tests.second .good 9440 with second := second }
    { second := second, marks := List.replicate 4 ⟨true, .operating, false⟩ }

def handed (n : NormSet) : State :=
  let s := run .recording
  { s with recorder := { s.recorder with handed := [n], accSets := [nineOClock] } }

theorem witness_SecondsAreAccumulated :
    (handed (aSet 984560400)).running = true ∧
      (handed (aSet 984560400)).recorder.handed = aSet 984560400 :: [] ∧
      (handed (aSet 984560400)).recorder.work = [] ∧ (aSet 984560400).second % 1800 ≠ 1799 ∧
      (aSet 984562199).second % 1800 = 1799 ∧
      ([nineOClock].find? fun b =>
        decide (b.start = (aSet 984562199).second - (aSet 984562199).second % 1800)) =
        some nineOClock ∧
      (handed (aSet 984562199)).recorder.queue.length + 2 ≤ 96 ∧
      ((handed (aSet 984562199)).norm.liveChannels.getD 0 none).map NormChannel.second ≠
        some (aSet 984562199).second := by decide +kernel

theorem witness_IntervalsAreJudged :
    so2Interval.secsOp + so2Interval.secsAbn ≠ 0 ∧
      (Accumulator.fresh false false 3).secsOp + (Accumulator.fresh false false 3).secsAbn = 0 ∧
      so2Interval.secsAbn = 0 ∧ 1 ≤ ({ so2Interval with secsAbn := 1 } : Accumulator).secsAbn := by
  decide +kernel

theorem witness_RecordsContributeToTheirDay :
    (aRecord.finalClass = .operating ∧ aRecord.finalValid = .valid) ∧
      marchDay.maximum = some (2980, 984591000) ∧ (DayEntry.fresh 3).maximum = none ∧
      ¬ ((nineOClock.record (Accumulator.fresh false false 3)).finalClass = .operating) ∧
      (DayEntry.fresh 3).map[47]? = some .vacant := by decide +kernel

/-- A day without operation, so many of its intervals recorded. -/
def idleDay (n : Nat) : DayEntry := { DayEntry.fresh 3 with recorded := n }

theorem witness_DaysAreJudgedAndTallied :
    (idleDay 48).nValid + (idleDay 48).nInvalid + (idleDay 48).nAbnormal = 0 ∧
      48 ≤ (idleDay 48).recorded ∧ (idleDay 47).recorded < 48 ∧
      marchDay.nValid + marchDay.nInvalid + marchDay.nAbnormal ≠ 0 ∧
      marchDay.maximum = some (2980, 984591000) ∧
      (marchDay.record plant .scheduled 11395).validity = .valid ∧
      (marchDay.record plant .scheduled 11395).average = some 2304 ∧
      (idleDay 48).maximum = none ∧ ChannelTally.zero.maxInterval = none ∧
      ChannelTally.zero.maxDay = none ∧
      (ChannelTally.zero.add (marchDay.record plant .scheduled 11395)).maxInterval.isSome = true ∧
      (ChannelTally.zero.add (marchDay.record plant .scheduled 11395)).maxDay.isSome = true ∧
      (TallySlot.blank .opened (some 2031)).stackAbn[3]? = some 0 ∧
      (marchDay.record plant .scheduled 11395).secsAbn ≤ 0 ∧
      (TallySlot.blank .opened (some 2031)).channels[3]? = some .zero := by decide +kernel

/-- A part with a close occasion in work, over a table. -/
def closingOver (cause : CloseCause) (last : Nat) (joins : Option Nat) (table : List ProvDay) :
    State :=
  let s := tallied .opened
  { s with recorder := { s.recorder with
      table := table
      work := [.occasion
        { cause := cause, range := .through last, joins := joins, gov := plant, closed := 0 }] } }

def closing : State := closingOver .commanded 11392 none [⟨11391, []⟩, ⟨11392, []⟩]

/-- A protection word that is granted and not yet begun carries the date of a day that closes now; one that is
being programmed needs a further claim (R142). -/
theorem test_protection_claims :
    let claims (s : State) := (after .dayClose s).map fun t => t.arbiter.recClaims
    claims closing = some [] ∧
      ((after .dayClose closing).bind fun t => t.arbiter.grant.map Grant.claim) =
        some .protection ∧
      claims (granting closing .protection false) = some [] ∧
      claims (granting closing .protection true) = some [.protection] := by decide +kernel

theorem witness_DaysCloseOldestFirst :
    closing.running = true ∧ closing.annotation = none ∧
      closing.recorder.table = ⟨11391, []⟩ :: ⟨11392, []⟩ :: [] ∧
      (DayRange.through 11392).holds 11391 = true ∧ (DayRange.through 11392).holds 11392 = true ∧
      (DayRange.through 11391).holds 11392 = false ∧
      (∀ d ∈ ([⟨11392, []⟩] : List ProvDay), 11391 < d.day) ∧
      (∀ a ∈ closing.recorder.accSets, dayOf a.start ≠ 11391) ∧
      ((⟨11391, []⟩ : ProvDay).closing plant).isEmpty = false ∧
      ((⟨11391, []⟩ : ProvDay).closing .factory).isEmpty = true ∧
      slotOfYear closing.recorder.tally (yearOfDay 11391) = some 0 ∧
      closing.recorder.tally[0]? = some (.blank .opened (some 2031)) ∧
      closing.recorder.queue.length + (((⟨11391, []⟩ : ProvDay).closing plant).length + 2) ≤ 96 := by
  decide +kernel

/-- The last day of 2031, and slots that leave no place for its year. -/
theorem witness_DaysCloseOldestFirst_slots :
    yearOfDay 11687 = 2031 ∧ isLastOfYear 11687 = true ∧ isLastOfYear 11391 = false ∧
      slotOfYear (run .recording).recorder.tally 2031 = none ∧
      (run .recording).recorder.tally = [.blank .unused none, .blank .unused none] ∧
      (run .recording).committed = none ∧
      slotOfYear [.blank .final (some 2030), .blank .reported (some 2029)] 2031 = none ∧
      TallyState.reported ≠ .unused ∧ TallyState.final ≠ .reported := by decide +kernel

/-- The last day of 2031 about to close, with no slot of its year. -/
def lastOfYear : State :=
  let s := closingOver .scheduled 11687 (some 11691) [⟨11687, []⟩, ⟨11690, []⟩]
  { s with recorder := { s.recorder with
      tally := [.blank .final (some 2030), .blank .final (some 2032)] } }

/-- The 2030 report is lost to it, and its slot turns FINAL with the close of 31 December. -/
theorem test_close_of_a_year :
    (after .dayClose lastOfYear).map (fun t => t.recorder.table.map ProvDay.day) =
        some [11690, 11691] ∧
      (after .dayClose lastOfYear).map (fun t => t.recorder.queue.length) = some 7 ∧
      (after .dayClose lastOfYear).map (fun t => t.recorder.tally.map fun x =>
        (x.state, x.year, x.lostReports)) =
        some [(.final, some 2031, 1), (.final, some 2032, 0)] := by decide +kernel

/-- A CLOSE DAYS in flight, not yet taken up. -/
def closingDays (s : State) : State := working s .inspection (.closeDays 11394 false)

theorem witness_CloseDaysIsDecidedAndTakenUp :
    (run .recording).reaches .closeDays .inspection [0x07, 0xEF, 3, 13] = true ∧
      dayNumber (u16 [0x07, 0xEF, 2, 29] 0) (u8 [0x07, 0xEF, 2, 29] 2)
        (u8 [0x07, 0xEF, 2, 29] 3) = none ∧
      dayNumber (u16 [0x07, 0xEF, 3, 13] 0) (u8 [0x07, 0xEF, 3, 13] 2)
        (u8 [0x07, 0xEF, 3, 13] 3) = some 11394 ∧
      11394 < dayOf (run .recording).time.counter ∧ dayOf (run .recording).time.counter ≤ 11395 ∧
      (run .withdrawn).reaches .closeDays .inspection [0x07, 0xEF, 3, 13] = true ∧
      (holding (run .recording) .operator .withdraw true).committed = some .withdraw ∧
      (run .recording).committed = none ∧
      ((closingDays (run .recording)).port .inspection).op =
        some { cmd := .closeDays 11394 false, waiting := false } ∧
      (∀ p ∈ (run .recording).recorder.table, 11394 < p.day) ∧
      closing.recorder.table = [⟨11391, []⟩] ++ ⟨11392, []⟩ :: [] ∧ 11392 ≤ 11394 ∧
      closing.recorder.queue.length + 1 ≤ 96 := by
  decide +kernel

theorem witness_CloseDaysIsDecidedAndTakenUp_work :
    (∃ o, RecorderWork.occasion o ∈ (closingDays closing).recorder.work) ∧
      ∀ o, RecorderWork.occasion o ∉ (closingDays (run .recording)).recorder.work :=
  ⟨⟨_, .head _⟩, fun _ h => nomatch h⟩

/-- A withdrawal, its intervals and days as they are. -/
def withdrawing (point : Option Nat) (sets : List AccSet) (table : List ProvDay) : State :=
  let s := working (tallied .opened) .inspection .withdraw
  { s with
    supply := { s.supply with mode := .withdrawn }
    recorder := { s.recorder with
      accSets := sets, table := table
      withdrawal := some { point := point, started := false, closed := 3 } } }

theorem witness_WithdrawalsEnd :
    let s := withdrawing (some 984587920) [] []
    s.running = true ∧ s.supply.mode ≠ .suspended ∧
      s.recorder.withdrawal = some { point := some 984587920, started := false, closed := 3 } ∧
      (run .suspended).supply.mode = .suspended ∧
      (withdrawing none [] []).recorder.withdrawal =
        some { point := none, started := false, closed := 3 } ∧
      s.recorder.handed = [] ∧ (∀ x ∈ s.norm.samples, x.mode ≠ .recording) ∧
      s.recorder.work = [] ∧ s.annotation = none ∧ (s.recorder.accSets.map AccSet.start).Nodup ∧
      s.recorder.table.Pairwise (fun a b => a.day < b.day) ∧
      s.recorder.queue.length + 3 ≤ 96 ∧ s.recorder.tally.length ≤ 2 ∧
      (s.port .inspection).op = some { cmd := .withdraw, waiting := false } ∧
      ((run .withdrawn).port .inspection).op = none := by decide +kernel

/-- The withdrawal whose interval is open on the day that it leaves provisional. -/
def withdrawingDay : State := withdrawing (some 984588000) [{ nineOClock with start := 984587400 }]
  [⟨11395, []⟩]

theorem witness_WithdrawalsEnd_day :
    withdrawingDay.recorder.accSets = [{ nineOClock with start := 984587400 }] ∧
      withdrawingDay.recorder.table = [⟨11395, []⟩] ∧ dayOf 984587400 = 11395 ∧
      (withdrawingDay.recorder.accSets.map AccSet.start).Nodup ∧
      withdrawingDay.recorder.tally.length = 2 ∧ withdrawingDay.committed = none ∧
      withdrawingDay.recorder.queue.length + (2 + 7 + 5) ≤ 96 := by decide +kernel

/-- It closes its interval and its day, and turns the year's slot FINAL. -/
theorem test_withdrawal_closes_all :
    ((after .withdrawalWork withdrawingDay).map fun t =>
      (t.recorder.queue.length, t.recorder.tally.map TallySlot.state, t.store.closedThrough,
        (t.port .inspection).last.map OpResult.counts)) =
      some (2 + 5 + 1 + 1 + 1, [.final, .unused], some 11395, some [4]) := by decide +kernel

/-! #### Time, acquisition and stacks -/

theorem witness_SetTimeIsDecided :
    let args (t : Nat) (ms : Nat) : List Byte := bytes4 t ++ bytes2 ms
    (run .recording).reaches .setTime .operator (args 984587920 0) = true ∧
      999 < u16 (args 0 1000) 4 ∧ u16 (args 0 999) 4 ≤ 999 ∧
      (run .suspended).supply.mode = .suspended ∧
      (run .suspended).reaches .setTime .inspection (args 984587920 0) = true ∧
      u32 (args 0 0) 0 < (oneRecord.recoveryFloor) ∧
      oneRecord.recoveryFloor ≤ u32 (args 984587900 0) 0 ∧
      (run .commissioning).passHeld.boundaryWaits = false ∧
      (holding (run .commissioning) .inspection .inService true).passHeld.boundaryWaits = true ∧
      (run .recording).passHeld.boundaryWaits = false ∧
      (heldAt 984587920 (run .recording)).sec.held = some .edge ∧
      (heldAt 984587920 (run .recording)).passHeld.boundaryWaits = false ∧
      (holding (run .recording) .operator .approve true).passHeld.boundaryWaits = true ∧
      (run .recording).offset 984587918 0 0 = -2000 ∧ (run .recording).offset 984587922 0 0 = 2000 ∧
      (run .recording).offset 984587922 1 0 = 2001 ∧ (run .recording).offset 984587917 999 0 < -2000 ∧
      (run .recording).openInterval (run .recording).time.counter =
        984587923 - 984587923 % 1800 ∧
      (run .withdrawn).supply.mode = .withdrawn ∧
      (run .recording).recorder.queue.length + 1 ≤ 96 := by decide +kernel

/-- A part in RECORDING whose interval is open, whose blocks have all worked on the second in progress. -/
def secondDone : State :=
  let s := run .recording
  let t := { s with recorder := { s.recorder with accSets := [.opened 984587400 plant false false] } }
  [Instr.selfCheckEnd 12000 11000, .samplingPoint [.allOff, ⟨true, true, true⟩, .allOff, .allOff],
    .normaliseSecond, .accumulateSecond].foldl (fun t i => (after i t).getD t) t

/-- R43: a second that a step skips leaves no trace in the sums, the stacks, the live values or the scan unit; its
record stays, and the TIME_STEP record follows it. -/
theorem test_step_skips_the_second_in_progress :
    let t := (after (.setTime .inspection (bytes4 984587930 ++ bytes2 0) 970) secondDone).getD .reset
    (secondDone.recorder.accSets.map fun a => a.accs.map Accumulator.secsRec) = [[1, 1, 1, 1, 1]] ∧
      secondDone.scan.faultyB = true ∧
      (secondDone.stackUnits.map StackUnit.runCounter) = [0, 1, 0, 0] ∧
      (t.recorder.accSets.map fun a => a.accs.map fun x => (x.secsRec, x.truncated)) =
        [[(0, true), (0, true), (0, true), (0, true), (0, true)]] ∧
      t.scan.faultyB = false ∧ (t.stackUnits.map StackUnit.runCounter) = [0, 0, 0, 0] ∧
      t.norm.liveChannels = List.replicate 32 none ∧ t.recorder.queue.length = 2 := by decide +kernel

/-- The self-check and the sampling point of a second whose boundary an approval's write holds are made when
that write ends. -/
theorem test_held_boundary_delays_the_second :
    let s := (after .internalSecondEdge
      (holding (staged .recording .opened) .inspection .approve true)).getD .reset
    let t := [Instr.selfCheckEnd 12000 12000, .samplingPoint (List.replicate 4 .allOff)].foldl
      (fun t i => (after i t).getD t) s
    s.sec.held = some .edge ∧ t.norm.samples = [] ∧ t.norm.stackSets = [] ∧
      t.sec.checkWaits.isSome = true ∧ t.sec.sampleWaits.isSome = true ∧
      ((after (.writeAttemptComplete .verified) t).map fun u =>
        (u.sec.held, u.norm.samples.map SampleSet.second, u.norm.stackSets.map StackSet.second)) =
        some (none, [984587921], [984587921]) := by decide +kernel

/-- A second in which stack 2 takes its signals from the plant link, its slot as it is. -/
def linked (slot : Option LinkSlot) : State :=
  { linkStack with
    sec := { linkStack.sec with cfg := linkStack.config.active }
    stackUnits := linkStack.stackUnits.set 2
      { StackUnit.initial 2031 with wasInUse := true, wasLink := true, slot := slot } }

/-- R51: a sampling point that waits uses the link signals of its own moment; a command accepted after it is kept for
the next second. -/
theorem test_held_sample_reads_its_own_slot :
    let s := holding (linked (some ⟨⟨true, true, false⟩, some 984587919⟩)) .inspection .approve true
    let t := [Instr.internalSecondEdge, .samplingPoint [],
      .setStackSignals .plant [2, 1, 0, 0]].foldl (fun t i => (after i t).getD t) s
    (t.linkSlots.drop 2).take 1 = [some ⟨⟨true, false, false⟩, some 984587921⟩] ∧
      ((after (.writeAttemptComplete .verified) t).map fun u => ((u.stackUnits.drop 2).take 1).map
        fun v => (v.raw, v.slot)) =
        some [(⟨true, true, false⟩, some ⟨⟨true, false, false⟩, some 984587921⟩)] := by
  decide +kernel

/-- A part whose WITHDRAW is being programmed as the last second before an interval boundary ends, its APPROVED
stage putting stack 2 on the plant link. -/
def withdrawingInto : State :=
  let s := holding (staged .recording .approved) .inspection .withdraw true
  { s with
    time := { s.time with counter := 984589199 }
    config := { s.config with stage := { s.config.stage with
      stackTab := [(2, { StackEntry.factory with inUse := true, source := .link })] } } }

/-- R15 and R50: a boundary that waits for a WITHDRAW transfers the stage all the same, so signals that come after it
are taken by the new tables, whether the write then verifies or fails. -/
theorem test_withdrawal_delays_no_transfer :
    let t := (after .internalSecondEdge withdrawingInto).getD .reset
    let u := (after (.setStackSignals .plant [2, 1, 1, 0]) t).getD .reset
    t.sec.held = some .edge ∧ t.config.transferPending = true ∧ t.config.stage.state = .empty ∧
      t.supply.mode = .recording ∧
      (u.linkSlots.drop 2).take 1 = [some ⟨⟨true, true, false⟩, some 984589200⟩] ∧
      ((after (.writeAttemptComplete .verified) u).map fun v =>
        (v.config.transferPending, (v.linkSlots.drop 2).take 1)) =
        some (true, [some ⟨⟨true, true, false⟩, some 984589200⟩]) := by decide +kernel

/-- R52: a stack taken to LINES and back to LINK with no second evaluated between has no previous LINK second. -/
theorem test_link_after_lines_starts_anew :
    let entry (source : SignalSource) : StackEntry := { stack1 with source := source }
    let u := (({ StackUnit.initial 2031 with wasInUse := true, wasLink := true } : StackUnit).changeOver
      (entry .link) (entry .lines)).changeOver (entry .lines) (entry .link)
    u.slot = some ⟨.allOff, none⟩ ∧ u.wasInUse = true ∧
      u.goesStale (entry .link) .allOff 984587920 = false := by decide +kernel

/-- R76: a set back in COMMISSIONING to the number of a second whose sets still wait leaves that second's sets, and the
buffer that shows it afterwards stays when the clock is set again. -/
theorem test_set_keeps_an_older_second :
    let s := { paired with supply := { paired.supply with mode := .commissioning } }
    let set (t : Nat) : Instr := .setTime .inspection (bytes4 t ++ bytes2 0) 0
    let t := [set 984587920, .replySent .inspection, .normaliseSecond, set 984587000].foldl
      (fun t i => (after i t).getD t) s
    t.time.counter = 984587000 ∧ t.norm.samples = [] ∧
      (t.norm.liveChannels.getD 3 none).map NormChannel.second = some 984587920 := by decide +kernel

/-- R85: the running averages stand as a skipped second found them, its interval closed or not, and are absent once a
withdrawal is complete (R79). -/
theorem test_skipped_second_gives_back_its_averages :
    let found (m : Mode) : State :=
      let s := run m
      { s with sec := { s.sec with before := { s.sec.before with live := some {
          channels := [], marks := [], running := [some 850] } } } }
    (found .recording).recorder.accSets = [] ∧
      (found .recording).skipSecond.recorder.running = [some 850] ∧
      (found .withdrawn).skipSecond.recorder.running = List.replicate 32 none := by decide +kernel

theorem witness_SetTimeIsDecided_floor :
    secondDone.sec.before.scan.isSome = true ∧ secondDone.sec.before.units.isSome = true ∧
      secondDone.sec.before.live.isSome = true ∧ secondDone.sec.before.sums.isSome = true ∧
      threeRecords.store.event.read .event threeRecords.store.event.ptr.newest =
        .record (.plain 984587900 .timeStep 984587000) ∧
      threeRecords.store.interval.read .interval threeRecords.store.interval.ptr.newest =
        .record aRecord ∧ threeRecords.recoveryFloor = 984587900 ∧
      State.reset.store.event.read .event State.reset.store.event.ptr.newest = .empty ∧
      State.reset.store.mark = false ∧ State.reset.recoveryFloor = 0 := by decide +kernel

theorem witness_SecondsAdvanceTheClock :
    4294967295 ≤ (4294967295 : Nat) ∧ State.reset.running = false ∧
      State.reset.time.counter < 4294967295 ∧ (run .suspended).supply.mode = .suspended ∧
      (run .recording).running = true ∧ (run .recording).supply.mode ≠ .suspended ∧
      ((run .recording).passHeld.time.counter + 1) % 1800 ≠ 0 ∧
      (run .recording).passHeld.boundaryWaits = false ∧
      (heldAt 984587920 (run .recording)).passHeld.boundaryWaits = false ∧
      (holding (staged .recording .opened) .inspection .approve true).passHeld.boundaryWaits = true ∧
      (run .recording).passHeld.config.changeOver = none ∧
      ({ (run .commissioning).config with changeOver := some .factory } : ConfigUnit).changeOver =
        some .factory := by decide +kernel

/-- A part in RECORDING whose interval is open, whose clock is about to leave it. -/
def leaving : State :=
  let s := run .recording
  { s with recorder := { s.recorder with accSets := [{ nineOClock with start := 984587400 }] } }

theorem witness_StepsLeaveTheirInterval :
    let args : List Byte := bytes4 984589200 ++ bytes2 0
    leaving.reaches .setTime .inspection args = true ∧ u32 args 0 = 984589200 ∧
      u16 args 4 = 0 ∧ leaving.passHeld.supply.mode = .recording ∧
      2000 < leaving.offset (u32 args 0) (u16 args 4) 999 ∧
      leaving.passHeld.boundaryWaits = false ∧
      (heldAt 984587920 leaving).passHeld.supply.mode = .recording ∧
      (heldAt 984587920 leaving).passHeld.boundaryWaits = false ∧ leaving.openInterval leaving.time.counter = 984587400 ∧
      984587400 ≠ 984589200 - 984589200 % 1800 ∧ leaving.config.stage.state ≠ .approved ∧
      (staged .recording .approved).config.stage.state = .approved ∧
      (staged .recording .approved).store.fault = false ∧
      leaving.recorder.accSets = [] ++ [{ nineOClock with start := 984587400 }] := by
  decide +kernel

/-- The recorder's work that such a step leaves, its second still on its way or gone. -/
def leftBehind (handed : List NormSet) : State :=
  { leaving with recorder := { leaving.recorder with
      handed := handed
      work := [.closeStepped 984587400, .record (.plain 984589200 .timeStep 984587920)] } }

theorem witness_StepsLeaveTheirInterval_work :
    (leftBehind []).running = true ∧
      (leftBehind []).recorder.work = .closeStepped 984587400 ::
        .record (.plain 984589200 .timeStep 984587920) :: [] ∧
      (∀ n ∈ (leftBehind []).recorder.handed, 984587400 < n.second - n.second % 1800) ∧
      (∀ x ∈ (leftBehind []).norm.samples, x.mode = .recording →
        984587400 < x.second - x.second % 1800) ∧
      (leftBehind []).recorder.accSets.find? (fun x => decide (x.start = 984587400)) =
        some { nineOClock with start := 984587400 } ∧
      (leftBehind []).recorder.queue.length + (2 + 1) ≤ 96 := by decide +kernel

theorem witness_StepsLeaveTheirInterval_waits :
    ∃ n ∈ (leftBehind [{ second := 984587919, channels := [], marks := [] }]).recorder.handed,
      n.second - n.second % 1800 ≤ 984587400 := ⟨_, .head _, by decide⟩

theorem witness_IntervalBoundariesOpenIntervals :
    (run .recording).supply.power = .running ∧
      (run .commissioning).supply.mode = .commissioning ∧
      (run .recording).config.stage.state ≠ .approved ∧ (run .recording).supply.mode = .recording ∧
      (run .enteringService).supply.mode = .enteringService ∧
      (run .withdrawn).supply.mode = .withdrawn ∧
      (staged .recording .approved).config.stage.state = .approved ∧
      (staged .recording .approved).store.fault = false ∧
      (staged .recording .approved).recorder.queue.length + 2 ≤ 96 ∧
      (heldAt 984528000 (run .recording)).time.counter % 86400 = 0 ∧
      (heldAt 984528000 (run .recording)).supply.recoveredTo ≠ some 984528000 ∧
      ((run .recording).supply.recoveredTo = none) ∧
      (run .recording).time.counter % 1800 ≠ 0 ∧ (run .recording).running = true ∧
      (run .recording).time.counter < 4294967295 ∧ (run .recording).sec.held = none ∧
      (run .recording).passHeld.boundaryWaits = false ∧
      (heldAt 984528000 (run .recording)).sec.held = some .edge ∧
      (heldAt 984528000 (run .recording)).passHeld.boundaryWaits = false ∧
      withdrawingInto.passHeld.boundaryWaits = true ∧
      (withdrawingInto.passHeld.time.counter + 1) % 1800 = 0 ∧
      withdrawingInto.passHeld.committed = some .withdraw ∧
      withdrawingInto.passHeld.supply.mode = .recording ∧
      (holding (run .recording) .operator .approve true).passHeld.boundaryWaits = true ∧
      (holding (run .recording) .operator .approve true).passHeld.committed ≠ some .withdraw ∧
      (run .recording).sec.checkWaits = none ∧ (run .recording).sec.sampleWaits = none ∧
      ((run .recording).deferCheck 12000 12000).sec.checkWaits =
        some {
          lock := true, readingA := 12000, readingB := 12000, latches := 0
          slots := List.replicate 32 none } ∧
      (run .recording).deferSample.sec.sampleWaits.isSome = true := by decide +kernel

theorem witness_IntervalBoundariesOpenIntervals_recovered :
    isFirstOfYear 11323 = true ∧ isFirstOfYear 11395 = false ∧
      ({ (run .recording).supply with recoveredTo := some 984528000 } : Supply).recoveredTo =
        some 984528000 := by decide +kernel

/-- A part in a power phase. -/
def phased (p : Power) : State :=
  let s := run .recording
  { s with supply := { s.supply with power := p } }

/-- A part that tracks its reference, with so many windows missed and a pulse taken for an edge. -/
def tracking (missed : Nat) (edge : Option Nat) : State :=
  let s := run .recording
  { s with time := { s.time with reference := .tracking, missed := missed, pulseEdge := edge } }

theorem witness_ReferencePulsesSetTheSlew :
    (run .recording).supply.power = .running ∧
      (phased .snapshotting).supply.power = .snapshotting ∧ (run .recording).time.phase ≤ 499 ∧
      499 < 500 ∧ (1010 : Int) ≤ 1000 - ({ (run .recording).time with slewStep := -10 } :
        TimeBase).slewStep ∧
      (run .recording).time.counter < 4294967295 ∧
      (tracking 0 (some 984587920)).time.pulseEdge = some 984587920 ∧
      (tracking 0 (some 984587920)).time.pulseEdge ≠ some 984587921 ∧ 500 ≤ 999 ∧
      (tracking 0 none).time.reference = .tracking ∧
      (run .recording).time.reference = .noReference ∧
      (run .recording).recorder.queue.length + 1 ≤ 96 ∧
      (tracking 1 none).time.missed ≤ 1 ∧ (tracking 2 none).time.missed = 2 ∧
      (tracking 2 none).time.pulseEdge ≠ some (tracking 2 none).time.counter ∧
      max (tracking 2 none).time.phase 500 ≤ 999 := by decide +kernel

theorem witness_ScanUnitFollowsItsEvents :
    (run .recording).running = true ∧ (run .recording).sec.processed = true ∧
      (run .recording).sec.sampleFormed = false ∧ (run .recording).sec.nextSlot ≤ 9 ∧
      (run .recording).time.phase ≤ 90 * (0 + 1) ∧ (run .recording).sec.lockHeld = true ∧
      (run .recording).sec.slotFloor ≤ 90 * 0 ∧ State.reset.sec.lockHeld = false ∧
      (run .recording).scan.accs[7]? = some .empty ∧
      (List.replicate 32 25000)[7]? = some 25000 ∧
      (plant.channel 3).inUse = true ∧ (plant.channel 3).source = .analog 7 ∧
      (∀ c < 32, (plant.channel c).inUse = true → (plant.channel c).source ≠ .analog 0) := by
  decide +kernel

theorem witness_ScanUnitFollowsItsEvents_events :
    (run .recording).running = true ∧ 15 ≤ 15 ∧ 16 ≤ 16 ∧
      ({ State.reset.scan with synth := .locked } : ScanUnit).synth = .locked ∧
      (run .recording).scan.synth ≠ .locked ∧ (run .recording).scan.synth = .acquiring ∧
      ({ State.reset.scan with synth := .locked } : ScanUnit).synth ≠ .acquiring ∧
      (run .recording).recorder.queue.length + 1 ≤ 96 := by decide +kernel

theorem witness_SelfCheckEndsTheScan :
    (run .recording).running = true ∧ (run .recording).sec.processed = true ∧
      (run .recording).sec.sampleFormed = false ∧ (run .recording).scan.accs[31]? = some .empty ∧
      (run .recording).scan.broken[31]? = some false ∧ (plant.channel 3).source = .analog 7 ∧
      (plant.channel 6).source = .link ∧ (run .recording).scan.broken.length = 32 ∧
      (run .recording).recorder.queue.length + 34 ≤ 96 ∧
      (run .recording).scan.slots.getD 6 none = none ∧
      latched (run .recording).scan.latches (plant.channel 6).maintLine = false ∧
      latched (0x0004 : BitVec 16) (plant.channel 3).maintLine = true ∧
      (run .recording).sec.held = none ∧ (heldAt 984528000 (run .recording)).sec.held ≠ none ∧
      (heldAt 984528000 (run .recording)).sec.sampleFormed = false := by decide +kernel

/-- A value submitted in second s counts in s, s + 1 and s + 2, and is STALE from s + 3 on (R32). -/
theorem test_submitted_value_goes_stale :
    let slot : ValueSlot := { value := 7, maintenance := false, arrival := 984587918 }
    let s := run .recording
    let at' (arrival : Nat) : Option (Option (Option Bool)) :=
      (after (.selfCheckEnd 12000 12000) { s with scan := { s.scan with
        slots := s.scan.slots.set 6 (some { slot with arrival := arrival }) } }).map fun t =>
          t.scan.linkStale.getD 6 none
    at' 984587918 = some (some false) ∧ at' 984587917 = some (some true) := by decide +kernel

theorem witness_SignalsAreDebounced :
    true = true ∧ true ≠ false ∧ 29 + 1 ≤ 30 ∧ 30 < 30 + 1 ∧ 30 ≤ 30 ∧ 31 > 30 ∧
      runOutStack.inUse = true ∧ (afterSignals 0).wasInUse = true := by decide +kernel

theorem witness_StacksAreSampled :
    (run .recording).running = true ∧ (run .recording).sec.processed = true ∧
      (run .recording).sec.sampled = false ∧ (run .recording).stackUnits.length = 4 ∧
      (List.replicate 4 Signals.allOff).length = 4 ∧
      (run .recording).stackUnits[3]? = some (.initial 2000) ∧
      (plant.stack 1).source = .lines ∧ (plant.stack 1).inUse = true ∧
      (plant.stack 3).inUse = false ∧
      ({ StackUnit.initial 2000 with wasInUse := true } : StackUnit).wasInUse = true ∧
      Signals.allOff.feed = false ∧ StackState.off ≠ .operating ∧ StackState.off ≠ .abnormal ∧
      (run .recording).sec.mode = .recording ∧ (run .withdrawn).sec.mode ≠ .recording ∧
      (run .recording).recorder.queue.length + 8 ≤ 96 ∧ (run .recording).sec.held = none ∧
      (heldAt 984528000 (run .recording)).sec.held ≠ none ∧
      (heldAt 984528000 (run .recording)).sec.sampled = false := by
  decide +kernel

theorem witness_StacksAreSampled_link :
    ((linked none).sec.cfg.stack 2).source = .link ∧ ((linked none).sec.cfg.stack 2).inUse = true ∧
      (linked none).stackUnits.length = 4 ∧
      ((linked none).stackUnits[2]?).bind StackUnit.slot = none ∧
      (((linked (some ⟨⟨true, true, false⟩, some 984587911⟩)).stackUnits[2]?).bind
        StackUnit.slot).isSome = true ∧
      984587911 + 9 ≤ 984587920 ∧ 984587910 + 9 < 984587920 := by decide +kernel

/-- Link signals that arrived in second s are STALE from s + 10 on, and an empty slot is (R51). -/
theorem test_link_signals_go_stale :
    let stale (slot : Option LinkSlot) : Option (List (StackState × Bool)) :=
      (after (.samplingPoint []) (linked slot)).map fun t =>
        (t.stackUnits.drop 2).take 1 |>.map fun u => (u.state, u.stale)
    stale (some ⟨⟨true, true, false⟩, some 984587911⟩) = some [(.operating, false)] ∧
      stale (some ⟨⟨true, true, false⟩, some 984587910⟩) = some [(.operating, true)] ∧
      stale none = some [(.off, true)] := by decide +kernel

/-! #### Supply loss and restart -/

theorem witness_SnapshotsBeginAndEnd :
    (run .recording).reaches .restart .inspection [] = true ∧ (phased .halt).supply.power = .halt ∧
      (phased .snapshotting).supply.power = .snapshotting ∧ SnapCause.pfail ≠ .restart ∧
      starting.supply.power = .starting ∧ (run .suspended).running = true ∧
      (run .suspended).supply.mode = .suspended ∧ (run .recording).running = true ∧
      (run .recording).supply.mode ≠ .suspended ∧ (run .recording).arbiter.grant = none ∧
      (run .recording).annotation = none ∧ (run .recording).config.transferPending = false ∧
      (faulty (run .recording)).store.fault = true ∧
      (run .recording).recorder.handed = [] ∧ (run .recording).recorder.work = [] ∧
      (run .recording).recorder.queue.length + 1 ≤ 96 := by decide +kernel

/-- A part whose snapshot finds a begun grant, seconds to accumulate and a transfer to write. -/
def busyPart : State :=
  let s := holding (staged .recording .opened) .operator (.stageDevice .factory) true
  { s with
    config := { s.config with transferPending := true }
    recorder := { s.recorder with
      handed := [aSet 984587919, aSet 984587920], accSets := [.opened 984587400 plant false false] } }

theorem witness_SnapshotsBeginAndEnd_busy :
    busyPart.running = true ∧ busyPart.supply.mode ≠ .suspended ∧
      busyPart.arbiter.grant = some (grantOf (.op .operator) true) ∧
      busyPart.config.transferPending = true ∧ busyPart.store.fault = false ∧
      (aSet 984587919).second % 1800 ≠ 1799 ∧
      ([] : List Attempt).headD .verified = .verified ∧
      [Attempt.failed, .failed].headD .verified ≠ .verified ∧
      (busyPart.finishGrant []).2.store.fault = false ∧
      (busyPart.finishGrant [.failed, .failed]).2.store.fault = true ∧
      (((busyPart.finishGrant []).2.finishRewrite.finishTransfer []).finishWork).recorder.queue.length +
        1 ≤ 96 ∧
      (annotated (.stored 1) (.verified aRecord aRecord)).annotation =
        some (anAnnotation (.verified aRecord aRecord)) := by decide +kernel

/-- An operation whose write the snapshot lets end has taken effect and is answered RESTART; one that its
failure has refused is answered REFUSED. -/
theorem test_snapshot_ends_operations :
    let last (attempts : List Attempt) := (after (.pfailActive attempts) busyPart).map fun t =>
      ((t.port .operator).last.map OpResult.outcome, t.config.stage.state, t.config.transferPending,
        t.recorder.accSets.map fun a => (a.accs.map Accumulator.secsRec).headD 9)
    last [] = some (some .restart, .opened, false, [2]) ∧
      last [.failed, .failed] = some (some .refused, .opened, true, [2]) := by decide +kernel

/-- The snapshot that PFAIL takes of a part. -/
def aSnapshot : Snapshot := (run .recording).capture .pfail [none, none, none]

/-- A part that writes that snapshot, and one that holds it. -/
def writing : State :=
  let s := phased .snapshotting
  { s with supply := { s.supply with taking := some aSnapshot } }

def kept (p : Power) : State :=
  let s := phased p
  { s with store := { s.store with mark := true, snapshot := some aSnapshot } }

theorem witness_SnapshotsBeginAndEnd_writing :
    writing.supply.power = .snapshotting ∧ writing.supply.taking = some aSnapshot ∧
      (phased .halt).supply.power = .halt ∧ (run .recording).supply.power ≠ .halt ∧
      (run .recording).supply.power ≠ .snapshotting ∧
      writing.recorder.queue.length + 1 ≤ 96 := by decide +kernel

theorem witness_RecoveryTakesUpItsState :
    (run .recording).supply.power ≠ .halt ∧ (kept .halt).supply.power = .halt ∧
      (kept .halt).store.mark = true ∧ (kept .halt).store.snapshot = some aSnapshot ∧
      State.reset.supply.power = .halt ∧ State.reset.store.mark = false ∧
      ({ kept .halt with supply := { (kept .halt).supply with backupLost := true } } :
        State).supply.backupLost = true ∧ (kept .halt).supply.backupLost = false ∧
      State.reset.store.area.mode = .commissioning := by decide +kernel

/-- A part whose snapshot is lost, with a record in its interval ring and so many days closed. -/
def ringLost (closed : Option Nat) : State :=
  let s := phased .halt
  { s with store := { threeRecords.store with
      area := { s.store.area with
        tables := plant, mode := .recording, protection := closed, interval := ⟨1, 1, 0⟩ } } }

theorem witness_RecoveryTakesUpItsState_rebuilt :
    (ringLost none).store.mark = false ∧ (ringLost none).store.area.mode ≠ .commissioning ∧
      (ringLost none).store.interval.read .interval 1 = .record aRecord ∧
      aRecord.start / 86400 = 11395 ∧
      ((after (.haltEnd true) (ringLost none)).map fun t => t.recorder.table.map fun d =>
        (d.day, d.entries.map fun e => (e.channel, e.recorded))) = some [(11395, [(3, 1)])] ∧
      ((after (.haltEnd true) (ringLost (some 11392))).map fun t =>
        t.recorder.table.map ProvDay.day) = some [11393, 11394, 11395] ∧
      ((after (.haltEnd true) (ringLost (some 11395))).map fun t => t.recorder.table) =
        some [] := by decide +kernel

/-- A recovery that has taken up the snapshot of an open interval. -/
def resuming : State :=
  let s := kept .starting
  { s with recorder := { s.recorder with
      accSets := [{ nineOClock with start := 984587400 }], table := [⟨11395, []⟩] } }

theorem witness_RecoveriesEnd :
    (run .recording).supply.power ≠ .starting ∧ resuming.supply.power = .starting ∧
      resuming.supply.resumed = false ∧ resuming.store.mark = true ∧
      resuming.store.snapshot = some aSnapshot ∧ resuming.supply.mode = .recording ∧
      resuming.time.clockValid = true ∧ resuming.recorder.work = [] ∧
      resuming.recorder.queue.length + 2 ≤ 96 ∧ resuming.config.stage.state ≠ .approved ∧
      resuming.recorder.accSets = [{ nineOClock with start := 984587400 }] ∧
      984587400 = intervalStart (resuming.time.counter + 1) ∧
      (⟨11395, []⟩ : ProvDay).day = dayOf aSnapshot.second ∧
      starting.store.mark = false ∧ starting.recorder.table = [] ∧
      starting.store.closedThrough = none ∧
      ({ starting with time := { starting.time with clockValid := false } } :
        State).time.clockValid = false ∧
      ({ starting.supply with resumed := true } : Supply).resumed = true ∧
      ({ starting with supply := { starting.supply with mode := .commissioning } } :
        State).supply.mode = .commissioning := by decide +kernel

/-- A recovery that has taken up a snapshot in a mode, at a later second. -/
def recovering (m : Mode) (t : Nat) (withdrawal : Option Withdrawal) : State :=
  { resuming with
    time := { resuming.time with counter := t }
    supply := { resuming.supply with mode := m }
    recorder := { resuming.recorder with withdrawal := withdrawal } }

theorem witness_RecoveriesRunWhatTheyMissed :
    let s := recovering .recording 984591000 none
    s.supply.power = .starting ∧ s.recorder.work = [] ∧ s.annotation = none ∧
      s.config.stage.state ≠ .approved ∧ s.supply.mode = .recording ∧
      s.time.clockValid = true ∧ s.store.mark = true ∧ s.store.snapshot = some aSnapshot ∧
      aSnapshot.second < 984591001 ∧ 86400 ≤ aSnapshot.second ∧ s.recorder.accSets ≠ [] ∧
      (∀ a ∈ s.recorder.accSets, a.start ≠ 984591001 - 984591001 % 1800 ∧
        a.start ≤ aSnapshot.second ∧ aSnapshot.second / 86400 ≤ a.start / 86400 + 1) ∧
      s.recorder.table.Pairwise (fun a b => a.day < b.day) ∧
      (∀ d ∈ s.recorder.table, d.day ≤ aSnapshot.second / 86400) ∧
      1 ≤ s.config.active.device.window ∧ 984587400 / 86400 = 11395 ∧
      aSnapshot.second / 86400 = 11395 ∧ 984591001 / 86400 = 11395 ∧
      s.recorder.queue.length + (2 + 1) ≤ 96 := by decide +kernel

theorem witness_RecoveriesRunWhatTheyMissed_modes :
    let w : Withdrawal := { point := some 984588000, started := false, closed := 3 }
    (recovering .enteringService 984591000 none).supply.mode = .enteringService ∧
      (aSnapshot.second / 1800 + 1) * 1800 ≤ 984591001 ∧
      (recovering .enteringService 984587950 none).time.counter + 1 <
        (aSnapshot.second / 1800 + 1) * 1800 ∧
      starting.store.mark = false ∧
      (recovering .withdrawn 984591000 none).recorder.withdrawal = none ∧
      (recovering .withdrawn 984591000 (some w)).recorder.withdrawal = some w ∧
      ((recovering .withdrawn 984591000 (some w)).recorder.accSets.map AccSet.start).Nodup ∧
      (recovering .withdrawn 984591000 (some w)).recorder.queue.length +
        ((recovering .withdrawn 984591000 (some w)).recorder.accSets.flatMap AccSet.accs).length ≤ 96 ∧
      starting.recorder.accSets = [] ∧ starting.recorder.table = [] ∧
      starting.recorder.tally.length = 2 ∧ starting.recorder.queue.length + 7 ≤ 96 ∧
      (recovering .commissioning 984587920 none).store.fault = false ∧
      (recovering .commissioning 984587920 none).opCmd .inspection = none := by decide +kernel

/-- R95, R160: a recovery in WITHDRAWN closes what it holds TRUNCATED and INTERRUPTED. -/
theorem test_recovery_of_a_withdrawal :
    ((after (.endOfRecovery true) (recovering .withdrawn 984591000
      (some { point := some 984588000, started := false, closed := 0 }))).map fun t =>
      t.recorder.queue.filterMap fun q => match q with
        | .interval r => some (r.channel, r.truncated, r.interrupted)
        | _ => none) = some [(3, true, true), (6, true, true)] := by decide +kernel

/-- A recovery into a later interval closes what it holds INTERRUPTED, and opens the present one TRUNCATED. -/
theorem test_recovery_into_a_later_interval :
    ((after (.endOfRecovery true) (recovering .recording 984591000 none)).map fun t =>
      (t.supply.mode, t.recorder.accSets.map AccSet.start, t.recorder.queue.map fun q =>
        match q with
        | .interval r => (r.channel, r.interrupted, r.truncated)
        | _ => (99, false, false))) =
      some (.recording, [984591000], [(3, true, false), (6, true, false), (99, false, false)]) := by
  decide +kernel

end Sys2Proof.Tests
end

section
/-! Rounding (R1): the lemmas that say once what `roundHalfUp` and `roundHalfAway` give, and O39. -/

namespace Sys2Proof.Machine

/-! ### Rounding half up -/

@[simp] theorem roundHalfUp_zero_left (b : Nat) : roundHalfUp 0 b = 0 := by
  cases b with
  | zero => rfl
  | succ b => exact Nat.div_eq_of_lt (by omega)

/-- The quotient is at most half a unit above `a / b`. -/
theorem two_mul_mul_roundHalfUp_le (a b : Nat) : 2 * b * roundHalfUp a b ≤ 2 * a + b :=
  Nat.mul_div_le (2 * a + b) (2 * b)

/-- The quotient is less than half a unit under `a / b`, so an exact half goes up. -/
theorem lt_two_mul_mul_roundHalfUp_succ (a : Nat) {b : Nat} (hb : 0 < b) :
    2 * a + b < 2 * b * (roundHalfUp a b + 1) :=
  Nat.lt_mul_div_succ (2 * a + b) (Nat.mul_pos Nat.two_pos hb)

/-! ### Rounding half away from zero -/

@[simp] theorem roundHalfAway_natCast (a b : Nat) :
    roundHalfAway (a : Int) b = (roundHalfUp a b : Nat) :=
  if_neg (Int.not_lt.mpr (Int.natCast_nonneg a))

/-- The sign is kept: a negative dividend takes the negative branch, and 0 has the quotient 0. -/
@[simp] theorem roundHalfAway_neg_natCast (a b : Nat) :
    roundHalfAway (-(a : Int)) b = -((roundHalfUp a b : Nat) : Int) := by
  cases a with
  | zero => simpa using roundHalfAway_natCast 0 b
  | succ a =>
    have hneg : -((a + 1 : Nat) : Int) < 0 := by omega
    rw [roundHalfAway, if_pos hneg, Int.natAbs_neg, Int.natAbs_natCast]

/-! ### The obligation -/

/-- Settles O39: the bounds of the two quotients, then the four quotients worked out in numbers. -/
theorem quotientsAreRounded : Obligations.QuotientsAreRounded := by
  refine ⟨fun a b hb => ?_, by decide, by decide, by decide, by decide⟩
  exact ⟨two_mul_mul_roundHalfUp_le a b, lt_two_mul_mul_roundHalfUp_succ a hb, rfl,
    roundHalfAway_natCast a b, roundHalfAway_neg_natCast a b,
    Nat.div_add_mod' a b, Nat.mod_lt a hb⟩

end Sys2Proof.Machine
end

section
/-! The part as it leaves the factory (R6), and O3. -/

namespace Sys2Proof.Machine

/-- An index past the end of a table of factory entries reads as a factory entry too. -/
theorem Tables.factory_channel (c : Nat) : Tables.factory.channel c = .factory := by
  rw [Tables.channel, Tables.factory, List.getD_eq_getElem?_getD,
    List.getElem?_getD_replicate_default_eq]

theorem Tables.factory_stack (k : Nat) : Tables.factory.stack k = .factory := by
  rw [Tables.stack, Tables.factory, List.getD_eq_getElem?_getD,
    List.getElem?_getD_replicate_default_eq]

/-- At reset every port is that of R163's column. -/
theorem State.reset_port (l : Link) : State.reset.port l = .initial := by cases l <;> rfl

/-- Settles O3: the reset values by evaluation, the tables entry by entry. -/
theorem resetIsThePartLeavingTheFactory : Obligations.ResetIsThePartLeavingTheFactory := by
  have hports (l : Link) : (State.reset.port l).recv = .idle ∧ (State.reset.port l).op = none ∧
      (State.reset.port l).last = none ∧ (State.reset.port l).readout = none := by
    rw [State.reset_port]
    exact ⟨rfl, rfl, rfl, rfl⟩
  exact ⟨⟨rfl, rfl, rfl, rfl, rfl, rfl, rfl, rfl, rfl, rfl, rfl, rfl, rfl, rfl, rfl, rfl, rfl, rfl,
    rfl, rfl, rfl, rfl, rfl, rfl, rfl, rfl, rfl, rfl, hports, rfl, rfl, rfl⟩,
    Tables.factory_channel, Tables.factory_stack, rfl, rfl, rfl, rfl⟩

end Sys2Proof.Machine
end

section
/-! Fields of byte strings read back (R181), the staged entries through their encoding (R183), and O11. -/

namespace Sys2Proof.Machine

/-! ### Reading fields -/

theorem u8_cons_zero (b : Byte) (bs : List Byte) : u8 (b :: bs) 0 = b.toNat := rfl

theorem u8_cons_succ (b : Byte) (bs : List Byte) (i : Nat) : u8 (b :: bs) (i + 1) = u8 bs i := rfl

/-- The bytes of a two-byte field join to its value. -/
theorem join_bytes (n : Nat) : n / 256 % 256 * 256 + n % 256 = n % 65536 := by omega

/-- The halves of a four-byte field join to its value. -/
theorem join_halves (n : Nat) : n / 65536 % 65536 * 65536 + n % 65536 = n % 4294967296 := by omega

/-- A signed field of four bytes gives its value back, within its range. -/
theorem toInt_signed4 {z : Int} (hlo : -2147483648 ≤ z) (hhi : z ≤ 2147483647) :
    (BitVec.ofNat 32 ((BitVec.ofInt 32 z).toNat % 4294967296)).toInt = z := by
  have hmod : (BitVec.ofInt 32 z).toNat % 4294967296 = (BitVec.ofInt 32 z).toNat :=
    Nat.mod_eq_of_lt (BitVec.ofInt 32 z).isLt
  rw [hmod, BitVec.ofNat_toNat, BitVec.setWidth_eq, BitVec.toInt_ofInt]
  exact Int.bmod_eq_of_le (by omega) (by omega)

/-! ### Codes -/

theorem byteOpt_eq (v : Option Nat) : byteOpt v = byte1 (v.getD 0xFF) := by cases v <;> rfl

theorem boolOfCode_code (b : Bool) : boolOfCode ((if b = true then 1 else 0) % 256) = some b := by
  cases b <;> rfl

theorem kindOfCode_code (k : Kind) : kindOfCode (kindCode k % 256) = some k := by
  cases k <;> decide

theorem signalSourceOfCode_code (s : SignalSource) :
    signalSourceOfCode (signalSourceCode s % 256) = some s := by cases s <;> rfl

theorem mainsOfCode_code (m : Mains) : mainsOfCode (mainsCode m % 256) = some m := by
  cases m <;> rfl

theorem arbiterModeOfCode_code (a : ArbiterMode) :
    arbiterModeOfCode (arbiterModeCode a % 256) = some a := by cases a <;> rfl

/-- A field in which 0 means absent gives its value back, where the value is not 0 and fits. -/
theorem zeroAbsent_zeroCode {lo hi m : Nat} {v : Option Nat} (h : absentOr lo hi v = true)
    (hlo : 1 ≤ lo) (hhi : hi < m) : zeroAbsent (zeroCode v % m) = v := by
  cases v with
  | none => simp [zeroCode, zeroAbsent]
  | some n =>
    simp only [absentOr, Bool.and_eq_true, decide_eq_true_eq] at h
    have hmod : n % m = n := Nat.mod_eq_of_lt (by omega)
    simp [zeroCode, zeroAbsent, hmod, show n ≠ 0 by omega]

/-- A field in which 0xFF means none gives its value back, up to its limit. -/
theorem noneByte_code {lo limit : Nat} {v : Option Nat} (h : absentOr lo limit v = true)
    (hlimit : limit < 255) : noneByte limit (v.getD 0xFF % 256) = some v := by
  cases v with
  | none => rfl
  | some n =>
    simp only [absentOr, Bool.and_eq_true, decide_eq_true_eq] at h
    have hmod : n % 256 = n := Nat.mod_eq_of_lt (by omega)
    simp [noneByte, hmod, h.2, show n ≠ 255 by omega]

/-! ### The source of a channel entry -/

/-- The code of a source (R181). -/
def sourceCode : Source → Nat
  | .analog _ => 0
  | .link => 1
  | .constant _ => 2

/-- The input-or-constant field of a source (R183). -/
def sourceField : Source → Nat
  | .analog i => i
  | .link => 0
  | .constant v => (BitVec.ofInt 32 v).toNat

theorem encodeSource_eq (s : Source) :
    encodeSource s = byte1 (sourceCode s) ++ bytes4 (sourceField s) := by
  cases s <;> rfl

/-- A source reads back from a code and a field that hold its own. -/
theorem sourceOfCode_code {e : ChannelEntry} (h : e.sourceFits = true) {bs : List Byte}
    (hcode : u8 bs 4 = sourceCode e.source % 256)
    (hfield : u32 bs 5 = sourceField e.source % 4294967296) :
    sourceOfCode bs = some e.source := by
  unfold sourceOfCode
  rw [hcode, s32, hfield]
  cases hs : e.source with
  | analog i =>
    simp only [ChannelEntry.sourceFits, hs, Bool.and_eq_true, decide_eq_true_eq] at h
    simp only [sourceCode, sourceField, Option.some.injEq, Source.analog.injEq]
    omega
  | link => rfl
  | constant v =>
    simp only [ChannelEntry.sourceFits, hs, Bool.and_eq_true, decide_eq_true_eq] at h
    simp only [sourceCode, sourceField, Option.some.injEq, Source.constant.injEq]
    exact toInt_signed4 h.1.2 h.2

/-- The offset of an admissible entry fits its signed field. -/
theorem ChannelEntry.offset_fits {e : ChannelEntry} (h : e.sourceFits = true)
    (hr : absentOr 1 1000000 e.range = true) :
    -2147483648 ≤ e.offset ∧ e.offset ≤ 2147483647 := by
  unfold ChannelEntry.sourceFits at h
  cases hs : e.source with
  | analog i =>
    cases hrange : e.range with
    | none => simp [hs, hrange] at h
    | some r =>
      simp only [hs, hrange, absentOr, Bool.and_eq_true, decide_eq_true_eq] at h hr
      omega
  | link =>
    simp only [hs, Bool.and_eq_true, decide_eq_true_eq] at h
    omega
  | constant v =>
    simp only [hs, Bool.and_eq_true, decide_eq_true_eq] at h
    omega

/-! ### Layout of the staged entries -/

theorem encodeChannelEntry_length (i : Nat) (e : ChannelEntry) :
    (encodeChannelEntry i e).length = 37 := by
  simp [encodeChannelEntry, byte1, bytes2, bytes4, bytesSigned4, byteBool, byteOpt_eq,
    encodeSource_eq]

theorem encodeStackEntry_length (k : Nat) (e : StackEntry) :
    (encodeStackEntry k e).length = 19 := by
  simp [encodeStackEntry, byte1, bytes2, bytes4, byteBool, byteOpt_eq]

/-- A channel entry that passes the checks at receipt decodes from its bytes, field by field. -/
theorem decodeChannelEntry_encode {i : Nat} {e : ChannelEntry} (hi : i ≤ 31)
    (h : e.admissible = true) : decodeChannelEntry (encodeChannelEntry i e) = some (i, e) := by
  simp only [ChannelEntry.admissible, Bool.and_eq_true, decide_eq_true_eq, and_assoc] at h
  obtain ⟨hstack, hrange, _, hslope, hceiling, ho2, hci, hinterval, hday, hmaint, hfault, hsource,
    _⟩ := h
  obtain ⟨hlo, hhi⟩ := ChannelEntry.offset_fits hsource hrange
  have hread := sourceOfCode_code (bs := encodeChannelEntry i e) hsource
    (by simp [encodeChannelEntry, byte1, byteBool, encodeSource_eq, u8_cons_succ, u8_cons_zero])
    (by simp [encodeChannelEntry, byte1, bytes2, bytes4, byteBool, encodeSource_eq, u32, u16,
          u8_cons_succ, u8_cons_zero, join_bytes, join_halves])
  unfold decodeChannelEntry
  rw [hread]
  unfold maxCode at hceiling hinterval hday
  simp (disch := omega) [-BitVec.toNat_ofInt, encodeChannelEntry, byte1, bytes2, bytes4,
    bytesSigned4, byteBool, byteOpt_eq, encodeSource_eq, s32, u32, u16, u8_cons_zero,
    u8_cons_succ, join_bytes, join_halves, boolOfCode_code, kindOfCode_code,
    zeroAbsent_zeroCode hrange, zeroAbsent_zeroCode ho2, zeroAbsent_zeroCode hinterval,
    zeroAbsent_zeroCode hday, noneByte_code hmaint, noneByte_code hfault, toInt_signed4 hlo hhi,
    Nat.mod_eq_of_lt (show i < 256 by omega), Nat.mod_eq_of_lt (show e.stack < 256 by omega),
    Nat.mod_eq_of_lt (show e.ciPercent < 256 by omega),
    Nat.mod_eq_of_lt (show e.slope < 65536 by omega),
    Nat.mod_eq_of_lt (show e.ceiling < 4294967296 by omega)]

theorem decodeStackEntry_encode {k : Nat} {e : StackEntry} (hk : k ≤ 3)
    (h : e.admissible = true) : decodeStackEntry (encodeStackEntry k e) = some (k, e) := by
  simp only [StackEntry.admissible, Bool.and_eq_true, decide_eq_true_eq, and_assoc] at h
  obtain ⟨hdebounce, hrunOut, ho2, hh2o, hflow, _, hcap, _, hrun, _, hyear⟩ := h
  simp (disch := omega) [decodeStackEntry, encodeStackEntry, byte1, bytes2, bytes4, byteBool,
    byteOpt_eq, u32, u16, u8_cons_zero, u8_cons_succ, join_bytes, join_halves, boolOfCode_code,
    signalSourceOfCode_code, noneByte_code ho2, noneByte_code hh2o, noneByte_code hflow,
    Nat.mod_eq_of_lt (show k < 256 by omega), Nat.mod_eq_of_lt (show e.debounce < 256 by omega),
    Nat.mod_eq_of_lt (show e.runOut < 65536 by omega),
    Nat.mod_eq_of_lt (show e.o2Cap < 65536 by omega),
    Nat.mod_eq_of_lt (show e.runLimit < 4294967296 by omega),
    Nat.mod_eq_of_lt (show e.yearLimit < 4294967296 by omega)]

theorem decodeDevice_encode {d : DeviceSettings} (h : d.admissible = true) :
    decodeDevice (encodeDevice d) = some d := by
  simp only [DeviceSettings.admissible, Bool.and_eq_true, decide_eq_true_eq, and_assoc] at h
  obtain ⟨_, hwindow, hinvalid⟩ := h
  simp (disch := omega) [decodeDevice, encodeDevice, byte1, u8_cons_zero, u8_cons_succ,
    mainsOfCode_code, arbiterModeOfCode_code, Nat.mod_eq_of_lt]

/-- Settles O11: each entry decodes from its bytes, and then passes the checks it passed before. -/
theorem configurationEntriesRoundTrip : Obligations.ConfigurationEntriesRoundTrip := by
  refine ⟨fun i e hi h => ⟨encodeChannelEntry_length i e, ?_⟩,
    fun k e hk h => ⟨encodeStackEntry_length k e, ?_⟩, fun d h => ⟨rfl, ?_⟩⟩
  · simp [readStageChannel, decodeChannelEntry_encode hi h, hi, h]
  · simp [readStageStack, decodeStackEntry_encode hk h, hk, h]
  · simp [readStageDevice, decodeDevice_encode h, h]

end Sys2Proof.Machine
end

section
/-! The checks of an approval (R12) as searches for a lowest index, and O24. -/

namespace Sys2Proof.Machine

/-! ### Searches for the lowest index -/

/-- A search over the first indices finds one exactly when it is the lowest that has the property. -/
theorem find?_range_eq_some_iff {p : Nat → Prop} {q : Nat → Bool} {n : Nat}
    (h : ∀ c, c < n → (q c = true ↔ p c)) (i : Nat) :
    (List.range n).find? q = some i ↔ i < n ∧ p i ∧ ∀ j, j < i → ¬ p j := by
  rw [List.find?_range_eq_some, List.mem_range]
  constructor
  · rintro ⟨hq, hi, hlow⟩
    refine ⟨hi, (h i hi).1 hq, fun j hj hp => ?_⟩
    simpa [(h j (by omega)).2 hp] using hlow j hj
  · rintro ⟨hi, hp, hlow⟩
    refine ⟨(h i hi).2 hp, hi, fun j hj => ?_⟩
    simpa using mt (h j (by omega)).1 (hlow j hj)

/-- A search over the first indices finds nothing exactly when none has the property. -/
theorem find?_range_eq_none_iff {p : Nat → Prop} {q : Nat → Bool} {n : Nat}
    (h : ∀ c, c < n → (q c = true ↔ p c)) :
    (List.range n).find? q = none ↔ ∀ c, c < n → ¬ p c := by
  simp only [List.find?_eq_none, List.mem_range]
  exact forall₂_congr fun c hc => not_congr (h c hc)

/-! ### The five checks -/

theorem Tables.missing_iff (t : Tables) (r : Option Nat) :
    t.missing r = true ↔ ∀ o, r = some o → (t.channel o).inUse = false := by
  cases r with
  | none => simp [Tables.missing]
  | some c => simp [Tables.missing]

theorem Tables.misplaced_iff (t : Tables) (k : Nat) (kind : Kind) (r : Option Nat) :
    t.misplaced k kind r = true ↔
      ∃ c, r = some c ∧ ((t.channel c).kind ≠ kind ∨ (t.channel c).stack ≠ k) := by
  cases r with
  | none => simp [Tables.misplaced]
  | some c => simp [Tables.misplaced]

/-- Row 1 of R12: the input of a channel is named by an in-use channel of lower index. -/
theorem Tables.conflicts_iff (t : Tables) {c : Nat} (hc : c < 32) :
    t.conflicts c = true ↔ ∃ i d, (t.channel c).source = .analog i ∧ d < c ∧
      (t.channel d).inUse = true ∧ (t.channel d).source = .analog i := by
  unfold Tables.conflicts
  cases hs : (t.channel c).source with
  | analog input =>
    simp only [List.any_eq_true, Tables.inUse, List.mem_filter, List.mem_range, Bool.and_eq_true,
      decide_eq_true_eq, Source.analog.injEq]
    constructor
    · rintro ⟨d, ⟨_, hd⟩, hlt, hsd⟩
      exact ⟨input, d, rfl, hlt, hd, hsd⟩
    · rintro ⟨_, d, rfl, hlt, hd, hsd⟩
      exact ⟨d, ⟨by omega, hd⟩, hlt, hsd⟩
  | link => simp
  | constant v => simp

theorem Tables.lacksO2_iff (t : Tables) (c : Nat) :
    t.lacksO2 c = true ↔ (t.channel c).kind.peripheral = false ∧
      (t.channel c).o2Ref.isSome = true ∧
      ∀ o, (t.stack (t.channel c).stack).o2Chan = some o → (t.channel o).inUse = false := by
  simp only [Tables.lacksO2, Bool.and_eq_true, Bool.not_eq_true', Tables.missing_iff, and_assoc]

theorem Tables.lacksH2o_iff (t : Tables) (c : Nat) :
    t.lacksH2o c = true ↔ (t.channel c).kind.peripheral = false ∧ (t.channel c).wet = true ∧
      ∀ h, (t.stack (t.channel c).stack).h2oChan = some h → (t.channel h).inUse = false := by
  simp only [Tables.lacksH2o, Bool.and_eq_true, Bool.not_eq_true', Tables.missing_iff, and_assoc]

theorem Tables.misreferred_iff (t : Tables) (k : Nat) :
    t.misreferred k = true ↔ ∃ r,
      ((t.stack k).o2Chan = some r ∧ ((t.channel r).kind ≠ .o2 ∨ (t.channel r).stack ≠ k)) ∨
      ((t.stack k).h2oChan = some r ∧ ((t.channel r).kind ≠ .h2o ∨ (t.channel r).stack ≠ k)) ∨
      ((t.stack k).flowChan = some r ∧ ((t.channel r).kind ≠ .flow ∨ (t.channel r).stack ≠ k)) := by
  simp only [Tables.misreferred, Bool.or_eq_true, Tables.misplaced_iff, exists_or, or_assoc]

/-- A search over the channels in use is one over all channels. -/
theorem Tables.inUse_find? (t : Tables) (q : Nat → Bool) :
    t.inUse.find? q = (List.range 32).find? fun c => (t.channel c).inUse && q c := by
  simp only [Tables.inUse, List.find?_filter, Bool.decide_and, Bool.decide_eq_true]

/-- The first of five searches that finds an index gives the failure. -/
def firstFailure (clash home o2 h2o misfit : Option Nat) : Option (Reason × Nat) :=
  match clash, home, o2, h2o, misfit with
  | some c, _, _, _, _ => some (.inputConflict, c)
  | none, some c, _, _, _ => some (.stackNotInUse, c)
  | none, none, some c, _, _ => some (.referenceMissing, c)
  | none, none, none, some c, _ => some (.referenceMissing, c)
  | none, none, none, none, some k => some (.referenceMissing, k)
  | none, none, none, none, none => none

theorem approvalFailure_eq (t : Tables) :
    approvalFailure t = firstFailure
      ((List.range 32).find? fun c => (t.channel c).inUse && t.conflicts c)
      ((List.range 32).find? fun c =>
        (t.channel c).inUse && !(t.stack (t.channel c).stack).inUse)
      ((List.range 32).find? fun c => (t.channel c).inUse && t.lacksO2 c)
      ((List.range 32).find? fun c => (t.channel c).inUse && t.lacksH2o c)
      ((List.range 4).find? fun k => (t.stack k).inUse && t.misreferred k) := by
  unfold approvalFailure
  simp only [Tables.inUse_find?]
  split
  · simp only [firstFailure, *]
  split
  · simp only [firstFailure, *]
  split
  · simp only [firstFailure, *]
  split
  · simp only [firstFailure, *]
  split <;> simp only [firstFailure, *]

theorem firstFailure_eq_none_iff (a b c d e : Option Nat) :
    firstFailure a b c d e = none ↔ (a = none ∧ b = none ∧ c = none ∧ d = none) ∧ e = none := by
  unfold firstFailure
  split <;> simp

theorem firstFailure_eq_some_iff (a b c d e : Option Nat) (reason : Reason) (i : Nat) :
    firstFailure a b c d e = some (reason, i) ↔
      (reason = .inputConflict ∧ a = some i) ∨ (a = none ∧
        ((reason = .stackNotInUse ∧ b = some i) ∨ (b = none ∧ reason = .referenceMissing ∧
          (c = some i ∨ (c = none ∧ (d = some i ∨ (d = none ∧ e = some i))))))) := by
  cases a with
  | some a => simp [firstFailure, eq_comm]
  | none =>
  cases b with
  | some b => simp [firstFailure, eq_comm]
  | none =>
  cases c with
  | some c => simp [firstFailure, eq_comm]
  | none =>
  cases d with
  | some d => simp [firstFailure, eq_comm]
  | none => cases e <;> simp [firstFailure, eq_comm]

/-! ### The obligation -/

/-- Settles O24: each check is a search for a lowest index, and the searches are tried in order. -/
theorem approvalChecksAreThose : Obligations.ApprovalChecksAreThose := by
  intro t clash homeless lacksO2 lacksH2o misfit lowest hclash hhome hO2 hH2o hmisfit hlowest
  have eclash : ∀ c, c < 32 → (((t.channel c).inUse && t.conflicts c) = true ↔ clash c) :=
    fun c hc => by rw [Bool.and_eq_true, t.conflicts_iff hc, hclash]
  have ehome : ∀ c, c < 32 →
      (((t.channel c).inUse && !(t.stack (t.channel c).stack).inUse) = true ↔ homeless c) :=
    fun c _ => by rw [Bool.and_eq_true, Bool.not_eq_true', hhome]
  have eO2 : ∀ c, c < 32 → (((t.channel c).inUse && t.lacksO2 c) = true ↔ lacksO2 c) :=
    fun c _ => by rw [Bool.and_eq_true, t.lacksO2_iff, hO2]
  have eH2o : ∀ c, c < 32 → (((t.channel c).inUse && t.lacksH2o c) = true ↔ lacksH2o c) :=
    fun c _ => by rw [Bool.and_eq_true, t.lacksH2o_iff, hH2o]
  have emisfit : ∀ k, k < 4 → (((t.stack k).inUse && t.misreferred k) = true ↔ misfit k) :=
    fun k _ => by rw [Bool.and_eq_true, t.misreferred_iff, hmisfit]
  simp only [hlowest, forall_and, ← find?_range_eq_some_iff eclash,
    ← find?_range_eq_some_iff ehome, ← find?_range_eq_some_iff eO2,
    ← find?_range_eq_some_iff eH2o, ← find?_range_eq_some_iff emisfit,
    ← find?_range_eq_none_iff eclash, ← find?_range_eq_none_iff ehome,
    ← find?_range_eq_none_iff eO2, ← find?_range_eq_none_iff eH2o,
    ← find?_range_eq_none_iff emisfit, approvalFailure_eq]
  exact ⟨firstFailure_eq_none_iff _ _ _ _ _, firstFailure_eq_some_iff _ _ _ _ _⟩

end Sys2Proof.Machine
end

section
/-! The arbiter's choice (R144, R145), and O27. -/

namespace Sys2Proof.Machine

section Choice

variable {s : State}

/-! ### What an idle arbiter does -/

/-- An idle arbiter of a running part grants the claim it chooses. -/
theorem State.settle_of_choose (hrun : s.running = true) (hidle : s.arbiter.grant = none)
    {c : Claim} {owner : Option Link} (h : s.chooseClaim = some (c, owner)) :
    s.settle = s.makeGrant c owner := by
  rw [State.settle, if_pos ⟨hrun, hidle⟩, h]

/-- An arbiter with nothing to choose grants nothing. -/
theorem State.settle_of_choose_none (h : s.chooseClaim = none) : s.settle = s := by
  rw [State.settle, h]
  exact ite_self s

/-- The recorder's claim comes before any link's. -/
theorem State.chooseClaim_of_recorder {c : Claim} (h : s.recorderClaim = some c) :
    s.chooseClaim = some (c, none) := by
  rw [State.chooseClaim, h]

/-- In FAULT, in SUSPENDED, and with nothing to write, the recorder claims nothing. -/
theorem State.recorderClaim_of_silent (h : s.store.fault = true ∨ s.supply.mode = .suspended ∨
    (s.arbiter.recClaims = [] ∧ s.recorder.queue = [])) : s.recorderClaim = none := by
  unfold State.recorderClaim
  rcases h with h | h | ⟨hclaims, hqueue⟩
  · simp [h]
  · simp [h]
  · simp [hclaims, hqueue]

/-- In a READY store and outside SUSPENDED the oldest of the recorder's claims is served. -/
theorem State.recorderClaim_of_transfer (hready : s.store.fault = false)
    (hmode : s.supply.mode ≠ .suspended) {rest : List RecClaim}
    (h : s.arbiter.recClaims = .transfer :: rest) : s.recorderClaim = some .transfer := by
  rw [State.recorderClaim, if_neg (by simp [hready, hmode]), h]

theorem State.recorderClaim_of_protection (hready : s.store.fault = false)
    (hmode : s.supply.mode ≠ .suspended) {rest : List RecClaim}
    (h : s.arbiter.recClaims = .protection :: rest) : s.recorderClaim = some .protection := by
  rw [State.recorderClaim, if_neg (by simp [hready, hmode]), h]

theorem State.recorderClaim_of_queue (hready : s.store.fault = false)
    (hmode : s.supply.mode ≠ .suspended) (h : s.arbiter.recClaims = [])
    (hqueue : s.recorder.queue ≠ []) : s.recorderClaim = some .queue := by
  rw [State.recorderClaim, if_neg (by simp [hready, hmode]), h]
  exact if_neg hqueue

/-- Without a claim of the recorder's, and with none of the links', there is nothing to choose. -/
theorem State.chooseClaim_of_none (h : s.recorderClaim = none)
    (ha : s.links.operator.claim .operator = none)
    (hb : s.links.inspection.claim .inspection = none) : s.chooseClaim = none := by
  rw [State.chooseClaim, h, ha, hb]

/-- Without a claim of the recorder's, a link whose claim alone waits has its turn. -/
theorem State.chooseClaim_of_operator {c : Claim} (h : s.recorderClaim = none)
    (ha : s.links.operator.claim .operator = some c)
    (hb : s.links.inspection.claim .inspection = none) :
    s.chooseClaim = some (c, some .operator) := by
  rw [State.chooseClaim, h, ha, hb]

theorem State.chooseClaim_of_inspection {c : Claim} (h : s.recorderClaim = none)
    (ha : s.links.operator.claim .operator = none)
    (hb : s.links.inspection.claim .inspection = some c) :
    s.chooseClaim = some (c, some .inspection) := by
  rw [State.chooseClaim, h, ha, hb]

/-- Of two links whose claims wait the preferred one has its turn. -/
theorem State.chooseClaim_of_both {c d : Claim} (h : s.recorderClaim = none)
    (ha : s.links.operator.claim .operator = some c)
    (hb : s.links.inspection.claim .inspection = some d) :
    s.chooseClaim = if s.preferredLink = .operator then some (c, some .operator)
      else some (d, some .inspection) := by
  rw [State.chooseClaim, h, ha, hb]

theorem State.preferredLink_inspection
    (h : s.inForce.device.arbiterMode = .operatorLast ∨
      (s.inForce.device.arbiterMode = .rotate ∧ s.arbiter.rotation = .operator)) :
    s.preferredLink = .inspection := by
  unfold State.preferredLink
  rcases h with h | ⟨h, hrotation⟩
  · rw [h]
  · rw [h, if_pos hrotation]

theorem State.preferredLink_operator
    (h : s.inForce.device.arbiterMode = .inspectionLast ∨
      (s.inForce.device.arbiterMode = .rotate ∧ s.arbiter.rotation ≠ .operator)) :
    s.preferredLink = .operator := by
  unfold State.preferredLink
  rcases h with h | ⟨h, hrotation⟩
  · rw [h]
  · rw [h, if_neg hrotation]

end Choice

/-! ### What a grant leaves -/

/-- A grant takes its claim, sets the rotation pointer, and leaves the rest of the part. -/
theorem State.makeGrant_leaves (s : State) (c : Claim) (o : Option Link) :
    (s.makeGrant c o).arbiter.rotation = o.getD s.arbiter.rotation ∧
      (s.makeGrant c o).arbiter.grant = some {
        claim := c, begun := false, failedOnce := false, part := 0
        second := s.time.counter, stale := false } ∧
      s.sameCore (s.makeGrant c o) ∧ (s.makeGrant c o).recorder = s.recorder ∧
      (s.makeGrant c o).store = s.store ∧ (s.makeGrant c o).config = s.config ∧
      (s.makeGrant c o).attention = s.attention := by
  cases c <;> exact ⟨rfl, rfl, ⟨rfl, rfl, rfl, rfl, rfl, rfl, rfl, rfl, rfl⟩, rfl, rfl, rfl, rfl⟩

/-- Settles O27: the choice is the recorder's claim where there is one, and else that of the links. -/
theorem arbiterGrantsInOrder : Obligations.ArbiterGrantsInOrder := by
  rintro s a b hrun hidle rfl rfl
  have hgrant {c : Claim} {o : Option Link} (h : s.chooseClaim = some (c, o)) :
      s.settle = s.makeGrant c o := State.settle_of_choose hrun hidle h
  refine ⟨⟨fun hr ha hb => ?_, fun hready hmode => ?_, fun hsilent => ?_⟩, s.makeGrant_leaves⟩
  · exact State.settle_of_choose_none (State.chooseClaim_of_none hr ha hb)
  · exact ⟨fun rest h => hgrant (State.chooseClaim_of_recorder
        (State.recorderClaim_of_transfer hready hmode h)),
      fun rest h => hgrant (State.chooseClaim_of_recorder
        (State.recorderClaim_of_protection hready hmode h)),
      fun h hqueue => hgrant (State.chooseClaim_of_recorder
        (State.recorderClaim_of_queue hready hmode h hqueue))⟩
  · have hr := State.recorderClaim_of_silent hsilent
    refine ⟨fun c ha hb => hgrant (State.chooseClaim_of_operator hr ha hb),
      fun c ha hb => hgrant (State.chooseClaim_of_inspection hr ha hb),
      fun c d ha hb => ⟨fun hmode => hgrant ?_, fun hmode => hgrant ?_⟩⟩
    · rw [State.chooseClaim_of_both hr ha hb, State.preferredLink_inspection hmode]
      rfl
    · rw [State.chooseClaim_of_both hr ha hb, State.preferredLink_operator hmode]
      rfl

end Sys2Proof.Machine
end

section
/-! Requests answered at once (R18, R47, R171, R177, R178), and O19. -/

namespace Sys2Proof.Machine

/-! ### Answers -/

/-- The notice that an accepted command carries where it clears marks (R117). -/
theorem State.notice_eq (s : State) (l : Link) :
    (if s.clearsMarks l then bitSequence else 0) = noticeByte l s.links.marks := by
  simp only [State.clearsMarks, noticeByte, Bool.and_eq_true, decide_eq_true_eq]
  rfl

/-- The reply to an accepted command in every phase of the part, STARTING among them. -/
theorem State.answer_accept_bits (s t : State) (l : Link) (d : Option (List Byte)) :
    s.answer l (s.accept l t d) =
      t.withReply l ((t.port l).replying (s.replyBits (noticeByte l s.links.marks)) d) := by
  rw [State.answer_accept, State.notice_eq]
  cases l <;> rfl

/-- LINK STATUS without arguments reaches its own rule wherever its port takes it. -/
theorem State.linkStatus_reaches {s : State} {l : Link} (h : s.listens l) :
    s.reaches .linkStatus l [] = true := by
  obtain ⟨hrespond, hreplying, hstreaming⟩ := h
  exact (s.reaches_iff _ l []).2 ⟨hrespond, hreplying, hstreaming, by
    simp [State.screen, permitted, argumentLength]⟩

section Reached

variable {s t : State} {l : Link} {c : Command} {args : List Byte} {rule : State → Ruling}

/-- An accepted command that leaves the part as it is. -/
theorem State.serve_accepted (hc : c ≠ .linkStatus) (h : s.reaches c l args = true)
    {d : Option (List Byte)} (hrule : rule s = s.accept l t d) :
    s.serve c l args rule =
      t.withReply l ((t.port l).replying (noticeByte l s.links.marks) d) := by
  rw [State.serve_of_reaches h, hrule, State.answer_accept_eq l (State.reaches_power hc h)]

theorem State.serve_argument (hc : c ≠ .linkStatus) (h : s.reaches c l args = true)
    (hrule : rule s = .argument) : s.serve c l args rule = s.refusedWith l 0x20 := by
  rw [State.serve_of_reaches h, hrule]
  exact State.refuse_eq l _ (State.reaches_power hc h)

theorem State.serve_sequence (hc : c ≠ .linkStatus) (h : s.reaches c l args = true)
    (hrule : rule s = .sequence) : s.serve c l args rule = s.refusedWith l 0x40 := by
  rw [State.serve_of_reaches h, hrule]
  exact State.refuse_eq l _ (State.reaches_power hc h)

end Reached

/-- Settles O19: each request's own rule accepts it with its block, or refuses it with ARGUMENT. -/
theorem readRequestsAreAnswered : Obligations.ReadRequestsAreAnswered := by
  refine ⟨fun s l h => ?_, fun s l args => ⟨fun phase h => ?_, fun h => ?_, fun h h0 => ?_,
    fun h h1 => ?_, fun h h2 => ?_, fun slot h hslot hc => ?_, fun slot h hslot hc => ?_,
    fun h hbad => ?_⟩⟩
  · show Host.Outcome.next _ = _
    rw [State.serve_of_reaches (State.linkStatus_reaches h), State.answer_accept_bits]
  · exact congrArg _ (State.serve_accepted (by decide) h rfl)
  · exact congrArg _ (State.serve_accepted (by decide) h rfl)
  · exact congrArg _ (State.serve_accepted (by decide) h (by simp only [h0]))
  · exact congrArg _ (State.serve_accepted (by decide) h (by simp only [h1]))
  · refine congrArg _ (State.serve_argument (by decide) h ?_)
    split
    · omega
    · omega
    · rfl
  · exact congrArg _ (State.serve_accepted (by decide) h
      (by simp only [hslot, if_pos hc, if_neg (show u8 args 2 ≠ 0xFF by omega)]))
  · exact congrArg _ (State.serve_accepted (by decide) h (by simp only [hslot, if_pos hc]))
  · refine congrArg _ (State.serve_argument (by decide) h ?_)
    cases hslot : findSlot s.recorder.tally (u16 args 0) with
    | none => rfl
    | some slot =>
      rcases hbad with hbad | ⟨hlow, hdevice⟩
      · simp [hslot] at hbad
      · simp only [if_neg hdevice, if_neg (Nat.not_le.mpr hlow)]

end Sys2Proof.Machine
end

section
/-! Busy requests at their receipt (R7 to R12, R131, R147, R152, R154, R156), and O21 and O22. -/

namespace Sys2Proof.Machine

/-! ### The conditions of the requests -/

section Conditions

variable (s : State)

theorem Mode.staging_iff (m : Mode) : m.staging = true ↔
    m = .commissioning ∨ m = .enteringService ∨ m = .recording := by
  cases m <;> decide

theorem State.mayStage_iff : s.mayStage = true ↔ s.stageable := by
  rw [State.mayStage, Bool.and_eq_true, Mode.staging_iff, decide_eq_true_eq]
  rfl

theorem State.mayMove_iff : s.mayMove = true ↔ s.movable := by
  rw [State.mayMove, Bool.and_eq_true, Mode.staging_iff, decide_eq_true_eq]
  rfl

theorem State.mayServe_iff : s.mayServe = true ↔ s.serviceable := by
  simp only [State.mayServe, State.serviceable, Tables.inUse, Bool.and_eq_true, decide_eq_true_eq,
    List.any_eq_true, List.mem_filter, List.mem_range]
  constructor
  · rintro ⟨⟨⟨hmode, hclock⟩, c, ⟨hc, huse⟩, hstack⟩, hstage⟩
    exact ⟨hmode, hclock, hstage, c, hc, huse, hstack⟩
  · rintro ⟨hmode, hclock, hstage, c, hc, huse, hstack⟩
    exact ⟨⟨⟨hmode, hclock⟩, c, ⟨hc, huse⟩, hstack⟩, hstage⟩

theorem Store.allCollected_iff (st : Store) : st.allCollected = true ↔
    ∀ r, (st.pointers r).collected = (st.pointers r).newest := by
  simp only [Store.allCollected, List.all_eq_true, decide_eq_true_eq]
  exact ⟨fun h r => h r (by cases r <;> decide), fun h r _ => h r⟩

theorem State.mayErase_iff : s.mayErase = true ↔ s.erasable := by
  simp only [State.mayErase, State.erasable, Bool.and_eq_true, decide_eq_true_eq,
    Store.allCollected_iff, List.all_eq_true, Bool.or_eq_true, and_assoc]

theorem State.reportRefusal_eq_none_iff (year : Nat) : s.reportRefusal year = none ↔
    ∃ i, slotOfYear s.recorder.tally year = some i ∧ (s.slot i).state = .final := by
  unfold State.reportRefusal
  cases slotOfYear s.recorder.tally year with
  | none => simp
  | some i => simp

end Conditions

/-! ### Acceptance -/

/-- The arbiter leaves the annotation marks. -/
theorem State.makeGrant_marks (s : State) (c : Claim) (o : Option Link) :
    (s.makeGrant c o).links.marks = s.links.marks := by
  cases c with
  | op l => cases l <;> rfl
  | readout l => cases l <;> rfl
  | queue | transfer | protection | annRead | annRewrite => rfl

theorem State.settle_marks (s : State) : s.settle.links.marks = s.links.marks := by
  rcases s.settle_cases with h | ⟨c, o, _, _, _, h⟩
  · rw [h]
  · rw [h, State.makeGrant_marks]

theorem State.modPort_marks (s : State) (l : Link) (f : LinkPort → LinkPort) :
    (s.modPort l f).links.marks = s.links.marks := by
  cases l <;> rfl

theorem State.endOp_marks (s : State) (l : Link) (out : OpOutcome) (r : Option Reason)
    (i : Option Nat) (c : List Nat) : (s.endOp l out r i c).links.marks = s.links.marks := by
  unfold State.endOp
  split
  · rfl
  · rw [State.raiseOn_links, State.modPort_marks]

/-- In a READY store its claim waits at the arbiter. -/
theorem State.claimWrite_beginOp_ready {s : State} (h : s.store.fault = false) (l : Link)
    (cmd : BusyCmd) :
    (s.beginOp l cmd).claimWrite l = s.withPort l ((s.port l).withOp cmd true) := by
  rw [State.claimWrite, State.beginOp_store, if_neg (by simp [h])]
  cases l <;> rfl

/-- In FAULT it ends at that moment (R140). -/
theorem State.claimWrite_beginOp_fault {s : State} (h : s.store.fault = true) (l : Link)
    (cmd : BusyCmd) : (s.beginOp l cmd).claimWrite l =
      (s.withPort l ((s.port l).withOp cmd false)).endOp l .refused (some .storeFault) none [] := by
  rw [State.claimWrite, State.beginOp_store, if_pos h]
  rfl

theorem State.claimWrite_marks (s : State) (l : Link) :
    (s.claimWrite l).links.marks = s.links.marks := by
  unfold State.claimWrite
  split
  · exact s.endOp_marks l _ _ _ _
  · exact s.modPort_marks l _

/-- What a command finds that ends in the acceptance of a busy operation. -/
def State.receives (s : State) (args : List Byte) (c : Command) (cmd : BusyCmd) : Prop :=
  (c = .stageChannel ∧ s.stageable ∧
      ∃ i e, readStageChannel args = some (i, e) ∧ cmd = .stageChannel i e) ∨
    (c = .stageStack ∧ s.stageable ∧
      ∃ k e, readStageStack args = some (k, e) ∧ cmd = .stageStack k e) ∨
    (c = .stageDevice ∧ s.stageable ∧
      ∃ d, readStageDevice args = some d ∧ cmd = .stageDevice d) ∨
    (c = .withdrawStage ∧ s.movable ∧ cmd = .withdrawStage) ∨
    (c = .approve ∧ s.movable ∧ cmd = .approve) ∨
    (c = .rejectStage ∧ s.config.stage.state ≠ .empty ∧ cmd = .rejectStage) ∨
    (c = .commitCollection ∧ ∃ r, ringOfCode (u8 args 0) = some r ∧
      (s.store.pointers r).collected ≤ u32 args 1 ∧ u32 args 1 ≤ (s.store.pointers r).newest ∧
      cmd = .commitCollection r (u32 args 1)) ∨
    (c = .commitReport ∧ s.supply.mode ≠ .suspended ∧
      (∃ i, slotOfYear s.recorder.tally (u16 args 0) = some i ∧ (s.slot i).state = .final) ∧
      cmd = .commitReport (u16 args 0) none) ∨
    (c = .inService ∧ s.serviceable ∧ cmd = .inService) ∨
    (c = .withdraw ∧ s.supply.mode = .recording ∧ cmd = .withdraw) ∨
    (c = .eraseArchive ∧ s.erasable ∧ cmd = .eraseArchive)

section Acceptance

variable {s : State} {l : Link} {c : Command} {args : List Byte} {cmd : BusyCmd}

/-- A frame whose rule accepts a busy operation is answered once the arbiter has taken its turn. -/
theorem State.serve_busy {rule : State → Ruling} (hc : c ≠ .linkStatus)
    (h : s.reaches c l args = true) (hrule : rule s = s.acceptBusy l cmd) :
    s.serve c l args rule = ((s.beginOp l cmd).claimWrite l).settle.answered l := by
  rw [State.serve_accepted hc h hrule, State.answered, State.settle_marks,
    State.claimWrite_marks, State.beginOp, State.modPort_marks]

/-- Each of the eleven requests that finds its conditions is accepted. -/
theorem exec_busy_accepted (h : s.reaches c l args = true) (hfinds : s.receives args c cmd) :
    exec (instrOf l args 0 [] c) s =
      .next (((s.beginOp l cmd).claimWrite l).settle.answered l) := by
  rcases hfinds with ⟨rfl, hs, i, e, hread, rfl⟩ | ⟨rfl, hs, k, e, hread, rfl⟩ |
    ⟨rfl, hs, d, hread, rfl⟩ | ⟨rfl, hm, rfl⟩ | ⟨rfl, hm, rfl⟩ | ⟨rfl, hstage, rfl⟩ |
    ⟨rfl, r, hring, hlo, hhi, rfl⟩ | ⟨rfl, hmode, hslot, rfl⟩ | ⟨rfl, hs, rfl⟩ |
    ⟨rfl, hmode, rfl⟩ | ⟨rfl, he, rfl⟩ <;>
  refine congrArg _ (State.serve_busy (by decide) h ?_)
  · simp only [hread, if_pos (s.mayStage_iff.2 hs)]
  · simp only [hread, if_pos (s.mayStage_iff.2 hs)]
  · simp only [hread, if_pos (s.mayStage_iff.2 hs)]
  · exact if_pos (s.mayMove_iff.2 hm)
  · exact if_pos (s.mayMove_iff.2 hm)
  · exact if_neg hstage
  · simp only [State.collectionRuling, hring]
    exact if_neg (by omega)
  · simp only [State.reportRuling, if_neg hmode, (s.reportRefusal_eq_none_iff _).2 hslot]
  · exact if_pos (s.mayServe_iff.2 hs)
  · exact if_pos hmode
  · exact if_pos (s.mayErase_iff.2 he)

end Acceptance

/-- Settles O21: the request is accepted, and the state of the store decides what its claim becomes. -/
theorem busyRequestsAreAccepted : Obligations.BusyRequestsAreAccepted := by
  refine ⟨fun s l args c cmd hstore h hfinds => ?_, fun s l args c cmd hstore h hfinds => ?_⟩
  · rw [exec_busy_accepted h hfinds, State.claimWrite_beginOp_ready hstore]
  · rw [exec_busy_accepted h hfinds, State.claimWrite_beginOp_fault hstore]

/-! ### Refusal -/

theorem ringOfCode_eq_none {n : Nat} (h : 2 < n) : ringOfCode n = none := by
  unfold ringOfCode
  split
  · omega
  · omega
  · omega
  · rfl

/-- Settles O22: each request's own rule ends in ARGUMENT or SEQUENCE. -/
theorem busyRequestsAreRefused : Obligations.BusyRequestsAreRefused := by
  intro s l args
  refine ⟨fun h => ⟨fun hr => ?_, fun hr hs => ?_⟩, fun h => ⟨fun hr => ?_, fun hr hs => ?_⟩,
    fun h => ⟨fun hr => ?_, fun hr hs => ?_⟩, fun h hm => ?_, fun h hm => ?_, fun h hstage => ?_,
    fun h hbad => ?_, fun h => ⟨fun hmode => ?_, fun hmode hslot => ?_, fun i hmode hslot hs => ?_⟩,
    fun h hs => ?_, fun h hmode => ?_, fun h he => ?_⟩
  · exact congrArg _ (State.serve_argument (by decide) h (by simp only [hr]))
  · obtain ⟨p, hp⟩ := Option.isSome_iff_exists.1 hr
    exact congrArg _ (State.serve_sequence (by decide) h
      (by simp only [hp, if_neg (mt s.mayStage_iff.1 hs)]))
  · exact congrArg _ (State.serve_argument (by decide) h (by simp only [hr]))
  · obtain ⟨p, hp⟩ := Option.isSome_iff_exists.1 hr
    exact congrArg _ (State.serve_sequence (by decide) h
      (by simp only [hp, if_neg (mt s.mayStage_iff.1 hs)]))
  · exact congrArg _ (State.serve_argument (by decide) h (by simp only [hr]))
  · obtain ⟨p, hp⟩ := Option.isSome_iff_exists.1 hr
    exact congrArg _ (State.serve_sequence (by decide) h
      (by simp only [hp, if_neg (mt s.mayStage_iff.1 hs)]))
  · exact congrArg _ (State.serve_sequence (by decide) h (if_neg (mt s.mayMove_iff.1 hm)))
  · exact congrArg _ (State.serve_sequence (by decide) h (if_neg (mt s.mayMove_iff.1 hm)))
  · exact congrArg _ (State.serve_sequence (by decide) h (if_pos hstage))
  · refine congrArg _ (State.serve_argument (by decide) h ?_)
    rcases hbad with hcode | ⟨r, hring, hrange⟩
    · simp only [State.collectionRuling, ringOfCode_eq_none hcode]
    · simp only [State.collectionRuling, hring, if_pos hrange]
  · exact congrArg _ (State.serve_sequence (by decide) h (if_pos hmode))
  · refine congrArg _ (State.serve_argument (by decide) h ?_)
    simp only [State.reportRuling, if_neg hmode, State.reportRefusal, hslot]
  · refine congrArg _ (State.serve_sequence (by decide) h ?_)
    simp only [State.reportRuling, if_neg hmode, State.reportRefusal, hslot, if_neg hs]
  · exact congrArg _ (State.serve_sequence (by decide) h (if_neg (mt s.mayServe_iff.1 hs)))
  · exact congrArg _ (State.serve_sequence (by decide) h (if_neg hmode))
  · exact congrArg _ (State.serve_sequence (by decide) h (if_neg (mt s.mayErase_iff.1 he)))

end Sys2Proof.Machine
end

section
/-! Commits (R9 to R13, R131, R147 to R149, R152, R154, R156), and O23. -/

namespace Sys2Proof.Machine

/-! ### What a configuration-area write programs -/

/-- The mode that the next write carries, as R151 says it. -/
theorem State.carriedMode_eq (s : State) : s.carriedMode = s.nextArea.mode := by
  show (if s.liveMode = .recording ∧ s.store.area.mode = .enteringService then Mode.recording
    else s.store.area.mode) = if s.store.area.mode = .enteringService ∧ (s.supply.mode = .recording ∨
      s.supply.mode = .suspended ∧ s.supply.beneath = .recording) then .recording
      else s.store.area.mode
  unfold State.liveMode
  by_cases hm : s.supply.mode = .suspended <;> simp [hm, and_comm]

theorem State.areaImage_eq (s : State) (f : ConfigArea → ConfigArea) :
    s.areaImage f = f s.nextArea := by
  rw [State.areaImage, State.carriedMode_eq]
  rfl

theorem State.programArea_eq (s : State) (f : ConfigArea → ConfigArea) :
    s.programArea f = s.programmed (f s.nextArea) := by
  rw [State.programArea, State.areaImage_eq]
  rfl

theorem State.programStage_eq (s : State) (stage : StageSet) :
    s.programStage stage = s.programmed { s.nextArea with stage := stage } := s.programArea_eq _

theorem State.programMode_eq (s : State) (m : Mode) :
    s.programMode m = s.programmed { s.nextArea with mode := m } := s.programArea_eq _

/-- The write of a report programs the spare image of its slot, and the operation names that slot. -/
theorem State.programReport_eq {s : State} {l : Link} {year i : Nat} {t : TallySlot} {w : Bool}
    (hslot : slotOfYear s.recorder.tally year = some i) (ht : s.recorder.tally[i]? = some t)
    (hw : (s.port l).op.map LinkOp.waiting = some w) :
    s.programReport l year = ({ s with store := { s.store with
        tallySpare := s.store.tallySpare.set i { t with state := .reported } } } : State).withPort l
      { (s.port l) with op := some { cmd := .commitReport year (some i), waiting := w } } := by
  obtain ⟨o, ho, rfl⟩ := Option.map_eq_some_iff.1 hw
  have hs : s.slot i = t := by
    rw [State.slot, List.getD_eq_getElem?_getD, ht, Option.getD_some]
  have hport : ({ (s.port l) with op := (s.port l).op.map fun o =>
      { o with cmd := BusyCmd.commitReport year (some i) } } : LinkPort) =
      { (s.port l) with op := some { cmd := .commitReport year (some i), waiting := o.waiting } } := by
    rw [ho]
    rfl
  rw [State.programReport, hslot, ← hport]
  show ((s.programImage i { (s.slot i) with state := .reported }).setOpCmd l _) = _
  rw [hs]
  rfl

/-! ### Commits -/

section Commits

variable {s : State} {g : Grant} {l : Link} {cmd : BusyCmd}

theorem State.grantedOp_of_grants (hg : s.grants g (.op l)) (hc : s.opCmd l = some cmd) :
    s.grantedOp = some (g, l, cmd) := by
  obtain ⟨hrun, hgrant, hclaim, hbegun⟩ := hg
  exact State.grantedOp_of hrun hgrant hclaim hbegun hc

theorem State.commit_ok {ok : Bool} (h : ok = true) (reason : Reason) (program : State → State) :
    s.commit g l ok reason program = (program s).startGrant g := if_pos h

theorem State.commit_refused {ok : Bool} (h : ¬ ok = true) (reason : Reason)
    (program : State → State) : s.commit g l ok reason program =
      ((s.endOp l .refused (some reason) none []).granted none).settle := if_neg h

theorem State.mayApprove_iff (s : State) (l : Link) :
    s.mayApprove l = true ↔ s.movable ∧ (l = .operator → s.supply.mode = .commissioning) := by
  rw [State.mayApprove, Bool.and_eq_true, s.mayMove_iff, Bool.or_eq_true, decide_eq_true_eq,
    decide_eq_true_eq, ← imp_iff_not_or]

/-- An approval that finds its conditions and passes its checks begins its write. -/
theorem State.commitApprove_ok (hmay : s.mayApprove l = true)
    (hchecks : approvalFailure (merged s.config.active s.config.stage) = none) :
    s.commitApprove g l = (s.programApproval l).startGrant g := by
  rw [State.commitApprove, if_pos hmay, hchecks]

theorem State.commitApprove_unmet (hmay : ¬ s.mayApprove l = true) :
    s.commitApprove g l = ((s.endOp l .refused (some .sequence) none []).granted none).settle :=
  if_neg hmay

theorem State.commitApprove_failed {reason : Reason} {i : Nat} (hmay : s.mayApprove l = true)
    (hchecks : approvalFailure (merged s.config.active s.config.stage) = some (reason, i)) :
    s.commitApprove g l =
      ((s.endOp l .refused (some reason) (some i) []).granted none).settle := by
  rw [State.commitApprove, if_pos hmay, hchecks]
  rfl

/-! ### One equation for each commit -/

theorem exec_stageCommit (hop : s.grantedOp = some (g, l, cmd))
    (hcmd : (∃ i e, cmd = .stageChannel i e) ∨ (∃ k e, cmd = .stageStack k e) ∨
      ∃ d, cmd = .stageDevice d) :
    exec .stageCommit s = .next (s.commitStage g l cmd) := by
  show Host.Outcome.next _ = _
  rw [hop]
  rcases hcmd with ⟨i, e, rfl⟩ | ⟨k, e, rfl⟩ | ⟨d, rfl⟩ <;> rfl

/-- The commit of a STAGE command that finds its conditions. -/
theorem exec_stageCommit_ok (hop : s.grantedOp = some (g, l, cmd))
    (hcmd : (∃ i e, cmd = .stageChannel i e) ∨ (∃ k e, cmd = .stageStack k e) ∨
      ∃ d, cmd = .stageDevice d) (hs : s.stageable) :
    exec .stageCommit s = .next ((s.programmed { s.nextArea with
      stage := s.config.stage.enter cmd }).withBegun g) := by
  rw [exec_stageCommit hop hcmd, State.commitStage, State.commit_ok (s.mayStage_iff.2 hs),
    State.programStage_eq]
  rfl

theorem exec_withdrawStageCommit (hop : s.grantedOp = some (g, l, .withdrawStage)) :
    exec .withdrawStageCommit s =
      .next (s.commit g l s.mayMove .sequence (State.programStage .emptied)) := by
  show Host.Outcome.next _ = _
  rw [hop]

theorem exec_rejectStageCommit (hop : s.grantedOp = some (g, l, .rejectStage)) :
    exec .rejectStageCommit s = .next (s.commit g l (decide (s.config.stage.state ≠ .empty))
      .sequence (State.programStage .emptied)) := by
  show Host.Outcome.next _ = _
  rw [hop]

theorem exec_approveCommit (hop : s.grantedOp = some (g, l, .approve)) :
    exec .approveCommit s = .next (s.commitApprove g l) := by
  show Host.Outcome.next _ = _
  rw [hop]

theorem exec_collectionCommit {r : RingName} {n : Nat}
    (hop : s.grantedOp = some (g, l, .commitCollection r n)) :
    exec .collectionCommit s = .next (s.commit g l (decide (n ≤ (s.store.pointers r).newest))
      .argument
      (State.programArea (ConfigArea.setPointers r ((s.store.pointers r).collect n)))) := by
  show Host.Outcome.next _ = _
  rw [hop]

theorem exec_reportCommit {y : Nat} {x : Option Nat}
    (hop : s.grantedOp = some (g, l, .commitReport y x)) :
    exec .reportCommit s = .next (s.commit g l (s.reportRefusal y).isNone
      ((s.reportRefusal y).getD .sequence) (State.programReport l y)) := by
  show Host.Outcome.next _ = _
  rw [hop]

theorem exec_inServiceCommit (hop : s.grantedOp = some (g, l, .inService)) :
    exec .inServiceCommit s =
      .next (s.commit g l s.mayServe .sequence (State.programMode .enteringService)) := by
  show Host.Outcome.next _ = _
  rw [hop]

theorem exec_withdrawCommit (hop : s.grantedOp = some (g, l, .withdraw)) :
    exec .withdrawCommit s = .next (s.commit g l (decide (s.supply.mode = .recording)) .sequence
      (State.programMode .withdrawn)) := by
  show Host.Outcome.next _ = _
  rw [hop]

theorem exec_eraseGrant (hop : s.grantedOp = some (g, l, .eraseArchive)) :
    exec .eraseGrant s = .next (s.commit g l s.mayErase .sequence (State.programErase 0)) := by
  show Host.Outcome.next _ = _
  rw [hop]

/-- The commit of a report whose year's slot is not FINAL, or not there. -/
theorem exec_reportCommit_refused {y : Nat} {x : Option Nat} {reason : Reason}
    (hop : s.grantedOp = some (g, l, .commitReport y x)) (h : s.reportRefusal y = some reason) :
    exec .reportCommit s =
      .next ((s.endOp l .refused (some reason) none []).granted none).settle := by
  rw [exec_reportCommit hop, h]
  exact congrArg _ (State.commit_refused Bool.false_ne_true reason _)

end Commits

/-! ### The obligation -/

/-- Settles O23: each commit's equation, in the case that its condition holds and in the case that it fails. -/
theorem commitsBeginTheirWrite : Obligations.CommitsBeginTheirWrite := by
  refine ⟨?_, ?_⟩
  · rintro s g l cmd stage hg hc rfl
    have hop := State.grantedOp_of_grants hg hc
    refine ⟨fun i e he hs => ?_, fun k e he hs => ?_, fun d he hs => ?_, fun he hm => ?_,
      fun he hstage => ?_, fun he hm hmode hl hchecks => ?_, fun he hm hmode hchecks => ?_,
      fun r n p he hn hp => ?_, fun y x i t w he hslot ht hfinal hw => ?_, fun he hs => ?_,
      fun he hmode => ?_, fun he herase => ?_⟩ <;> subst he
    · exact exec_stageCommit_ok hop (.inl ⟨i, e, rfl⟩) hs
    · exact exec_stageCommit_ok hop (.inr (.inl ⟨k, e, rfl⟩)) hs
    · exact exec_stageCommit_ok hop (.inr (.inr ⟨d, rfl⟩)) hs
    · rw [exec_withdrawStageCommit hop, State.commit_ok (s.mayMove_iff.2 hm),
        State.programStage_eq]
      rfl
    · rw [exec_rejectStageCommit hop, State.commit_ok (decide_eq_true hstage),
        State.programStage_eq]
      rfl
    · rw [exec_approveCommit hop,
        State.commitApprove_ok ((s.mayApprove_iff l).2 ⟨hm, fun h => absurd h hl⟩) hchecks,
        State.programApproval, if_neg hmode, State.programStage_eq]
      rfl
    · rw [exec_approveCommit hop,
        State.commitApprove_ok ((s.mayApprove_iff l).2 ⟨hm, fun _ => hmode⟩) hchecks,
        State.programApproval, if_pos hmode, State.programArea_eq]
      rfl
    · rw [exec_collectionCommit hop, State.commit_ok (decide_eq_true hn), State.programArea_eq, hp]
      cases r <;> rfl
    · have hs : s.slot i = t := by
        rw [State.slot, List.getD_eq_getElem?_getD, ht, Option.getD_some]
      have hnone := (s.reportRefusal_eq_none_iff y).2 ⟨i, hslot, hs.symm ▸ hfinal⟩
      rw [exec_reportCommit hop, State.commit_ok (by rw [hnone]; rfl),
        State.programReport_eq hslot ht hw]
      rfl
    · rw [exec_inServiceCommit hop, State.commit_ok (s.mayServe_iff.2 hs), State.programMode_eq]
      rfl
    · rw [exec_withdrawCommit hop, State.commit_ok (decide_eq_true hmode), State.programMode_eq]
      rfl
    · rw [exec_eraseGrant hop, State.commit_ok (s.mayErase_iff.2 herase)]
      rfl
  · rintro s g l cmd refused hg hc rfl
    have hop := State.grantedOp_of_grants hg hc
    refine ⟨fun he hs => ?_, fun he hm => ?_, fun he hstage => ?_, fun he hm => ?_,
      fun r i he hm hmode hchecks => ?_, fun r n he hn => ?_, fun y x he hslot => ?_,
      fun y x i he hslot hs => ?_, fun he hs => ?_, fun he hmode => ?_, fun he herase => ?_⟩
    · rw [exec_stageCommit hop he, State.commitStage,
        State.commit_refused (mt s.mayStage_iff.1 hs)]
    all_goals subst he
    · rw [exec_withdrawStageCommit hop, State.commit_refused (mt s.mayMove_iff.1 hm)]
    · rw [exec_rejectStageCommit hop, State.commit_refused (by simp [hstage])]
    · rw [exec_approveCommit hop, State.commitApprove_unmet]
      rw [s.mayApprove_iff]
      rintro ⟨hmovable, hmode⟩
      rcases hm with hm | ⟨hl, hm⟩
      · exact hm hmovable
      · exact hm (hmode hl)
    · rw [exec_approveCommit hop,
        State.commitApprove_failed ((s.mayApprove_iff l).2 ⟨hm, hmode⟩) hchecks]
    · rw [exec_collectionCommit hop, State.commit_refused (by simp [hn])]
    · exact exec_reportCommit_refused hop (by rw [State.reportRefusal, hslot])
    · exact exec_reportCommit_refused hop (by rw [State.reportRefusal, hslot]; exact if_neg hs)
    · rw [exec_inServiceCommit hop, State.commit_refused (mt s.mayServe_iff.1 hs)]
    · rw [exec_withdrawCommit hop, State.commit_refused (by simp [hmode])]
    · rw [exec_eraseGrant hop, State.commit_refused (mt s.mayErase_iff.1 herase)]

end Sys2Proof.Machine
end

section
/-! The end of a program attempt (R139): retries and FAULT, and O31. -/

namespace Sys2Proof.Machine

/-! ### The end of an attempt -/

section Attempts

variable {s : State} {g : Grant} {c : Claim} {a : Attempt}

theorem exec_writeAttemptComplete (hrun : s.running = true) (hgrant : s.arbiter.grant = some g)
    (hbegun : g.begun = true) (a : Attempt) :
    exec (.writeAttemptComplete a) s = .next (s.attemptEnds g a).settle := by
  show Host.Outcome.next _ = _
  rw [hrun, (s.programming_eq_some g).2 ⟨hgrant, hbegun⟩]

/-- Pointers that fail behind a ring record get another attempt of their own (R134). -/
theorem exec_pointersFailed (hp : s.programs g .queue) {item : QueueItem} {rest : List QueueItem}
    {r : RingName} (hqueue : s.recorder.queue = item :: rest) (hring : item.ring = some r)
    (hpart : g.part = 0) : exec (.writeAttemptComplete .pointersFailed) s =
      .next (s.granted (some { g with part := 1, failedOnce := true })) := by
  obtain ⟨hrun, hgrant, hclaim, hbegun⟩ := hp
  have hwrites : s.writesRing g = true := by
    simp [State.writesRing, hclaim, hpart, hqueue, hring]
  rw [exec_writeAttemptComplete hrun hgrant hbegun, State.attemptEnds, if_pos hwrites,
    State.settle_of_grant (g := { g with part := g.part + 1, failedOnce := true }) rfl,
    State.nextPart, hpart]
  rfl

/-- Any other attempt that fails is one that failed as a whole. -/
theorem State.attemptEnds_failed (hclaim : g.claim = c) (ha : a ≠ .verified)
    (h : a = .failed ∨ c ≠ .queue ∨ g.part ≠ 0 ∨
      ∃ i t rest, s.recorder.queue = .checkpoint i t :: rest) :
    s.attemptEnds g a = s.attemptFailed g := by
  cases a with
  | verified => exact absurd rfl ha
  | failed => rfl
  | pointersFailed =>
    refine if_neg ?_
    rcases h with h | h | h | ⟨i, t, rest, h⟩
    · cases h
    · simp [State.writesRing, hclaim, h]
    · simp [State.writesRing, h]
    · simp [State.writesRing, h, QueueItem.ring]

theorem exec_retry (hp : s.programs g c) (ha : a ≠ .verified)
    (h : a = .failed ∨ c ≠ .queue ∨ g.part ≠ 0 ∨
      ∃ i t rest, s.recorder.queue = .checkpoint i t :: rest) (hfirst : g.failedOnce = false) :
    exec (.writeAttemptComplete a) s = .next (s.granted (some { g with failedOnce := true })) := by
  obtain ⟨hrun, hgrant, hclaim, hbegun⟩ := hp
  rw [exec_writeAttemptComplete hrun hgrant hbegun, State.attemptEnds_failed hclaim ha h,
    State.attemptFailed, if_neg (by simp [hfirst])]
  exact congrArg _ (State.settle_of_grant (g := { g with failedOnce := true }) rfl)

theorem exec_writeFailed (hp : s.programs g c) (ha : a ≠ .verified)
    (h : a = .failed ∨ c ≠ .queue ∨ g.part ≠ 0 ∨
      ∃ i t rest, s.recorder.queue = .checkpoint i t :: rest) (hsecond : g.failedOnce = true) :
    exec (.writeAttemptComplete a) s = .next (s.writeFailed g).settle := by
  obtain ⟨hrun, hgrant, hclaim, hbegun⟩ := hp
  rw [exec_writeAttemptComplete hrun hgrant hbegun, State.attemptEnds_failed hclaim ha h,
    State.attemptFailed, if_pos hsecond]

end Attempts

/-! ### Records and flags -/

/-- Records at the end of the write queue. -/
def State.queued (xs : List QueueItem) (s : State) : State :=
  { s with recorder := { s.recorder with queue := s.recorder.queue ++ xs } }

/-- Flags pending on all three links. -/
def State.flagged (f : FlagSet) (s : State) : State :=
  { s with attention := s.attention.raiseAll f }

theorem State.queued_queued (s : State) (xs ys : List QueueItem) :
    (s.queued xs).queued ys = s.queued (xs ++ ys) := by
  simp only [State.queued, List.append_assoc]

/-- The room that is left behind some records. -/
theorem State.roomFor_queued (s : State) (xs : List QueueItem) (n : Nat) :
    (s.queued xs).roomFor n ↔ s.roomFor (xs.length + n) := by
  simp only [State.roomFor, State.queued, List.length_append, Nat.add_assoc]

theorem State.roomFor_le {s : State} {m n : Nat} (h : s.roomFor n) (hle : m ≤ n) :
    s.roomFor m := Nat.le_trans (Nat.add_le_add_left hle _) h

/-! ### Entering FAULT -/

section Fault

variable {s : State}

theorem State.power_of_running (h : s.running = true) : s.supply.power = .running := by
  simpa [State.running] using h

theorem State.raiseAll_of_running (h : s.running = true) (f : FlagSet) :
    s.raiseAll f = { s with attention := s.attention.raiseAll f } :=
  State.raiseAll_running (by rw [State.power_of_running h]; decide) f

/-- Outside STARTING a flag raised on all links is pending on each. -/
theorem State.raiseAll_flagged (h : s.running = true) (f : FlagSet) :
    s.raiseAll f = s.flagged f := State.raiseAll_of_running h f

/-- Where the queue has room a record joins its end. -/
theorem State.offer_room (h : s.roomFor 1) (x : QueueItem) : s.offer x = s.queued [x] := by
  refine State.offer_open ?_ x
  have hroom : s.recorder.queue.length + 1 ≤ 96 := h
  show s.recorder.queue.length < 96
  omega

/-- So does an event record that raises no count. -/
theorem State.writeEvent_room (h : s.roomFor 1) (e : EventRec)
    (hstep : e.kind ≠ .timeStep) (hrestart : e.kind ≠ .restart) :
    s.writeEvent e = s.queued [.event e] := by
  rw [← State.offer_room h]
  unfold State.writeEvent
  split
  · exact absurd ‹_› hstep
  · exact absurd ‹_› hrestart
  · rfl

/-- What entering FAULT does where the queue has room for its record (R139, R140). -/
theorem State.enterFault_room (hrun : s.running = true) (hroom : s.roomFor 1) (w : Word) :
    s.enterFault w = ((((({ s with store := { s.store with fault := true } } : State).queued
      [.event { time := s.time.counter, kind := .storeFault, stack := none, channel := none,
                argument := w }]).flagged flagStore).granted none).refuseWaiting
        .operator).refuseWaiting .inspection := by
  have hrecord := State.writeEvent_room
    (s := { s with store := { s.store with fault := true } }) hroom
    { time := s.time.counter, kind := .storeFault, stack := none, channel := none, argument := w }
    EventKind.noConfusion EventKind.noConfusion
  have hflag := State.raiseAll_flagged
    (s := ({ s with store := { s.store with fault := true } } : State).queued
      [.event { time := s.time.counter, kind := .storeFault, stack := none, channel := none,
                argument := w }]) hrun flagStore
  rw [State.granted, ← hflag, ← hrecord]
  rfl

/-! ### The writes that wait -/

theorem State.refuseWaiting_of_idle {l : Link} (h : (s.port l).op = none) :
    s.refuseWaiting l = s := by
  rw [State.refuseWaiting, h]

/-- A write that waits ends REFUSED, and one that does not wait goes on (R140). -/
theorem State.refuseWaiting_of_write {l : Link} {o : LinkOp} (h : (s.port l).op = some o)
    (hcmd : ∀ op, o.cmd ≠ .applyAnnotation op) : s.refuseWaiting l =
      if o.waiting then s.endOp l .refused (some .storeFault) none [] else s := by
  cases hc : o.cmd with
  | applyAnnotation op => exact absurd hc (hcmd op)
  | _ =>
    simp only [State.refuseWaiting, h, hc]
    rfl

theorem State.refuseWaiting_of_verified {l : Link} {o : LinkOp} {op : AnnOp}
    {old new : IntervalRec} (h : (s.port l).op = some o) (hcmd : o.cmd = .applyAnnotation op)
    (hphase : op.phase = .verified old new) : s.refuseWaiting l = s := by
  simp only [State.refuseWaiting, h, hcmd, hphase]

/-- The record of the end of an annotation (R124). -/
def AnnOp.endRecord (op : AnnOp) (time : Nat) : EventRec :=
  { time := time, kind := .annotation, stack := some op.stack, channel := op.channel,
    argument := BitVec.ofNat 32 op.counts.applied }

/-- The end of an annotation where the queue has room for its record (R124). -/
theorem State.endAnnotation_room (hrun : s.running = true) (hroom : s.roomFor 1) (op : AnnOp)
    (outcome : OpOutcome) (reason : Option Reason) :
    s.endAnnotation op outcome reason = State.endOp .operator outcome reason none op.counts.list
      ((s.queued [.event (op.endRecord s.time.counter)]).flagged flagAnnotation) := by
  rw [State.endAnnotation, State.writeEvent_room hroom _ EventKind.noConfusion
    EventKind.noConfusion]
  exact congrArg _ (State.raiseAll_flagged (s := s.queued _) hrun _)

theorem State.refuseWaiting_of_annotation {l : Link} {o : LinkOp} {op : AnnOp}
    (h : (s.port l).op = some o) (hcmd : o.cmd = .applyAnnotation op)
    (hphase : ∀ old new, op.phase ≠ .verified old new) :
    s.refuseWaiting l = s.endAnnotation op .refused (some .storeFault) := by
  cases hp : op.phase with
  | verified old new => exact absurd hp (hphase old new)
  | _ => simp only [State.refuseWaiting, h, hcmd, hp]

end Fault

/-! ### Second failures -/

section Failures

variable {s : State} {g : Grant}

theorem State.writeFailed_queue {item : QueueItem} {rest : List QueueItem}
    (hclaim : g.claim = .queue) (hqueue : s.recorder.queue = item :: rest) :
    s.writeFailed g = s.queueFailed g item := by
  rw [State.writeFailed, hclaim]
  simp only [hqueue]

theorem State.queueFailed_ring {item : QueueItem} {r : RingName} (hring : item.ring = some r) :
    s.queueFailed g item = s.ringFailed g item r := by
  cases item <;> simp only [QueueItem.ring, Option.some.injEq, reduceCtorEq] at hring <;>
    subst hring <;> rfl

/-- The position after the newest record of a ring (R134). -/
theorem RingName.position_following (r : RingName) (p : Pointers) :
    r.position p.following = p.newest % r.capacity := by
  rw [RingName.position, Pointers.following, Nat.add_sub_cancel]

/-- A record put in a ring stands behind its newest one; every other position, the pointers and the rest of
the store stay. -/
theorem Store.putRecord_ring (st : Store) {item : QueueItem} {r : RingName}
    (hring : item.ring = some r) :
    (st.putRecord item).cell r ((st.pointers r).newest % r.capacity) =
        some ((st.pointers r).newest + 1, item) ∧
      (∀ r' m, (r' ≠ r ∨ m ≠ (st.pointers r).newest % r.capacity) →
        (st.putRecord item).cell r' m = st.cell r' m) ∧
      (∀ r', (st.putRecord item).pointers r' = st.pointers r' ∧
        (st.putRecord item).armed r' = st.armed r') ∧
      (st.putRecord item).area = st.area ∧ (st.putRecord item).areaSpare = st.areaSpare ∧
      (st.putRecord item).intervalSpare = st.intervalSpare ∧ st.sameButRings (st.putRecord item) := by
  rw [← RingName.position_following]
  cases item <;> simp only [QueueItem.ring, Option.some.injEq, reduceCtorEq] at hring <;>
    subst hring <;>
  · refine ⟨?_, fun r' m h => ?_, fun r' => ⟨by cases r' <;> rfl, by cases r' <;> rfl⟩, rfl, rfl,
      rfl, rfl, rfl, rfl, rfl, rfl, rfl⟩
    · simp only [Store.cell, Store.putRecord, Store.pointers, getCell_putCell_same, Option.map_some]
      rfl
    · cases r' <;> simp only [ne_eq, reduceCtorEq, not_true_eq_false, not_false_eq_true, true_or,
        false_or] at h
      all_goals first | rfl | exact congrArg (Option.map _) (getCell_putCell_other h _ _)

theorem State.writeFailed_op {l : Link} {cmd : BusyCmd} (hclaim : g.claim = .op l)
    (hc : s.opCmd l = some cmd) : s.writeFailed g =
      (((s.opFailure g cmd).2.enterFault (s.opFailure g cmd).1).endOp l .refused
        (some .storeFault) none []).passHeld := by
  rw [State.writeFailed, hclaim]
  simp only [State.opFailed, hc]
  rfl

/-- The commands whose write is in the configuration area. -/
theorem State.opFailure_area {cmd : BusyCmd}
    (hcmd : cmd = .approve ∨ cmd = .rejectStage ∨ cmd = .withdrawStage ∨ cmd = .inService ∨
      cmd = .withdraw ∨ (cmd = .eraseArchive ∧ 2 ≤ g.part) ∨
      (∃ r n, cmd = .commitCollection r n) ∨ (∃ i e, cmd = .stageChannel i e) ∨
      (∃ k e, cmd = .stageStack k e) ∨ ∃ d, cmd = .stageDevice d) :
    s.opFailure g cmd = (areaFailure, s) := by
  rcases hcmd with rfl | rfl | rfl | rfl | rfl | ⟨rfl, hpart⟩ | ⟨r, n, rfl⟩ | ⟨i, e, rfl⟩ |
    ⟨k, e, rfl⟩ | ⟨d, rfl⟩
  case inr.inr.inr.inr.inr.inl =>
    rw [State.opFailure, if_neg (by omega), if_neg (by omega)]
  all_goals rfl

end Failures

/-! ### The obligation -/

/-- Settles O31: entering FAULT, the writes that wait, and the two failures of each claim. -/
theorem failedWritesAreRetriedOnce : Obligations.FailedWritesAreRetriedOnce := by
  refine ⟨fun s w hrun hroom => State.enterFault_room hrun hroom w, fun s l =>
    ⟨State.refuseWaiting_of_idle, fun o ho => ⟨State.refuseWaiting_of_write ho,
      fun op hcmd => ⟨fun ⟨old, new, hphase⟩ => State.refuseWaiting_of_verified ho hcmd hphase,
        fun hphase hroom hrun => ?_⟩⟩⟩, fun s g c a hp ha => ⟨?_, fun hfail =>
    ⟨exec_retry hp ha hfail, fun hsecond => ?_⟩⟩⟩
  · rw [State.refuseWaiting_of_annotation ho hcmd hphase, State.endAnnotation_room hrun hroom]
    rfl
  · rintro item rest r rfl hqueue hring hpart rfl
    exact exec_pointersFailed hp hqueue hring hpart
  rw [exec_writeFailed hp ha hfail hsecond]
  obtain ⟨_, _, hclaim, _⟩ := hp
  refine ⟨?_, ?_, ?_, ?_, ?_⟩
  · rintro item rest r n code rfl hqueue hring rfl hcode
    have harea : code = r.area := by rw [hcode]; cases r <;> rfl
    rw [State.writeFailed_queue hclaim hqueue, State.queueFailed_ring hring, harea,
      State.ringFailed, RingName.position_following]
    refine ⟨fun hpart => ?_, fun hpart => ⟨s.store.putRecord item, ?_,
      s.store.putRecord_ring hring⟩⟩
    · rw [if_pos hpart]
      rfl
    · rw [if_neg hpart]
      rfl
  · rintro i t rest rfl hqueue
    rw [State.writeFailed_queue hclaim hqueue]
    rfl
  · rintro (rfl | rfl) <;> rw [State.writeFailed, hclaim] <;> rfl
  · rintro op q old new rfl hann hphase
    rw [State.writeFailed, hclaim]
    simp only [State.rewritePosition, hann, Option.map_some, hphase]
    rfl
  · rintro l cmd rfl hc
    rw [State.writeFailed_op hclaim hc]
    refine ⟨fun hcmd => ?_, ?_, ?_, ?_⟩
    · rw [State.opFailure_area hcmd]
      rfl
    · rintro y i rfl
      rfl
    · rintro rfl hpart
      refine ⟨Config.retentionFaultArgument s.draw.1, ?_⟩
      rw [State.opFailure, if_pos hpart]
      rfl
    · rintro rfl hpart
      refine ⟨Config.eraseFailedImage s.draw.1 % 2, Nat.mod_lt _ Nat.two_pos, ?_⟩
      rw [State.opFailure, if_neg (by omega), if_pos hpart]
      rfl

end Sys2Proof.Machine
end

section
/-! The stage operations' writes that verify (R8 to R13, R148), and O32. -/

namespace Sys2Proof.Machine

/-! ### A link operation's write that verifies -/

section Verified

variable {s : State} {g : Grant} {l : Link}

/-- The effect of a link operation, its end and the boundary behind it; an erase has two writes before. -/
theorem exec_operationWritten {cmd : BusyCmd} (hp : s.programs g (.op l))
    (hc : s.opCmd l = some cmd) (herase : cmd.isErase = false) :
    exec (.writeAttemptComplete .verified) s =
      .next ((s.operationWritten g l cmd).granted none).passHeld.settle := by
  obtain ⟨hrun, hgrant, hclaim, hbegun⟩ := hp
  rw [exec_writeAttemptComplete hrun hgrant hbegun, State.attemptEnds, State.writeVerified, hclaim]
  simp only [State.opWritten, hc, herase, Bool.false_eq_true, false_and, if_false]
  rfl

/-- An event record that raises no count joins the end of a queue with room. -/
theorem State.note_room (h : s.roomFor 1) {kind : EventKind} (hstep : kind ≠ .timeStep)
    (hrestart : kind ≠ .restart) (time argument : Nat) :
    s.note kind time argument = s.queued [.event (.plain time kind argument)] :=
  State.writeEvent_room h (.plain time kind argument) hstep hrestart

/-- The synthesizer acquires again, and the second in progress is not locked from its start (R20, R25). -/
def State.unlocked (s : State) : State :=
  { s with scan := { s.scan with synth := .acquiring }, sec := { s.sec with lockHeld := false } }

/-! ### The stage -/

/-- A change of the stage that is recorded and flagged. -/
theorem State.putStage_noted (hrun : s.running = true) (hroom : s.roomFor 1) (stage : StageSet)
    {kind : EventKind} (hstep : kind ≠ .timeStep) (hrestart : kind ≠ .restart)
    (time argument : Nat) :
    ((s.putStage stage).note kind time argument).raiseAll flagStageChanged =
      { s.swapped with
        config := { s.config with stage := stage }
        recorder := { s.recorder with
          queue := s.recorder.queue ++ [EventRec.plain time kind argument].map .event }
        attention := s.attention.raiseAll 0x0010 } := by
  rw [State.note_room (s := s.putStage stage) hroom hstep hrestart]
  exact State.raiseAll_flagged (s := (s.putStage stage).queued _) hrun _

/-- A STAGE command on an EMPTY stage opens it, with its record and flag. -/
theorem State.staged_opens (hrun : s.running = true) (hroom : s.roomFor 1)
    (h : s.config.stage.state = .empty) (cmd : BusyCmd) : s.staged g l cmd =
      { s.swapped with
        config := { s.config with stage := s.config.stage.enter cmd }
        recorder := { s.recorder with
          queue := s.recorder.queue ++
            [EventRec.plain g.second .stageOpened (classCode l)].map .event }
        attention := s.attention.raiseAll 0x0010 } := by
  rw [State.staged]
  exact (if_pos h).trans (State.putStage_noted hrun hroom _ EventKind.noConfusion
    EventKind.noConfusion _ _)

/-- One on a stage already open only enters its entry. -/
theorem State.staged_enters (h : s.config.stage.state ≠ .empty) (cmd : BusyCmd) :
    s.staged g l cmd = s.putStage (s.config.stage.enter cmd) := if_neg h

end Verified

/-- What a stage operation leaves of the stage, and the record of it. -/
def State.stageChange (s : State) (g : Grant) (l : Link) (cmd : BusyCmd) (stage : StageSet)
    (events : List EventRec) : Prop :=
  ((∃ i e, cmd = .stageChannel i e ∧ stage = { s.config.stage with
        state := .opened, channels := stageEntry i e s.config.stage.channels }) ∨
      (∃ k e, cmd = .stageStack k e ∧ stage = { s.config.stage with
        state := .opened, stackTab := stageEntry k e s.config.stage.stackTab }) ∨
      (∃ d, cmd = .stageDevice d ∧ stage = { s.config.stage with
        state := .opened, device := some d }) ∨
      (cmd = .withdrawStage ∧ stage = .emptied) ∨ (cmd = .rejectStage ∧ stage = .emptied) ∨
      (cmd = .approve ∧ stage = { s.config.stage with state := .approved, approver := some l })) ∧
    ((cmd = .withdrawStage ∧ events = [.plain g.second .stageWithdrawn 0]) ∨
      (cmd = .rejectStage ∧
        events = [.plain g.second .stageRejected (stageCode s.config.stage.state)]) ∨
      (cmd = .approve ∧ events = [.plain g.second .stageApproved (classCode l)]) ∨
      (stage.state = .opened ∧ s.config.stage.state = .empty ∧
        events = [.plain g.second .stageOpened (classCode l)]) ∨
      (stage.state = .opened ∧ s.config.stage.state ≠ .empty ∧ events = []))

section StageEffects

variable {s : State} {g : Grant} {l : Link} {cmd : BusyCmd}

/-- A STAGE command's effect, whichever of the three it is. -/
theorem State.staged_eq (hrun : s.running = true) (hroom : s.roomFor 1) {events : List EventRec}
    (hevents : (s.config.stage.state = .empty ∧
        events = [.plain g.second .stageOpened (classCode l)]) ∨
      (s.config.stage.state ≠ .empty ∧ events = [])) :
    s.staged g l cmd =
      { s.swapped with
        config := { s.config with stage := s.config.stage.enter cmd }
        recorder := { s.recorder with queue := s.recorder.queue ++ events.map .event }
        attention := if events = [] then s.attention else s.attention.raiseAll 0x0010 } := by
  rcases hevents with ⟨hstage, rfl⟩ | ⟨hstage, rfl⟩
  · rw [State.staged_opens hrun hroom hstage]
    rfl
  · rw [State.staged_enters hstage, List.map_nil, List.append_nil, if_pos rfl]
    rfl

/-- A stage operation's effect and end. -/
theorem State.operationWritten_stage (hrun : s.running = true) (hroom : s.roomFor 1)
    (hmode : cmd ≠ .approve ∨ s.supply.mode ≠ .commissioning) {stage : StageSet}
    {events : List EventRec} (h : s.stageChange g l cmd stage events) :
    s.operationWritten g l cmd = State.endOp l .done none none []
      { s.swapped with
        config := { s.config with stage := stage }
        recorder := { s.recorder with queue := s.recorder.queue ++ events.map .event }
        attention := if events = [] then s.attention else s.attention.raiseAll 0x0010 } := by
  obtain ⟨hstage, hevents⟩ := h
  rcases hstage with ⟨i, e, rfl, rfl⟩ | ⟨k, e, rfl, rfl⟩ | ⟨d, rfl, rfl⟩ | ⟨rfl, rfl⟩ | ⟨rfl, rfl⟩ |
    ⟨rfl, rfl⟩ <;>
  simp only [StageSet.emptied, reduceCtorEq, false_and, true_and, false_or, or_false, ne_eq,
    not_true_eq_false] at hevents hmode
  · exact congrArg (State.endOp l .done none none []) (State.staged_eq (cmd := .stageChannel i e) hrun hroom hevents)
  · exact congrArg (State.endOp l .done none none []) (State.staged_eq (cmd := .stageStack k e) hrun hroom hevents)
  · exact congrArg (State.endOp l .done none none []) (State.staged_eq (cmd := .stageDevice d) hrun hroom hevents)
  · subst hevents
    exact congrArg (State.endOp l .done none none [])
      (State.putStage_noted hrun hroom _ EventKind.noConfusion EventKind.noConfusion _ _)
  · subst hevents
    exact congrArg (State.endOp l .done none none [])
      (State.putStage_noted hrun hroom _ EventKind.noConfusion EventKind.noConfusion _ _)
  · subst hevents
    rw [State.operationWritten, State.approved, if_neg hmode]
    exact congrArg (State.endOp l .done none none [])
      (State.putStage_noted hrun hroom _ EventKind.noConfusion EventKind.noConfusion _ _)

/-- An approval in COMMISSIONING up to the change of mains rejection (R13). -/
theorem State.approvedNow_noted (hrun : s.running = true) (hroom : s.roomFor 2) (new : Tables) :
    (((s.approveNow new).note .stageApproved g.second (classCode l)).note .configTransferred
      g.second g.second).raiseAll flagStageChanged =
      { s.swapped with
        config := { s.config with
          active := new, stage := .emptied
          changeOver := some (s.config.changeOver.getD s.config.active) }
        recorder := { s.recorder with queue := s.recorder.queue ++
          [.event (.plain g.second .stageApproved (classCode l)),
            .event (.plain g.second .configTransferred g.second)] }
        attention := s.attention.raiseAll 0x0010 } := by
  have hfirst : (s.approveNow new).roomFor 2 := hroom
  have hsecond : ((s.approveNow new).queued
      [.event (.plain g.second .stageApproved (classCode l))]).roomFor 1 :=
    (State.roomFor_queued _ _ _).2 hfirst
  rw [State.note_room (State.roomFor_le hfirst (by decide)) EventKind.noConfusion
    EventKind.noConfusion, State.note_room hsecond EventKind.noConfusion EventKind.noConfusion,
    State.queued_queued]
  exact State.raiseAll_flagged (s := (s.approveNow new).queued _) hrun _

/-- The unlocking of the synthesizer (R25) where the queue has room for its record. -/
theorem State.unlock_room (hrun : s.running = true) (hroom : s.roomFor 1) (cause : Nat) :
    s.unlock State.writeEvent cause = (s.unlocked.queued
      [.event (.plain s.time.counter .scanClockUnlocked cause)]).flagged flagAcquisition := by
  have hrecord := State.writeEvent_room (s := s.unlocked) hroom
    (.plain s.time.counter .scanClockUnlocked cause) EventKind.noConfusion EventKind.noConfusion
  rw [← State.raiseAll_flagged (s := s.unlocked.queued _) hrun, ← hrecord]
  rfl

/-- A change of mains rejection unlocks a LOCKED synthesizer, and does nothing else. -/
theorem State.mainsAfter_eq (write : EventRec → State → State) (old new : Tables) :
    s.mainsAfter write old new =
      if new.device.mains ≠ old.device.mains ∧ s.scan.synth = .locked then s.unlock write 2
      else s := by
  unfold State.mainsAfter State.mainsChanged
  by_cases hmains : old.device.mains = new.device.mains
  · simp [hmains]
  · cases hsynth : s.scan.synth <;> simp [hmains, Ne.symm hmains]

end StageEffects

/-- Settles O32: the effect of each stage operation, between the swap of the images and its end. -/
theorem stageWritesTakeEffect : Obligations.StageWritesTakeEffect := by
  refine ⟨?_, ?_⟩
  · rintro s u g l cmd stage events hp hc hroom hmode hstage hevents rfl
    have herase : cmd.isErase = false := by
      rcases hstage with ⟨_, _, rfl, _⟩ | ⟨_, _, rfl, _⟩ | ⟨_, rfl, _⟩ | ⟨rfl, _⟩ | ⟨rfl, _⟩ |
        ⟨rfl, _⟩ <;> rfl
    rw [exec_operationWritten hp hc herase,
      State.operationWritten_stage hp.1 hroom hmode ⟨hstage, hevents⟩]
  · rintro s u v g l new hp hc hmode hroom rfl hu hv
    have happrove := State.approvedNow_noted (g := g) (l := l) hp.1
      (State.roomFor_le hroom (by decide)) (merged s.config.active s.config.stage)
    rw [← hu] at happrove
    have hrunU : u.running = true := by
      rw [hu]
      exact hp.1
    have hroomU : u.roomFor 1 := by
      rw [hu]
      exact (s.roomFor_queued [_, _] 1).2 hroom
    have heffect : s.approved g l = v := by
      rw [State.approved, if_pos hmode, State.approvedAndTransferred]
      simp only [happrove]
      rw [State.mainsAfter_eq, hv, State.unlock_room hrunU hroomU]
      simp only [hu]
      rfl
    rw [exec_operationWritten hp hc rfl, State.operationWritten, heffect]

end Sys2Proof.Machine
end

section
/-! The writes of COMMIT COLLECTION, COMMIT REPORT, IN SERVICE, WITHDRAW and the recorder that verify (R15, R131,
R142, R147, R151, R152, R154), and O33. -/

namespace Sys2Proof.Machine

/-! ### The end of an operation -/

/-- An operation that is in flight ends with its outcome and its counts. -/
theorem State.endOp_port {s : State} {l : Link} {cmd : BusyCmd} (h : s.opCmd l = some cmd)
    (out : OpOutcome) (r : Option Reason) (i : Option Nat) (c : List Nat) :
    ((s.endOp l out r i c).port l).op = none ∧
      ((s.endOp l out r i c).port l).last.map OpResult.outcome = some out ∧
      ((s.endOp l out r i c).port l).last.map OpResult.counts = some c := by
  obtain ⟨o, ho, _⟩ := Option.map_eq_some_iff.1 h
  unfold State.endOp
  rw [ho]
  cases l <;> exact ⟨rfl, rfl, rfl⟩

/-! ### COMMIT COLLECTION -/

/-- A headroom that has come back lets its next fall raise the flag again (R136). -/
theorem Store.rearm_eq (st : Store) (r : RingName) : st.rearm r =
    st.setArmed r (st.armed r || decide (3072 ≤ (st.pointers r).headroom r)) := by
  have hlow : st.low r = !decide (3072 ≤ (st.pointers r).headroom r) := by
    rw [Store.low, ← decide_not, headroomMark]
    exact decide_eq_decide.2 Nat.not_le.symm
  rw [Store.rearm, hlow]
  cases decide (3072 ≤ (st.pointers r).headroom r) with
  | true => rw [Bool.or_true]; rfl
  | false => rw [Bool.or_false]; cases r <;> rfl

section Effects

variable {s : State} {g : Grant} {l : Link}

/-- A collection moves the ring's mark and swaps the images; the positions, the other rings and the rest of
the store stay (R147). -/
theorem State.collected_store (s : State) (l : Link) (r : RingName) (n : Nat) {st : Store}
    (hst : (s.collected l r n).store = st) :
    s.store.sameButRings st ∧ (∀ r' m, st.cell r' m = s.store.cell r' m) ∧
      st.intervalSpare = s.store.intervalSpare ∧
      st.pointers r = (s.store.pointers r).collect n ∧
      (∀ r', r' ≠ r → st.pointers r' = s.store.pointers r' ∧ st.armed r' = s.store.armed r') ∧
      st.armed r = (s.store.armed r || decide (3072 ≤ (st.pointers r).headroom r)) ∧
      st.area = s.store.areaSpare ∧ st.areaSpare = s.store.area := by
  rw [State.collected, State.endOp_store, Store.rearm_eq] at hst
  subst hst
  cases r <;>
  · refine ⟨⟨rfl, rfl, rfl, rfl, rfl, rfl⟩, fun r' m => by cases r' <;> rfl, rfl, rfl,
      fun r' h => ?_, rfl, rfl, rfl⟩
    cases r' <;> first | exact absurd rfl h | exact ⟨rfl, rfl⟩

/-! ### COMMIT REPORT -/

/-- A report that verifies: its live slot where it is still the year's, and its image (R131, R149). -/
theorem State.reported_eq {y i : Nat} {image old : TallySlot}
    (himage : s.store.tallySpare[i]? = some image) (hold : s.store.tally[i]? = some old) :
    s.reported l y (some i) = State.endOp l .done none none []
      { s.reportSlot y i with store := { s.store with
          tally := s.store.tally.set i image, tallySpare := s.store.tallySpare.set i old } } := by
  have hstore : (s.reportSlot y i).store = s.store := by
    unfold State.reportSlot
    split <;> rfl
  rw [State.reported]
  simp only
  rw [State.putImage, hstore, List.getD_eq_getElem?_getD, himage, Option.getD_some,
    List.getD_eq_getElem?_getD, hold, Option.getD_some]

/-- The live slot of a report whose slot is still the year's. -/
theorem State.reportSlot_of_named {y i : Nat} {x : TallySlot}
    (h : slotOfYear s.recorder.tally y = some i) (hx : s.recorder.tally[i]? = some x) :
    s.reportSlot y i = { s with recorder := { s.recorder with
      tally := s.recorder.tally.set i { x with state := .reported } } } := by
  rw [State.reportSlot, if_pos h, State.modSlot, List.modify_eq_set_getElem?, hx]
  rfl

/-! ### IN SERVICE -/

/-- IN SERVICE's effect where the queue has room for its record (R152). -/
theorem State.inServiceDone_room (hroom : s.roomFor 1) :
    s.inServiceDone g l = State.endOp l .done none none []
      { s.swapped with
        supply := { s.supply with mode := .enteringService }
        recorder := { s.recorder with queue := s.recorder.queue ++
          [.event (.plain g.second .inService s.startBoundary)] } } := by
  rw [State.inServiceDone, State.note_room (s := s.putMode .enteringService) hroom
    EventKind.noConfusion EventKind.noConfusion]
  rfl

/-! ### The recorder's writes -/

theorem exec_transferVerified (hp : s.programs g .transfer) :
    exec (.writeAttemptComplete .verified) s = .next (s.transferWritten.granted none).settle := by
  obtain ⟨hrun, hgrant, hclaim, hbegun⟩ := hp
  rw [exec_writeAttemptComplete hrun hgrant hbegun, State.attemptEnds, State.writeVerified, hclaim]
  rfl

theorem exec_protectionVerified (hp : s.programs g .protection) :
    exec (.writeAttemptComplete .verified) s = .next (s.swapped.granted none).settle := by
  obtain ⟨hrun, hgrant, hclaim, hbegun⟩ := hp
  rw [exec_writeAttemptComplete hrun hgrant hbegun, State.attemptEnds, State.writeVerified, hclaim]
  rfl

end Effects

/-- Settles O33: the effect of each write, between the swap of the images and the end of its operation. -/
theorem archiveWritesTakeEffect : Obligations.ArchiveWritesTakeEffect := by
  intro s u g l
  refine ⟨fun r n hp hc => ?_, fun y i image old hp hc himage hold => ⟨?_, ?_⟩, ?_, ?_, ?_,
    exec_protectionVerified⟩
  · obtain ⟨hsame, hcell, hspare, hptr, hothers, harmed, harea, hareaSpare⟩ :=
      s.collected_store l r n rfl
    obtain ⟨hop, hout, hcounts⟩ := State.endOp_port (s := State.swapArea
      { s with store := (s.store.setPointers r ((s.store.pointers r).collect n)).rearm r }) hc
      .done none none [((s.store.pointers r).collect n).collected]
    refine ⟨(s.collected l r n).granted none, exec_operationWritten hp hc rfl, ?_, ?_, ?_, hsame,
      hcell, hspare, hptr, hothers, harmed, harea, hareaSpare, ?_, hop, hout, hcounts⟩
    · exact ⟨State.endOp_time _ _ _ _ _ _, State.endOp_scan _ _ _ _ _ _,
        State.endOp_sec _ _ _ _ _ _, State.endOp_stackUnits _ _ _ _ _ _,
        State.endOp_pins _ _ _ _ _ _, State.endOp_norm _ _ _ _ _ _, State.endOp_supply _ _ _ _ _ _,
        State.endOp_freeDraws _ _ _ _ _ _, State.endOp_pending _ _ _ _ _ _⟩
    · exact State.endOp_recorder _ _ _ _ _ _
    · exact State.endOp_config _ _ _ _ _ _
    · exact congrArg (fun a : Arbiter => { a with grant := none }) (State.endOp_arbiter _ _ _ _ _ _)
  · rintro x hslot hx rfl
    rw [exec_operationWritten hp hc rfl, State.operationWritten, State.reported_eq himage hold,
      State.reportSlot_of_named hslot hx]
  · rintro hslot rfl
    rw [exec_operationWritten hp hc rfl, State.operationWritten, State.reported_eq himage hold,
      State.reportSlot, if_neg hslot]
  · rintro start hp hc hroom rfl rfl
    rw [exec_operationWritten hp hc rfl, State.operationWritten, State.inServiceDone_room hroom]
    rfl
  · rintro hp hc rfl
    rw [exec_operationWritten hp hc rfl]
    rfl
  · rintro hp rfl
    exact exec_transferVerified hp

end Sys2Proof.Machine
end

section
/-! The internal second edge (R35, R40, R46), and O50. -/

namespace Sys2Proof.Machine

/-! ### The change-over left to a boundary -/

section ChangeOver

variable {s t : State}

theorem State.finishChangeOver_of_none (h : s.config.changeOver = none) :
    s.finishChangeOver = s := by
  rw [State.finishChangeOver, h]

theorem State.finishChangeOver_of_some {old : Tables} (h : s.config.changeOver = some old) :
    s.finishChangeOver = { s.changeOver old s.config.active with
      config := { s.config with changeOver := none } } := by
  rw [State.finishChangeOver, h]
  rfl

/-- The change-over looks at, and changes, the scan unit, the stacks and the configuration unit alone. -/
theorem State.finishChangeOver_congr (hscan : t.scan = s.scan)
    (hunits : t.stackUnits = s.stackUnits) (hconfig : t.config = s.config) :
    t.finishChangeOver = { t with
      scan := s.finishChangeOver.scan
      stackUnits := s.finishChangeOver.stackUnits
      config := s.finishChangeOver.config } := by
  cases h : s.config.changeOver with
  | none =>
    rw [State.finishChangeOver_of_none h, State.finishChangeOver_of_none (by rw [hconfig, h]),
      ← hscan, ← hunits, ← hconfig]
  | some old =>
    rw [State.finishChangeOver_of_some h, State.finishChangeOver_of_some (by rw [hconfig, h])]
    simp only [State.changeOver, hscan, hunits, hconfig]

theorem State.finishChangeOver_eq (s : State) : s.finishChangeOver = { s with
    scan := s.finishChangeOver.scan
    stackUnits := s.finishChangeOver.stackUnits
    config := s.finishChangeOver.config } := State.finishChangeOver_congr rfl rfl rfl

theorem State.finishChangeOver_active (s : State) :
    s.finishChangeOver.config.active = s.config.active := by
  cases h : s.config.changeOver with
  | none => rw [State.finishChangeOver_of_none h]
  | some old => rw [State.finishChangeOver_of_some h]

theorem State.finishChangeOver_synth (s : State) :
    s.finishChangeOver.scan.synth = s.scan.synth := by
  cases h : s.config.changeOver with
  | none => rw [State.finishChangeOver_of_none h]
  | some old => rw [State.finishChangeOver_of_some h]; rfl

/-- All that a change-over can be: new slots, new stacks, and nothing left to change over; the lock and the
active tables stay. -/
theorem State.finishChangeOver_shape (s : State) : ∃ (scan : ScanUnit) (units : List StackUnit)
    (config : ConfigUnit), scan.synth = s.scan.synth ∧ config.active = s.config.active ∧
      ∀ t : State, t.scan = s.scan → t.stackUnits = s.stackUnits → t.config = s.config →
        t.finishChangeOver = { t with scan := scan, stackUnits := units, config := config } :=
  ⟨s.finishChangeOver.scan, s.finishChangeOver.stackUnits, s.finishChangeOver.config,
    s.finishChangeOver_synth, s.finishChangeOver_active,
    fun _ hscan hunits hconfig => State.finishChangeOver_congr hscan hunits hconfig⟩

end ChangeOver

/-! ### The boundary of an edge -/

/-- Where the mode hands no second to the blocks the edge only counts (R46). -/
theorem exec_edge_idle {s : State} (hmax : s.time.counter < 4294967295)
    (h : s.running = false ∨ s.supply.mode = .suspended) :
    exec .internalSecondEdge s = .next s.countSecond.idleSecond := by
  have hidle : s.processing = false := by
    rcases h with h | h
    · rw [State.processing, h, Bool.false_and]
    · rw [State.processing, h, Mode.processes, Bool.and_false]
  have hcounts : ¬ maxSecond ≤ s.time.counter := Nat.not_le.mpr hmax
  show Host.Outcome.next _ = _
  rw [if_neg hcounts, hidle, if_neg Bool.false_ne_true]

theorem exec_edge_processing {s : State} (hmax : s.time.counter < 4294967295)
    (hrun : s.running = true) (hmode : s.supply.mode ≠ .suspended) :
    exec .internalSecondEdge s =
      .next (s.passHeld.dropUnpaired.countSecond.meet .edge).runWork.settle := by
  have hprocessing : s.processing = true := by
    rw [State.processing, hrun, Bool.true_and]
    cases hm : s.supply.mode <;> first | rfl | exact absurd hm hmode
  have hcounts : ¬ maxSecond ≤ s.time.counter := Nat.not_le.mpr hmax
  show Host.Outcome.next _ = _
  rw [if_neg hcounts, if_pos hprocessing]
  rfl

/-- In a running part the edge takes its slew step (R40). -/
theorem State.countSecond_running {s : State} (hrun : s.running = true) :
    s.countSecond = { s with time := { s.time with
      counter := s.time.counter + 1, phase := 0
      pendingSlew := s.time.pendingSlew - max (-10) (min 10 s.time.pendingSlew)
      slewStep := max (-10) (min 10 s.time.pendingSlew) } } := by
  have hpower := State.power_of_running hrun
  rw [State.countSecond, if_pos (by rw [State.disciplined, hpower])]
  rfl

theorem State.countSecond_of {s : State} {d : Int}
    (hd : d = if s.supply.power = .running ∨ s.supply.power = .snapshotting then
      max (-10) (min 10 s.time.pendingSlew) else 0) :
    s.countSecond = { s with time := { s.time with
      counter := s.time.counter + 1, phase := 0
      pendingSlew := s.time.pendingSlew - d, slewStep := d } } := by
  have hstep : (if s.disciplined then slewStep s.time.pendingSlew else 0) = d := by
    rw [hd, State.disciplined]
    cases s.supply.power <;> rfl
  rw [State.countSecond, hstep]

/-- Away from an interval boundary nothing is run. -/
theorem State.runBoundaries_between {s : State} (h : s.time.counter % 1800 ≠ 0) :
    s.runBoundaries = s := by
  have hday : s.time.counter % 86400 ≠ 0 := by omega
  rw [State.runBoundaries, State.boundaries]
  simp only [if_neg h, if_neg hday, ite_self]

/-- What an edge away from an interval boundary brings about. -/
theorem State.cross_edge_between {s : State} (h : s.time.counter % 1800 ≠ 0) :
    s.cross .edge = s.finishChangeOver.reachWithdrawalPoint.forgetRecovered := by
  have htime : s.finishChangeOver.reachWithdrawalPoint.time = s.time := by
    rw [State.reachWithdrawalPoint_time, State.finishChangeOver_eq]
  rw [State.cross, State.runBoundaries_between (by rw [htime]; exact h)]

/-- There no transfer is made meanwhile. -/
theorem State.meetMeanwhile_between {s : State} {b : HeldBoundary} (h : s.time.counter % 1800 ≠ 0) :
    s.meetMeanwhile b = s.finishChangeOver := by
  refine State.meetMeanwhile_of_other ?_
  have htime : s.finishChangeOver.time = s.time := by rw [State.finishChangeOver_eq]
  simp [State.transferMeanwhile, htime, h]

/-- Settles O50: the edge counts, and its boundary is met or held. -/
theorem secondsAdvanceTheClock : Obligations.SecondsAdvanceTheClock := by
  rintro s p b t d clock norm sec hp hb hnorm hsec
  refine ⟨fun hmax => congrArg _ (if_pos hmax), fun hmax hidle hd => ?_,
    fun hmax hrun hmode hd hclock hbetween => ?_, ?_, ?_⟩
  · rw [exec_edge_idle hmax hidle, State.countSecond_of hd]
    rfl
  · have hrunp : p.dropUnpaired.running = true := by
      rw [State.running, State.dropUnpaired_supply, hp, State.passHeld_power]
      exact hrun
    have hcount := State.countSecond_running hrunp
    obtain ⟨scan, units, config, hsynth, hactive, hover⟩ := p.finishChangeOver_shape
    have hx := hover p.dropUnpaired.countSecond rfl rfl rfl
    rw [hover p rfl rfl rfl] at hb
    rw [exec_edge_processing hmax hrun hmode, ← hp]
    refine ⟨fun hfree ht => ?_, fun hwait ht => ?_⟩
    · rw [State.meet_of_free (s := p.dropUnpaired.countSecond) hfree,
        State.cross_edge_between hbetween, hx, hcount, ht, hb, hnorm, hsec, hclock, hd, ← hsynth,
        ← hactive]
      rfl
    · rw [State.meet, if_pos (show p.dropUnpaired.countSecond.boundaryWaits = true from hwait),
        State.meetMeanwhile_between hbetween, hx, hcount, ht, hb, hnorm, hsec, hclock, hd, ← hsynth,
        ← hactive]
      rfl
  · rintro h
    rw [hb, State.finishChangeOver_of_none h]
  · rintro old h
    rw [hb, State.finishChangeOver_of_some h]

end Sys2Proof.Machine
end

section
/-! The transfer of an APPROVED stage (R15, R17) and the boundaries of an edge (R46, R153), and O51. -/

namespace Sys2Proof.Machine

/-! ### Flags raised together -/

theorem Attention.raise_raise (a : Attention) (f g : FlagSet) :
    (a.raise f).raise g = a.raise (f ||| g) := by
  simp only [Attention.raise, BitVec.not_or, BitVec.or_assoc, BitVec.and_assoc]

theorem AttentionUnit.raiseAll_raiseAll (u : AttentionUnit) (f g : FlagSet) :
    (u.raiseAll f).raiseAll g = u.raiseAll (f ||| g) := by
  simp only [AttentionUnit.raiseAll, Attention.raise_raise]

/-! ### The transfer -/

section Transfer

variable {s : State} {old new : Tables}

theorem State.claimTransfer_eq (s : State) : s.claimTransfer = { s with
    arbiter := { s.arbiter with
      recClaims := if .transfer ∈ s.arbiter.recClaims then s.arbiter.recClaims
        else s.arbiter.recClaims ++ [.transfer] } } := by
  unfold State.claimTransfer
  simp only [List.contains_iff_mem]
  split <;> rfl

/-- The closes that a lowered window calls for (R17). -/
def loweredWork (old new : Tables) (today : Nat) : List RecorderWork :=
  if new.device.window < old.device.window then [.occasion {
    cause := .scheduled, joins := none, gov := new, closed := 0
    range := if new.device.window + 1 ≤ today then .through (today - new.device.window - 1)
      else .nothing }] else []

/-- Pieces of work behind those that wait. -/
def State.working (xs : List RecorderWork) (s : State) : State :=
  { s with recorder := { s.recorder with work := s.recorder.work ++ xs } }

theorem State.windowLowered_eq (s : State) (old new : Tables) (today : Nat) :
    s.windowLowered old new today = s.working (loweredWork old new today) := by
  unfold State.windowLowered loweredWork
  split
  · rfl
  · rw [State.working, List.append_nil]

/-- The part with new tables in force, before its records. -/
def State.adopted (old new : Tables) (s : State) : State :=
  ((s.adopt new).changeOver old new).claimTransfer

theorem State.transferBy_of_none (h : s.config.stage.state ≠ .approved ∨ s.store.fault = true)
    (write : EventRec → State → State) (boundary today : Nat) :
    s.transferBy write boundary today = s := by
  refine if_neg ?_
  rintro ⟨happroved, hready⟩
  rcases h with h | h
  · exact h happroved
  · simp [hready] at h

/-- A transfer, its records left to `write`. -/
theorem State.transferBy_of_approved (happroved : s.config.stage.state = .approved)
    (hready : s.store.fault = false) (hold : old = s.config.active)
    (hnew : new = merged old s.config.stage) (write : EventRec → State → State)
    (boundary today : Nat) : s.transferBy write boundary today =
      ((((write (.plain boundary .configTransferred boundary) (s.adopted old new)).raiseAll
        flagStageChanged).mainsAfter write old new).working (loweredWork old new today)) := by
  subst hnew hold
  rw [State.transferBy, if_pos ⟨happroved, hready⟩, ← State.windowLowered_eq]
  rfl

theorem State.mainsAfter_keeps {write : EventRec → State → State}
    (h : ¬ (old.device.mains ≠ new.device.mains ∧ s.scan.synth = .locked)) :
    s.mainsAfter write old new = s := by
  rw [State.mainsAfter_eq, if_neg (fun k => h ⟨k.1.symm, k.2⟩)]

theorem State.mainsAfter_unlocks {write : EventRec → State → State}
    (h : old.device.mains ≠ new.device.mains ∧ s.scan.synth = .locked) :
    s.mainsAfter write old new = s.unlock write 2 := by
  rw [State.mainsAfter_eq, if_pos ⟨h.1.symm, h.2⟩]

/-- A transfer at a boundary, where the queue has room for its records. -/
theorem State.transferAt_of_approved (hrun : s.running = true)
    (happroved : s.config.stage.state = .approved) (hready : s.store.fault = false)
    (hroom : s.roomFor 2) (hold : old = s.config.active) (hnew : new = merged old s.config.stage)
    {unlocks : Bool}
    (hunlocks : unlocks = true ↔ old.device.mains ≠ new.device.mains ∧ s.scan.synth = .locked)
    (boundary today : Nat) : s.transferAt boundary today = { s.changeOver old new with
      config := { s.config with active := new, stage := .emptied, transferPending := true }
      arbiter := { s.arbiter with
        recClaims := if .transfer ∈ s.arbiter.recClaims then s.arbiter.recClaims
          else s.arbiter.recClaims ++ [.transfer] }
      scan := { (s.changeOver old new).scan with
        synth := if unlocks then .acquiring else s.scan.synth }
      sec := { s.sec with lockHeld := s.sec.lockHeld && !unlocks }
      recorder := { s.recorder with
        queue := s.recorder.queue ++ [.event (.plain boundary .configTransferred boundary)] ++
          (if unlocks then [.event (.plain s.time.counter .scanClockUnlocked 2)] else [])
        work := s.recorder.work ++ loweredWork old new today }
      attention := s.attention.raiseAll (if unlocks then 0x0090 else 0x0010) } := by
  have hbase : s.adopted old new = { s.changeOver old new with
      config := { s.config with active := new, stage := .emptied, transferPending := true }
      arbiter := { s.arbiter with
        recClaims := if .transfer ∈ s.arbiter.recClaims then s.arbiter.recClaims
          else s.arbiter.recClaims ++ [.transfer] } } := State.claimTransfer_eq _
  have hroomBase : (s.adopted old new).roomFor 2 := by rw [hbase]; exact hroom
  have hrunBase : (s.adopted old new).running = true := by rw [hbase]; exact hrun
  have hsynth : (s.adopted old new).scan.synth = s.scan.synth := by rw [hbase]; rfl
  rw [State.transferAt, State.transferBy_of_approved happroved hready hold hnew,
    State.writeEvent_room (State.roomFor_le hroomBase (by decide)) _ EventKind.noConfusion
      EventKind.noConfusion,
    State.raiseAll_flagged (s := (s.adopted old new).queued _) hrunBase]
  cases unlocks with
  | false =>
    have hkeep : ¬ (old.device.mains ≠ new.device.mains ∧
        (s.adopted old new).scan.synth = .locked) :=
      fun h => Bool.false_ne_true (hunlocks.2 ⟨h.1, hsynth ▸ h.2⟩)
    rw [State.mainsAfter_keeps (s := ((s.adopted old new).queued _).flagged _) hkeep, hbase]
    simp only [Bool.not_false, Bool.and_true, Bool.false_eq_true, if_false, List.append_nil]
    rfl
  | true =>
    obtain ⟨hmains, hlocked⟩ := hunlocks.1 rfl
    have hroomNext : ((s.adopted old new).queued
        [.event (.plain boundary .configTransferred boundary)]).roomFor 1 :=
      (State.roomFor_queued _ _ _).2 hroomBase
    rw [State.mainsAfter_unlocks (s := ((s.adopted old new).queued _).flagged _)
        ⟨hmains, hsynth.trans hlocked⟩,
      State.unlock_room (s := ((s.adopted old new).queued _).flagged _) hrunBase hroomNext, hbase]
    simp only [Bool.not_true, Bool.and_false, if_true, List.append_assoc, State.flagged,
      State.unlocked, State.queued, State.working, AttentionUnit.raiseAll_raiseAll]
    rfl

end Transfer

/-! ### The interval boundary -/

section IntervalBoundary

variable {s c : State}

theorem State.intervalBoundary_of_set (h : s.supply.mode = .commissioning ∨ s.supply.mode = .suspended) :
    s.intervalBoundary = s := by
  rcases h with h | h <;> rw [State.intervalBoundary, h]

theorem State.intervalBoundary_of_withdrawn (h : s.supply.mode = .withdrawn) :
    s.intervalBoundary = s.transferAt s.time.counter (dayOf s.time.counter) := by
  rw [State.intervalBoundary, h]

theorem State.intervalBoundary_of_recording (h : s.supply.mode = .recording)
    (hc : s.transferAt s.time.counter (dayOf s.time.counter) = c) :
    s.intervalBoundary = c.openSet (.opened s.time.counter c.config.active false false) := by
  rw [State.intervalBoundary, h, ← hc]

theorem State.intervalBoundary_of_entering (h : s.supply.mode = .enteringService)
    (hc : s.transferAt s.time.counter (dayOf s.time.counter) = c) :
    s.intervalBoundary = (c.enterRecording.openSet
      (.opened s.time.counter c.config.active false false)).joinDay (dayOf s.time.counter) := by
  rw [State.intervalBoundary, h, ← hc]
  rfl

end IntervalBoundary

/-! ### The boundaries of an edge -/

section Edge

variable {s : State} {time day : Nat}

/-- The boundaries that recovery has run are not run again (R160). -/
theorem State.runBoundaries_of_run (h : s.supply.recoveredTo = some s.time.counter) :
    s.runBoundaries = s :=
  if_pos (decide_eq_true h)

theorem State.runBoundaries_of_not_run (h : s.supply.recoveredTo ≠ some s.time.counter) :
    s.runBoundaries = s.boundaries :=
  if_neg (by simpa [State.boundariesRun] using h)

/-- The boundaries of a second, with the state `mid` that its interval boundary leaves. -/
theorem State.boundaries_of_mid {mid : State} (htime : s.time.counter = time)
    (hmid : mid = if time % 1800 = 0 then s.intervalBoundary else s) : s.boundaries =
      if time % 86400 = 0 then
        if s.supply.mode = .recording then mid.dayBoundary mid.config.active (dayOf time)
        else if isFirstOfYear (dayOf time) then mid.clearYear (yearOfDay (dayOf time)) else mid
      else mid := by
  rw [State.boundaries, htime, hmid]

/-- A day boundary calls for its closes, and on 1 January starts the year counters again. -/
theorem State.dayBoundary_eq {years : List StackUnit} (gov : Tables)
    (hyears : years = if isFirstOfYear day = true then s.stackUnits.map fun v =>
      { v with yearCounter := 0, yearMark := false, counterYear := yearOfDay day }
      else s.stackUnits) :
    s.dayBoundary gov day = { s with
      stackUnits := years
      recorder := { s.recorder with work := s.recorder.work ++ [.occasion {
        cause := .scheduled, joins := some day, gov := gov, closed := 0
        range := if gov.device.window + 1 ≤ day then .through (day - gov.device.window - 1)
          else .nothing }] } } := by
  rw [State.dayBoundary, hyears]
  split <;> rfl

/-- What the edge onto a boundary brings about (R46). -/
theorem State.cross_edge_eq {b mid u : State} {years : List StackUnit}
    (htime : time = s.time.counter) (hday : day = time / 86400)
    (hb : b = { s.finishChangeOver with recorder := { s.recorder with
      withdrawal := s.recorder.withdrawal.map fun w =>
        { w with point := some (w.point.getD time) } } })
    (hmid : mid =
      if time % 1800 = 0 ∧ s.supply.recoveredTo ≠ some time then b.intervalBoundary else b)
    (hyears : years = if isFirstOfYear day = true then mid.stackUnits.map fun v =>
      { v with yearCounter := 0, yearMark := false, counterYear := yearOfDay day }
      else mid.stackUnits)
    (hnone : time % 86400 ≠ 0 ∨ s.supply.recoveredTo = some time → u = mid)
    (hrecording : time % 86400 = 0 → s.supply.recoveredTo ≠ some time →
      s.supply.mode = .recording → u = mid.dayBoundary mid.config.active day)
    (hother : time % 86400 = 0 → s.supply.recoveredTo ≠ some time →
      s.supply.mode ≠ .recording → u = { mid with stackUnits := years }) :
    s.cross .edge = { u with supply := { u.supply with recoveredTo := none } } := by
  obtain ⟨scan, units, config, -, -, hover⟩ := s.finishChangeOver_shape
  have hx := hover s rfl rfl rfl
  have hbase : s.finishChangeOver.reachWithdrawalPoint = b := by
    rw [hb, hx, htime]
    rfl
  have hbtime : b.time.counter = time := by rw [hb, hx, htime]
  have hbsupply : b.supply = s.supply := by rw [hb, hx]
  suffices hrun : b.runBoundaries = u by
    rw [State.cross, hbase, hrun]
    rfl
  by_cases hrecovered : s.supply.recoveredTo = some time
  · rw [State.runBoundaries_of_run (by rw [hbsupply, hbtime, hrecovered]), hnone (.inr hrecovered),
      hmid, if_neg (fun h => h.2 hrecovered)]
  · have hmid' : mid = if time % 1800 = 0 then b.intervalBoundary else b := by
      simpa only [ne_eq, hrecovered, not_false_eq_true, and_true] using hmid
    rw [State.runBoundaries_of_not_run (by rw [hbsupply, hbtime]; exact hrecovered),
      State.boundaries_of_mid hbtime hmid', hbsupply]
    by_cases hmidnight : time % 86400 = 0
    · rw [if_pos hmidnight]
      by_cases hmode : s.supply.mode = .recording
      · rw [if_pos hmode, hrecording hmidnight hrecovered hmode, hday]
        rfl
      · rw [if_neg hmode, hother hmidnight hrecovered hmode, hyears, hday]
        show (if isFirstOfYear (time / 86400) = true then mid.clearYear _ else mid) = _
        split <;> rfl
    · rw [if_neg hmidnight, hnone (.inl hmidnight)]

end Edge

/-! ### What a boundary leaves of the clock -/

section Clock

variable (s : State)

theorem State.unlock_time {write : EventRec → State → State}
    (hwrite : ∀ e t, (write e t).time = t.time) (cause : Nat) :
    (s.unlock write cause).time = s.time := by
  rw [State.unlock, State.raiseAll_time, hwrite]

theorem State.mainsAfter_time {write : EventRec → State → State}
    (hwrite : ∀ e t, (write e t).time = t.time) (old new : Tables) :
    (s.mainsAfter write old new).time = s.time := by
  rw [State.mainsAfter_eq]
  split
  · exact s.unlock_time hwrite 2
  · rfl

theorem State.transferBy_time {write : EventRec → State → State}
    (hwrite : ∀ e t, (write e t).time = t.time) (boundary today : Nat) :
    (s.transferBy write boundary today).time = s.time := by
  by_cases h : s.config.stage.state = .approved ∧ s.store.fault = false
  · rw [State.transferBy_of_approved h.1 h.2 rfl rfl, State.working, State.mainsAfter_time _ hwrite,
      State.raiseAll_time, hwrite, State.adopted, State.claimTransfer_eq]
    rfl
  · rw [State.transferBy, if_neg h]

theorem State.transferAt_time (boundary today : Nat) :
    (s.transferAt boundary today).time = s.time :=
  s.transferBy_time (fun e t => t.writeEvent_time e) boundary today

theorem State.intervalBoundary_time : s.intervalBoundary.time = s.time := by
  cases hmode : s.supply.mode with
  | commissioning => rw [State.intervalBoundary_of_set (.inl hmode)]
  | suspended => rw [State.intervalBoundary_of_set (.inr hmode)]
  | withdrawn => rw [State.intervalBoundary_of_withdrawn hmode, State.transferAt_time]
  | recording =>
    rw [State.intervalBoundary_of_recording hmode rfl, State.openSet_time, State.transferAt_time]
  | enteringService =>
    rw [State.intervalBoundary_of_entering hmode rfl, State.joinDay_time, State.openSet_time,
      State.enterRecording, State.transferAt_time]

theorem State.dayBoundary_time (gov : Tables) (day : Nat) :
    (s.dayBoundary gov day).time = s.time := by
  rw [State.dayBoundary_eq gov rfl]

theorem State.boundaries_time : s.boundaries.time = s.time := by
  have hmid : (if s.time.counter % 1800 = 0 then s.intervalBoundary else s).time = s.time := by
    split
    · exact s.intervalBoundary_time
    · rfl
  rw [State.boundaries_of_mid rfl rfl]
  split
  · split
    · rw [State.dayBoundary_time, hmid]
    · split
      · rw [State.clearYear, hmid]
      · exact hmid
  · exact hmid

theorem State.finishChangeOver_time : s.finishChangeOver.time = s.time := by
  rw [State.finishChangeOver_eq]

theorem State.cross_edge_time : (s.cross .edge).time = s.time := by
  have hbefore : s.finishChangeOver.reachWithdrawalPoint.time = s.time := s.finishChangeOver_time
  rw [State.cross, State.forgetRecovered_time, State.runBoundaries]
  split
  · exact hbefore
  · rw [State.boundaries_time, hbefore]

theorem State.meetMeanwhile_time (b : HeldBoundary) : (s.meetMeanwhile b).time = s.time := by
  rw [State.meetMeanwhile]
  split
  · rw [State.transferAt_time, State.finishChangeOver_time]
  · exact s.finishChangeOver_time

/-- A second that begins at the counter's own edge. -/
theorem State.beginSecond_of_phase (h : s.time.phase = 0) : s.beginSecond = { s with
    scan := { s.scan with accs := List.replicate 32 .empty, latches := 0 }
    sec := {
      processed := true, mode := s.supply.mode, cfg := s.config.active
      lockHeld := decide (s.scan.synth = .locked), nextSlot := 0, slotFloor := 0
      sampleFormed := false, sampled := false, held := none, checkWaits := none
      sampleWaits := none, before := .nothing } } := by
  rw [State.beginSecond, h]

end Clock

/-! ### An edge that is held -/

/-- What of an edge that waits is made at once (R15, R50). -/
theorem State.meetMeanwhile_edge {t c : State} {next : Nat} (hc : c = t.finishChangeOver)
    (hnext : t.time.counter = next) : t.meetMeanwhile .edge =
      if next % 1800 = 0 ∧ t.supply.recoveredTo ≠ some next ∧ t.committed = some .withdraw ∧
        t.supply.mode = .recording then c.transferAt next (next / 86400) else c := by
  obtain ⟨scan, units, config, -, -, hover⟩ := t.finishChangeOver_shape
  have hx := hover t rfl rfl rfl
  have htime : t.finishChangeOver.time.counter = next := by rw [hx, hnext]
  have hsupply : t.finishChangeOver.supply = t.supply := by rw [hx]
  have hcommitted : t.finishChangeOver.committed = t.committed := by rw [hx]; rfl
  have hcond : t.finishChangeOver.transferMeanwhile .edge = true ↔
      next % 1800 = 0 ∧ t.supply.recoveredTo ≠ some next ∧ t.committed = some .withdraw ∧
        t.supply.mode = .recording := by
    simp only [State.transferMeanwhile, State.boundariesRun, htime, hsupply, hcommitted]
    simp [and_assoc]
  rw [State.meetMeanwhile, htime, hc]
  simp only [hcond]
  rfl

/-! ### The blocks' change-over, and the checks that waited -/

theorem slotsAfter_getElem? (old new : Tables) (slots : List (Option ValueSlot)) (c : Nat) :
    (slotsAfter old new slots)[c]? = (slots[c]?).map fun v =>
      if (new.channel c).source = .link ∧ ((old.channel c).source ≠ .link ∨
        (new.channel c).inUse = true ∧ (old.channel c).inUse = false) then none else v := by
  rw [slotsAfter, List.getElem?_mapIdx]
  simp [becomesLink]

theorem stacksAfter_getElem? (old new : Tables) (units : List StackUnit) (k : Nat) :
    (units.mapIdx fun k u => u.changeOver (old.stack k) (new.stack k))[k]? =
      (units[k]?).map fun u : StackUnit => { u with
        slot := if (old.stack k).source = .lines ∧ (new.stack k).source = .link then
          some { levels := u.raw, arrival := none } else u.slot
        wasInUse := u.wasInUse && (new.stack k).inUse
        wasLink := u.wasLink && decide ((new.stack k).source = .link) } := by
  rw [List.getElem?_mapIdx]
  rfl

section Held

variable {s : State}

theorem State.passHeld_of_some {h : HeldBoundary} (hheld : s.sec.held = some h) :
    s.passHeld = (s.cross h).governSecond.makeCheck.makeSample.runWork := by
  rw [State.passHeld, hheld]

theorem State.makeCheck_of_none (h : s.sec.checkWaits = none) : s.makeCheck = s := by
  rw [State.makeCheck, h]

theorem slotsOfCheck_eq (kept now : List (Option ValueSlot)) : slotsOfCheck kept now =
    now.mapIdx fun i v => if v = none then none else kept.getD i v := by
  simp only [slotsOfCheck, Option.isNone_iff_eq_none]

theorem State.makeCheck_of_some {c : WaitingCheck} (h : s.sec.checkWaits = some c) :
    s.makeCheck = State.withInputs s.scan.latches s.scan.slots
      (State.endSelfCheck c.lock c.readingA c.readingB { s with
        sec := { s.sec with checkWaits := none }
        scan := { s.scan with
          latches := c.latches
          slots := s.scan.slots.mapIdx fun i v =>
            if v = none then none else c.slots.getD i v } }) := by
  rw [← slotsOfCheck_eq, State.makeCheck, h]
  rfl

theorem State.makeSample_of_none (h : s.sec.sampleWaits = none) : s.makeSample = s := by
  rw [State.makeSample, h]

theorem State.linkSlots_getElem? (s : State) (k : Nat) :
    s.linkSlots[k]? = (s.stackUnits[k]?).map StackUnit.slot := by
  rw [State.linkSlots, List.getElem?_map]

/-- The stacks on the link signal slots of an earlier moment. -/
theorem State.slotsOfSample_units (s : State) (kept : List (Option LinkSlot)) :
    (s.stackUnits.mapIdx fun k u =>
      { u with slot := (slotsOfSample kept s.linkSlots).getD k u.slot }) =
    s.stackUnits.mapIdx fun k u => { u with
      slot := if (u.slot.bind LinkSlot.arrival).isNone = true then u.slot
        else kept.getD k u.slot } := by
  refine List.ext_getElem? fun k => ?_
  rw [List.getElem?_mapIdx, List.getElem?_mapIdx]
  cases hk : s.stackUnits[k]? with
  | none => rfl
  | some u =>
    simp only [Option.map_some, List.getD_eq_getElem?_getD, slotsOfSample, List.getElem?_mapIdx,
      State.linkSlots_getElem?, hk, Option.getD_some]

theorem State.makeSample_of_some {kept : List (Option LinkSlot)}
    (h : s.sec.sampleWaits = some kept) :
    s.makeSample = State.withLinkSlots (s.stackUnits.map StackUnit.slot) (State.sampleStacks { s with
      sec := { s.sec with sampleWaits := none }
      stackUnits := s.stackUnits.mapIdx fun k u => { u with
        slot := if (u.slot.bind LinkSlot.arrival).isNone = true then u.slot
          else kept.getD k u.slot } }) := by
  rw [← State.slotsOfSample_units, State.makeSample, h]
  rfl

end Held

/-- Settles O51: the transfer at a boundary, the boundaries by mode, and what waited for a held edge. -/
theorem intervalBoundariesOpenIntervals : Obligations.IntervalBoundariesOpenIntervals := by
  refine ⟨fun s fresh hrun hfresh => ⟨State.intervalBoundary_of_set, ?_⟩, fun s old new =>
    ⟨_, _, rfl, slotsAfter_getElem? old new _, stacksAfter_getElem? old new _⟩, ?_, ?_,
    fun s u => ⟨State.passHeld_of_none, ?_, State.makeCheck_of_none, ?_, State.makeSample_of_none, ?_⟩,
    fun _ _ _ => rfl, fun _ _ => rfl⟩
  · rintro old new c unlocks hold hnone happroved
    subst hfresh
    have hrunning : s.running = true := decide_eq_true hrun
    have htransfer : s.transferAt s.time.counter (s.time.counter / 86400) = c ∧
        c.supply = s.supply ∧ c.config.active = new := by
      by_cases h : s.config.stage.state = .approved ∧ s.store.fault = false
      · obtain ⟨hroom, hnew, hunlocks, hc⟩ := happroved h.1 h.2
        have hat := State.transferAt_of_approved hrunning h.1 h.2 hroom hold hnew hunlocks
          s.time.counter (s.time.counter / 86400)
        rw [hat, hc]
        exact ⟨rfl, rfl, rfl⟩
      · obtain ⟨hnew, hc⟩ := hnone (by
          rw [not_and_or, Bool.not_eq_false] at h
          exact h)
        rw [hc, hnew, hold]
        exact ⟨State.transferBy_of_none (by rw [not_and_or, Bool.not_eq_false] at h; exact h) _ _ _,
          rfl, rfl⟩
    obtain ⟨hc, hsupply, hactive⟩ := htransfer
    refine ⟨hc, fun hmode => (State.intervalBoundary_of_withdrawn hmode).trans hc, fun hmode => ?_,
      fun hmode => ?_⟩
    · rw [State.intervalBoundary_of_recording hmode hc, hactive]
      rfl
    · rw [State.intervalBoundary_of_entering hmode hc, hactive, ← hsupply]
      rfl
  · rintro s b mid u time day years htime hday hb hmid hyears hnone hmidnight
    refine State.cross_edge_eq htime hday hb hmid hyears hnone (fun h0 hrec hmode => ?_)
      (fun h0 hrec => (hmidnight h0 hrec).2)
    rw [(hmidnight h0 hrec).1 hmode, State.dayBoundary_eq _ hyears]
  · rintro s p t c u next held hrun hmode hmax hp hnext ht hc hfree hwait
    have hrunp : p.dropUnpaired.running = true := by
      rw [State.running, State.dropUnpaired_supply, hp, State.passHeld_power]
      exact hrun
    have hcount : p.dropUnpaired.countSecond = t := by
      rw [State.countSecond_running hrunp, ht, hnext]
      rfl
    rw [exec_edge_processing hmax hrun hmode, ← hp, hcount]
    cases hwaits : p.boundaryWaits with
    | false =>
      obtain ⟨hu, hheld⟩ := hfree hwaits
      have hphase : (t.cross .edge).time.phase = 0 := by rw [State.cross_edge_time, ht]
      rw [State.meet_of_free (s := t) (by rw [ht]; exact hwaits), State.beginSecond_of_phase _ hphase,
        hu, hheld]
    | true =>
      obtain ⟨hheld, hu⟩ := hwait hwaits
      have hmeet : t.meetMeanwhile .edge = u := by
        rw [State.meetMeanwhile_edge hc (next := next) (by rw [ht]), hu, ht]
        rfl
      have hphase : u.time.phase = 0 := by
        rw [← hmeet, State.meetMeanwhile_time, ht]
      rw [State.meet, if_pos (by rw [ht]; exact hwaits), hmeet, State.beginSecond_of_phase _ hphase,
        hheld]
      rfl
  · rintro h hheld hu
    rw [State.passHeld_of_some hheld, ← hu]
    rfl
  · exact fun c => State.makeCheck_of_some
  · exact fun kept => State.makeSample_of_some

end Sys2Proof.Machine
end

section
/-! What the recorder's waiting work leaves as it was (R44, R97, R107, R112, R155): it changes the recorder, flags,
ports, waiting claims and the closed-through date alone. -/

namespace Sys2Proof.Machine

theorem State.annotation_congr {s t : State} (h : (t.port .operator).op = (s.port .operator).op) :
    t.annotation = s.annotation := by
  rw [State.annotation, State.opCmd, h]
  rfl

theorem State.annotation_of_idle {s : State} (h : (s.port .operator).op = none) :
    s.annotation = none := by
  rw [State.annotation, State.opCmd, h]
  rfl

/-- A state that differs by the recorder's own doings: its holdings, flags, the ports, the waiting claims of the
recorder, and the closed-through date. Its queue has grown, held flags stay, and the operator's operation stays or has
ended. -/
def State.Recorded (s t : State) : Prop :=
  ∃ (recorder : Recorder) (attention : AttentionUnit) (links : Links) (claims : List RecClaim)
    (closed : Option Nat),
    (∃ more, recorder.queue = s.recorder.queue ++ more) ∧
    (∃ f, attention.held = s.attention.held ||| f) ∧
    (links.operator.op = s.links.operator.op ∨ links.operator.op = none) ∧
    t = { s with
      recorder := recorder, attention := attention, links := links
      arbiter := { s.arbiter with recClaims := claims }
      store := { s.store with closedThrough := closed } }

namespace State.Recorded

variable {s t u : State}

theorem of_fields {recorder : Recorder} {attention : AttentionUnit} {links : Links}
    {claims : List RecClaim} {closed : Option Nat} {more : List QueueItem} {f : FlagSet}
    (hqueue : recorder.queue = s.recorder.queue ++ more)
    (hheld : attention.held = s.attention.held ||| f)
    (hop : links.operator.op = s.links.operator.op ∨ links.operator.op = none) :
    s.Recorded { s with
      recorder := recorder, attention := attention, links := links
      arbiter := { s.arbiter with recClaims := claims }
      store := { s.store with closedThrough := closed } } :=
  ⟨_, _, _, _, _, ⟨_, hqueue⟩, ⟨_, hheld⟩, hop, rfl⟩

/-- New claims, and a new closed-through date. -/
theorem of_claims (claims : List RecClaim) (closed : Option Nat) : s.Recorded { s with
    arbiter := { s.arbiter with recClaims := claims }
    store := { s.store with closedThrough := closed } } :=
  of_fields (List.append_nil _).symm (BitVec.or_zero).symm (.inl rfl)

/-- New flags, the held ones among them staying. -/
theorem of_attention {attention : AttentionUnit} {f : FlagSet}
    (h : attention.held = s.attention.held ||| f) : s.Recorded { s with attention := attention } :=
  of_fields (List.append_nil _).symm h (.inl rfl)

/-- New holdings of the recorder, its queue growing. -/
theorem of_recorder {recorder : Recorder} {more : List QueueItem}
    (h : recorder.queue = s.recorder.queue ++ more) : s.Recorded { s with recorder := recorder } :=
  of_fields h (BitVec.or_zero).symm (.inl rfl)

theorem refl (s : State) : s.Recorded s := of_recorder (List.append_nil _).symm

theorem trans (h : s.Recorded t) (k : t.Recorded u) : s.Recorded u := by
  obtain ⟨_, _, _, _, _, ⟨_, hq⟩, ⟨_, hf⟩, ho, rfl⟩ := h
  obtain ⟨_, _, _, _, _, ⟨_, hq'⟩, ⟨_, hf'⟩, ho', rfl⟩ := k
  refine of_fields ((hq'.trans (congrArg (· ++ _) hq)).trans (List.append_assoc _ _ _))
    ((hf'.trans (congrArg (· ||| _) hf)).trans (BitVec.or_assoc _ _ _)) ?_
  rcases ho' with ho' | ho'
  · exact ho.imp ho'.trans ho'.trans
  · exact .inr ho'

theorem ite {p : Prop} [Decidable p] (h : s.Recorded t) (k : t.Recorded u) :
    s.Recorded (if p then u else t) := by
  split
  · exact h.trans k
  · exact h

theorem foldl {α : Type} {f : State → α → State} (h : ∀ (s : State) a, s.Recorded (f s a)) (xs : List α) :
    ∀ s : State, s.Recorded (xs.foldl f s) := by
  induction xs with
  | nil => exact refl
  | cons a xs ih => exact fun s => (h s a).trans (ih _)

/-- All that a state so reached keeps. -/
theorem fields (h : s.Recorded t) : t.time = s.time ∧ t.scan = s.scan ∧ t.norm = s.norm ∧
    t.stackUnits = s.stackUnits ∧ t.config = s.config ∧ t.supply = s.supply ∧
    t.freeDraws = s.freeDraws ∧ t.arbiter.grant = s.arbiter.grant ∧
    t.store = { s.store with closedThrough := t.store.closedThrough } := by
  obtain ⟨_, _, _, _, _, -, -, -, rfl⟩ := h
  exact ⟨rfl, rfl, rfl, rfl, rfl, rfl, rfl, rfl, rfl⟩

theorem time (h : s.Recorded t) : t.time = s.time := h.fields.1
theorem scan (h : s.Recorded t) : t.scan = s.scan := h.fields.2.1
theorem stackUnits (h : s.Recorded t) : t.stackUnits = s.stackUnits := h.fields.2.2.2.1
theorem config (h : s.Recorded t) : t.config = s.config := h.fields.2.2.2.2.1
theorem supply (h : s.Recorded t) : t.supply = s.supply := h.fields.2.2.2.2.2.1
theorem grant (h : s.Recorded t) : t.arbiter.grant = s.arbiter.grant :=
  h.fields.2.2.2.2.2.2.2.1
theorem store (h : s.Recorded t) :
    t.store = { s.store with closedThrough := t.store.closedThrough } :=
  h.fields.2.2.2.2.2.2.2.2

theorem queue (h : s.Recorded t) : ∃ more, t.recorder.queue = s.recorder.queue ++ more := by
  obtain ⟨_, _, _, _, _, hqueue, -, -, rfl⟩ := h
  exact hqueue

theorem held (h : s.Recorded t) : ∃ f, t.attention.held = s.attention.held ||| f := by
  obtain ⟨_, _, _, _, _, -, hheld, -, rfl⟩ := h
  exact hheld

/-- No annotation begins. -/
theorem annotation (h : s.Recorded t) (hnone : s.annotation = none) : t.annotation = none := by
  obtain ⟨_, _, links, _, _, -, -, hop, rfl⟩ := h
  rcases hop with hop | hop
  · exact Eq.trans (State.annotation_congr (by exact hop)) hnone
  · exact State.annotation_of_idle (by exact hop)

end State.Recorded

/-- A state that differs by records, flags, the tally and claims alone: the recorder's sets, days and work stay. -/
structure State.Tallied (s t : State) : Prop where
  recorded : s.Recorded t
  accSets : t.recorder.accSets = s.recorder.accSets
  table : t.recorder.table = s.recorder.table
  work : t.recorder.work = s.recorder.work
  withdrawal : t.recorder.withdrawal = s.recorder.withdrawal

namespace State.Tallied

variable {s t u : State}

theorem refl (s : State) : s.Tallied s := ⟨.refl s, rfl, rfl, rfl, rfl⟩

theorem trans (h : s.Tallied t) (k : t.Tallied u) : s.Tallied u :=
  ⟨h.recorded.trans k.recorded, k.accSets.trans h.accSets, k.table.trans h.table,
    k.work.trans h.work, k.withdrawal.trans h.withdrawal⟩

theorem ite {p : Prop} [Decidable p] (h : s.Tallied t) (k : t.Tallied u) :
    s.Tallied (if p then u else t) := by
  split
  · exact h.trans k
  · exact h

theorem foldl {α : Type} {f : State → α → State} (h : ∀ (s : State) a, s.Tallied (f s a))
    (xs : List α) : ∀ s : State, s.Tallied (xs.foldl f s) := by
  induction xs with
  | nil => exact refl
  | cons a xs ih => exact fun s => (h s a).trans (ih _)

end State.Tallied

section Operations

variable (s : State)

/-! ### Records and flags -/

/-- A change of the recorder's holdings that leaves the queue. -/
theorem State.recorder_recorded {r : Recorder} (h : r.queue = s.recorder.queue := by rfl) :
    s.Recorded { s with recorder := r } :=
  .of_recorder (h.trans (List.append_nil _).symm)

theorem State.raiseAll_tallied (f : FlagSet) : s.Tallied (s.raiseAll f) := by
  rw [State.raiseAll]
  split
  · exact ⟨.of_attention rfl, rfl, rfl, rfl, rfl⟩
  · exact ⟨.of_attention (BitVec.or_zero).symm, rfl, rfl, rfl, rfl⟩

theorem State.offer_tallied (x : QueueItem) : s.Tallied (s.offer x) := by
  rw [State.offer]
  split
  · exact ⟨.of_recorder rfl, rfl, rfl, rfl, rfl⟩
  · exact State.Tallied.trans (t := { s with recorder := { s.recorder with
      notStored := saturate16 s.recorder.notStored 1 } })
      ⟨s.recorder_recorded, rfl, rfl, rfl, rfl⟩ (State.raiseAll_tallied _ _)

theorem State.writeEvent_tallied (e : EventRec) : s.Tallied (s.writeEvent e) := by
  rw [State.writeEvent]
  split
  · exact (s.offer_tallied _).trans ⟨State.recorder_recorded _, rfl, rfl, rfl, rfl⟩
  · exact (s.offer_tallied _).trans ⟨State.recorder_recorded _, rfl, rfl, rfl, rfl⟩
  · exact s.offer_tallied _

theorem State.note_tallied (k : EventKind) (t a : Nat) : s.Tallied (s.note k t a) :=
  s.writeEvent_tallied _

theorem State.endOp_tallied (l : Link) (o : OpOutcome) (r : Option Reason) (i : Option Nat)
    (c : List Nat) : s.Tallied (s.endOp l o r i c) := by
  rw [State.endOp]
  split
  · exact .refl s
  · cases l with
    | plant =>
      exact ⟨.of_fields (List.append_nil _).symm (BitVec.or_zero).symm (.inl rfl), rfl, rfl, rfl,
        rfl⟩
    | operator =>
      exact ⟨.of_fields (List.append_nil _).symm (BitVec.or_zero).symm (.inr rfl), rfl, rfl, rfl,
        rfl⟩
    | inspection =>
      exact ⟨.of_fields (List.append_nil _).symm (BitVec.or_zero).symm (.inl rfl), rfl, rfl, rfl,
        rfl⟩

/-! ### The tally (R127 to R130) -/

theorem State.modSlot_tallied (i : Nat) (f : TallySlot → TallySlot) : s.Tallied (s.modSlot i f) :=
  ⟨s.recorder_recorded, rfl, rfl, rfl, rfl⟩

theorem State.takeSlot_tallied (year i : Nat) : s.Tallied (s.takeSlot year i) := by
  rw [State.takeSlot]
  split
  · exact s.modSlot_tallied _ _
  · exact ((s.note_tallied _ _ _).trans (State.raiseAll_tallied _ _)).trans
      (State.modSlot_tallied _ _ _)

theorem State.selectSlot_tallied (year : Nat) : s.Tallied (s.selectSlot year).1 := by
  rw [State.selectSlot]
  split
  · exact .refl s
  · exact s.takeSlot_tallied _ _

theorem State.closeRecord_tallied (i : Nat) (r : DayRec) : s.Tallied (s.closeRecord i r) :=
  (s.offer_tallied _).trans (State.modSlot_tallied _ _ _)

theorem State.finalSlot_tallied (i : Nat) : s.Tallied (s.finalSlot i) :=
  (s.modSlot_tallied _ _).trans (State.raiseAll_tallied _ _)

theorem State.checkpoint_tallied (i : Nat) : s.Tallied (s.checkpoint i) := s.offer_tallied _

theorem State.bringToAccount_tallied (i : Nat) : s.Tallied (s.bringToAccount i) :=
  ⟨s.recorder_recorded, rfl, rfl, rfl, rfl⟩

theorem State.closeRecords_tallied (i : Nat) (rs : List DayRec) :
    s.Tallied (s.closeRecords i rs) :=
  ((State.Tallied.foldl (fun t r => t.closeRecord_tallied i r) rs s).trans
    (State.modSlot_tallied _ _ _)).trans (State.bringToAccount_tallied _ _)

theorem State.closeIntoTally_tallied (day : Nat) (rs : List DayRec) :
    s.Tallied (s.closeIntoTally day rs) := by
  rw [State.closeIntoTally]
  split
  · split
    · split
      · exact (s.finalSlot_tallied _).trans (State.checkpoint_tallied _ _)
      · exact .refl s
    · exact .refl s
  · have h := (s.selectSlot_tallied (yearOfDay day)).trans
      (State.closeRecords_tallied _ (s.selectSlot (yearOfDay day)).2 rs)
    simp only
    split
    · exact (h.trans (State.finalSlot_tallied _ _)).trans (State.checkpoint_tallied _ _)
    · exact h.trans (State.checkpoint_tallied _ _)

theorem State.claimProtection_tallied : s.Tallied s.claimProtection := by
  rw [State.claimProtection]
  split
  · exact .refl s
  · exact ⟨.of_claims _ _, rfl, rfl, rfl, rfl⟩

theorem State.closeThrough_tallied (day : Nat) : s.Tallied (s.closeThrough day) :=
  State.Tallied.trans (t := { s with store := { s.store with closedThrough := some day } })
    ⟨.of_claims _ _, rfl, rfl, rfl, rfl⟩ (State.claimProtection_tallied _)

theorem State.finalIfOpen_tallied (i : Nat) : s.Tallied (s.finalIfOpen i) := by
  rw [State.finalIfOpen]
  split
  · exact s.finalSlot_tallied i
  · exact .refl s

theorem State.checkpointAll_tallied (slots : List Nat) : s.Tallied (s.checkpointAll slots) :=
  State.Tallied.foldl State.checkpoint_tallied slots s

theorem State.finalSlots_tallied : s.Tallied s.finalSlots :=
  (State.Tallied.foldl State.finalIfOpen_tallied _ s).trans (State.checkpointAll_tallied _ _)

/-! ### Closing intervals -/

theorem State.handOn_recorded (r : IntervalRec) : s.Recorded (s.handOn r) :=
  (s.offer_tallied _).recorded.trans (State.recorder_recorded _)

theorem State.handOnAll_recorded (rs : List IntervalRec) : s.Recorded (s.handOnAll rs) :=
  ((State.Recorded.foldl State.handOn_recorded rs s).trans
    (State.raiseAll_tallied _ _).recorded).ite (State.raiseAll_tallied _ _).recorded

theorem State.closeSet_recorded (start : Nat) : s.Recorded (s.closeSet start) := by
  rw [State.closeSet]
  split
  · exact .refl s
  · exact s.recorder_recorded.trans (State.handOnAll_recorded _ _)

theorem State.closeSetFlagged_recorded (start : Nat) (t i : Bool) :
    s.Recorded (s.closeSetFlagged start t i) :=
  s.recorder_recorded.trans (State.closeSet_recorded _ _)

/-! ### Closing days -/

/-- What a day's close leaves of the recorder: the day is gone from the table, the sets and the work stay (R112). -/
structure State.DayClosed (s : State) (p : ProvDay) (t : State) : Prop where
  recorded : s.Recorded t
  accSets : t.recorder.accSets = s.recorder.accSets
  table : t.recorder.table = s.recorder.table.filter fun q => decide (q.day ≠ p.day)
  work : t.recorder.work = s.recorder.work
  withdrawal : t.recorder.withdrawal = s.recorder.withdrawal

theorem State.closeDay_closed (gov : Tables) (c : CloseCause) (p : ProvDay) :
    s.DayClosed p (s.closeDay gov c p) := by
  have hclosed := (s.closeIntoTally_tallied p.day (p.records gov c)).trans
    (State.closeThrough_tallied _ p.day)
  have hflags : (((s.closeIntoTally p.day (p.records gov c)).closeThrough p.day).forgetDay
      p.day).Tallied (s.closeDay gov c p) :=
    (State.raiseAll_tallied _ _).ite (State.raiseAll_tallied _ _)
  refine ⟨(hclosed.recorded.trans (State.recorder_recorded _)).trans hflags.recorded,
    hflags.accSets.trans hclosed.accSets, hflags.table.trans ?_, hflags.work.trans hclosed.work,
    hflags.withdrawal.trans hclosed.withdrawal⟩
  rw [State.forgetDay, hclosed.table]

/-! ### Occasions -/

theorem State.finishWithdrawal_recorded (point count : Nat) :
    s.Recorded (s.finishWithdrawal point count) := by
  have h : s.Recorded (s.note .withdrawn point count).finalSlots.releaseWithdrawal :=
    ((s.note_tallied _ _ _).trans (State.finalSlots_tallied _)).recorded.trans
      (State.recorder_recorded _)
  rw [State.finishWithdrawal]
  split
  · exact h.trans (State.endOp_tallied _ _ _ _ _ _).recorded
  · exact h

theorem State.joinDay_recorded (day : Nat) : s.Recorded (s.joinDay day) := s.recorder_recorded

/-- The day of an occasion joins the table, where it has one (R106). -/
def State.joinFor (o : Occasion) (s : State) : State :=
  match o.joins with
  | none => s
  | some day => s.joinDay day

theorem State.joinFor_recorded (o : Occasion) : s.Recorded (s.joinFor o) := by
  rw [State.joinFor]
  split
  · exact .refl s
  · exact s.joinDay_recorded _

variable {s}

theorem State.endOccasion_scheduled {o : Occasion} (h : o.cause = .scheduled) :
    s.endOccasion o = s.joinFor o := by
  rw [State.endOccasion, h]
  rfl

theorem State.endOccasion_commanded {o : Occasion} (h : o.cause = .commanded) :
    s.endOccasion o = (s.joinFor o).endOp .inspection .done none none [o.closed] := by
  rw [State.endOccasion, h]
  rfl

/-- The last close of a withdrawal that is no longer under way ends nothing. -/
theorem State.endOccasion_withdrawn {o : Occasion} (h : o.cause = .withdrawal)
    (hnone : (s.joinFor o).recorder.withdrawal = none) : s.endOccasion o = s.joinFor o := by
  rw [State.endOccasion, h]
  show (match (s.joinFor o).recorder.withdrawal with
    | none => s.joinFor o
    | some w => (s.joinFor o).finishWithdrawal (w.point.getD (s.joinFor o).time.counter)
      w.closed) = _
  rw [hnone]

theorem State.endOccasion_withdrawal {o : Occasion} {w : Withdrawal} (h : o.cause = .withdrawal)
    (hsome : (s.joinFor o).recorder.withdrawal = some w) : s.endOccasion o =
      (s.joinFor o).finishWithdrawal (w.point.getD (s.joinFor o).time.counter) w.closed := by
  rw [State.endOccasion, h]
  show (match (s.joinFor o).recorder.withdrawal with
    | none => s.joinFor o
    | some w => (s.joinFor o).finishWithdrawal (w.point.getD (s.joinFor o).time.counter)
      w.closed) = _
  rw [hsome]

variable (s)

theorem State.endOccasion_recorded (o : Occasion) : s.Recorded (s.endOccasion o) := by
  have h := s.joinFor_recorded o
  cases hcause : o.cause with
  | scheduled => rw [State.endOccasion_scheduled hcause]; exact h
  | commanded =>
    rw [State.endOccasion_commanded hcause]
    exact h.trans (State.endOp_tallied _ _ _ _ _ _).recorded
  | withdrawal =>
    cases hw : (s.joinFor o).recorder.withdrawal with
    | none => rw [State.endOccasion_withdrawn hcause hw]; exact h
    | some w =>
      rw [State.endOccasion_withdrawal hcause hw]
      exact h.trans (State.finishWithdrawal_recorded _ _ _)

/-! ### Waiting work -/

theorem State.workAmong_recorded {s t : State} (ws : List RecorderWork) : ∀ kept,
    s.workAmong kept ws = some t → s.Recorded t := by
  induction ws with
  | nil => exact fun kept h => nomatch h
  | cons w rest ih =>
    intro kept h
    have hbase : s.Recorded { s with recorder := { s.recorder with work := kept ++ rest } } :=
      s.recorder_recorded
    cases w with
    | closeStepped start =>
      rw [State.workAmong] at h
      simp only [ite_eq_iff, reduceCtorEq, and_false, false_or, Option.some.injEq] at h
      exact h.2 ▸ hbase.trans (State.closeSetFlagged_recorded _ _ _ _)
    | record e =>
      rw [State.workAmong] at h
      cases h
      exact hbase.trans (State.writeEvent_tallied _ _).recorded
    | occasion o =>
      rw [State.workAmong] at h
      simp only at h
      split at h
      · cases h
        exact hbase.trans (State.endOccasion_recorded _ _)
      · exact ih _ h

theorem State.runWorkFor_recorded (n : Nat) : ∀ s : State, s.Recorded (State.runWorkFor n s) := by
  induction n with
  | zero => exact .refl
  | succ n ih =>
    intro s
    rw [State.runWorkFor]
    split
    · exact .refl s
    · next t h => exact (State.workAmong_recorded _ _ h).trans (ih t)

theorem State.runWork_recorded : s.Recorded s.runWork := State.runWorkFor_recorded _ s

theorem State.countWithdrawn_recorded (c : CloseCause) : s.Recorded (s.countWithdrawn c) := by
  cases c
  · exact .refl s
  · exact .refl s
  · exact s.recorder_recorded

theorem State.closeNextDay_recorded (o : Occasion) (p : ProvDay) (rest : List RecorderWork) :
    s.Recorded (s.closeNextDay o p rest) :=
  ((s.closeDay_closed _ _ _).recorded.trans (State.countWithdrawn_recorded _ _)).trans
    (State.recorder_recorded _)

theorem State.drainCloses_recorded (n : Nat) : ∀ s : State, s.Recorded (State.drainCloses n s) := by
  induction n with
  | zero => exact State.runWork_recorded
  | succ n ih =>
    intro s
    rw [State.drainCloses]
    split
    · exact s.runWork_recorded
    · exact (s.runWork_recorded.trans (State.closeNextDay_recorded _ _ _ _)).trans (ih _)

end Operations

end Sys2Proof.Machine
end

section
/-! Forward steps out of the open interval (R43 to R45), and O54. -/

namespace Sys2Proof.Machine

/-! ### The crossed day boundaries -/

/-- The year counters of the stacks after the boundaries of `n` days from a day on (R58). -/
def crossedUnits (day n : Nat) (units : List StackUnit) : List StackUnit :=
  (List.range n).foldl (fun us i => if isFirstOfYear (day + i) = true then us.map fun v =>
    { v with yearCounter := 0, yearMark := false, counterYear := yearOfDay (day + i) } else us) units

/-- The scheduled closes of `n` day boundaries from a day on (R107). -/
def crossedWork (gov : Tables) (day n : Nat) : List RecorderWork :=
  (List.range n).map fun i => .occasion {
    cause := .scheduled, joins := some (day + i), gov := gov, closed := 0
    range := if gov.device.window + 1 ≤ day + i then .through (day + i - gov.device.window - 1)
      else .nothing }

theorem crossedUnits_succ (day n : Nat) (units : List StackUnit) :
    crossedUnits day (n + 1) units = crossedUnits (day + 1) n
      (if isFirstOfYear day = true then units.map fun v =>
        { v with yearCounter := 0, yearMark := false, counterYear := yearOfDay day } else units) := by
  simp only [crossedUnits, List.range_succ_eq_map, List.foldl_cons, List.foldl_map, Nat.add_zero,
    Nat.succ_eq_add_one, Nat.add_assoc, Nat.add_comm 1]

theorem crossedWork_succ (gov : Tables) (day n : Nat) : crossedWork gov day (n + 1) =
    .occasion {
      cause := .scheduled, joins := some day, gov := gov, closed := 0
      range := if gov.device.window + 1 ≤ day then .through (day - gov.device.window - 1)
        else .nothing } :: crossedWork gov (day + 1) n := by
  simp only [crossedWork, List.range_succ_eq_map, List.map_cons, List.map_map, Function.comp_def,
    Nat.add_zero, Nat.succ_eq_add_one, Nat.add_assoc, Nat.add_comm 1]

theorem State.dayBoundaries_eq (gov : Tables) (n : Nat) : ∀ (day : Nat) (s : State),
    s.dayBoundaries gov day n = { s with
      stackUnits := crossedUnits day n s.stackUnits
      recorder := { s.recorder with work := s.recorder.work ++ crossedWork gov day n } } := by
  induction n with
  | zero =>
    intro day s
    simp only [State.dayBoundaries, crossedUnits, crossedWork, List.range_zero, List.foldl_nil,
      List.map_nil, List.append_nil]
  | succ n ih =>
    intro day s
    rw [State.dayBoundaries, ih, State.dayBoundary_eq gov rfl, crossedUnits_succ, crossedWork_succ]
    simp only [List.append_assoc, List.cons_append, List.nil_append]

/-! ### The transfer of a step -/

/-- A scan clock that leaves LOCKED, its record waiting its turn (R25). -/
theorem State.unlock_later {s : State} (hrun : s.running = true) (cause : Nat) :
    s.unlock State.recordLater cause = (s.unlocked.working
      [.record (.plain s.time.counter .scanClockUnlocked cause)]).flagged flagAcquisition :=
  State.raiseAll_flagged (s := s.unlocked.working _) hrun flagAcquisition

/-- A transfer whose records wait behind those of the step (R45). -/
theorem State.transferLater_of_approved {s : State} {old new : Tables} (hrun : s.running = true)
    (happroved : s.config.stage.state = .approved) (hready : s.store.fault = false)
    (hold : old = s.config.active) (hnew : new = merged old s.config.stage) {unlocks : Bool}
    (hunlocks : unlocks = true ↔ old.device.mains ≠ new.device.mains ∧ s.scan.synth = .locked)
    (boundary today : Nat) :
    s.transferBy State.recordLater boundary today = { s.changeOver old new with
      config := { s.config with active := new, stage := .emptied, transferPending := true }
      arbiter := { s.arbiter with
        recClaims := if .transfer ∈ s.arbiter.recClaims then s.arbiter.recClaims
          else s.arbiter.recClaims ++ [.transfer] }
      scan := { (s.changeOver old new).scan with
        synth := if unlocks then .acquiring else s.scan.synth }
      sec := { s.sec with lockHeld := s.sec.lockHeld && !unlocks }
      recorder := { s.recorder with
        work := s.recorder.work ++ [.record (.plain boundary .configTransferred boundary)] ++
          (if unlocks then [.record (.plain s.time.counter .scanClockUnlocked 2)] else []) ++
          loweredWork old new today }
      attention := s.attention.raiseAll (if unlocks then 0x0090 else 0x0010) } := by
  have hbase : s.adopted old new = { s.changeOver old new with
      config := { s.config with active := new, stage := .emptied, transferPending := true }
      arbiter := { s.arbiter with
        recClaims := if .transfer ∈ s.arbiter.recClaims then s.arbiter.recClaims
          else s.arbiter.recClaims ++ [.transfer] } } := State.claimTransfer_eq _
  have hsynth : (s.adopted old new).scan.synth = s.scan.synth := by rw [hbase]; rfl
  have hlater : ∀ e (t : State), State.recordLater e t = t.working [.record e] := fun _ _ => rfl
  have hrunBase : (s.adopted old new).running = true := by rw [hbase]; exact hrun
  rw [State.transferBy_of_approved happroved hready hold hnew, hlater,
    State.raiseAll_flagged (s := (s.adopted old new).working _) hrunBase]
  cases unlocks with
  | false =>
    have hkeep : ¬ (old.device.mains ≠ new.device.mains ∧
        (s.adopted old new).scan.synth = .locked) :=
      fun h => Bool.false_ne_true (hunlocks.2 ⟨h.1, hsynth ▸ h.2⟩)
    rw [State.mainsAfter_keeps (s := ((s.adopted old new).working _).flagged _) hkeep, hbase]
    simp only [Bool.not_false, Bool.and_true, Bool.false_eq_true, if_false, List.append_nil]
    rfl
  | true =>
    obtain ⟨hmains, hlocked⟩ := hunlocks.1 rfl
    rw [State.mainsAfter_unlocks (s := ((s.adopted old new).working _).flagged _)
        ⟨hmains, hsynth.trans hlocked⟩,
      State.unlock_later (s := ((s.adopted old new).working _).flagged _) hrunBase, hbase]
    simp only [Bool.not_true, Bool.and_false, if_true, List.append_assoc, State.flagged,
      State.unlocked, State.working, AttentionUnit.raiseAll_raiseAll]
    rfl

/-! ### Flags on the accumulators of a closing set (R94, R95) -/

/-- An accumulator flagged. -/
def Accumulator.flagged (truncated interrupted : Bool) (x : Accumulator) : Accumulator :=
  { x with truncated := x.truncated || truncated, interrupted := x.interrupted || interrupted }

/-- A set whose accumulators are flagged. -/
def AccSet.flagged (truncated interrupted : Bool) (a : AccSet) : AccSet :=
  { a with accs := a.accs.map (Accumulator.flagged truncated interrupted) }

section Flags

variable (start : Nat) (truncated interrupted : Bool) (sets : List AccSet)

theorem markSet_eq : markSet start truncated interrupted sets =
    sets.map fun a => if a.start = start then a.flagged truncated interrupted else a := rfl

/-- The flags do not enter the average of the flow. -/
theorem AccSet.flowAverage_flagged (a : AccSet) (stack : Nat) :
    (a.flagged truncated interrupted).flowAverage stack = a.flowAverage stack := by
  simp only [AccSet.flowAverage, AccSet.flagged, List.find?_map, Function.comp_def,
    Accumulator.flagged, Option.bind_map]
  rfl

theorem AccSet.record_flagged (a : AccSet) (x : Accumulator) :
    (a.flagged truncated interrupted).record x = a.record x := by
  have hload : (a.flagged truncated interrupted).load x = a.load x := by
    simp only [AccSet.load, AccSet.flowAverage_flagged]
    rfl
  simp only [AccSet.record, hload]
  rfl

@[simp] theorem AccSet.flagged_start (a : AccSet) :
    (a.flagged truncated interrupted).start = a.start := rfl

theorem find?_markSet : (markSet start truncated interrupted sets).find?
      (fun a => decide (a.start = start)) =
    (sets.find? fun a => decide (a.start = start)).map (AccSet.flagged truncated interrupted) := by
  induction sets with
  | nil => rfl
  | cons a rest ih =>
    rw [markSet_eq, List.map_cons, ← markSet_eq]
    by_cases h : a.start = start
    · simp [h]
    · simp [h, ih]

theorem filter_markSet : (markSet start truncated interrupted sets).filter
      (fun a => decide (a.start ≠ start)) =
    sets.filter fun a => decide (a.start ≠ start) := by
  induction sets with
  | nil => rfl
  | cons a rest ih =>
    rw [markSet_eq, List.map_cons, ← markSet_eq]
    by_cases h : a.start = start
    · simpa [List.filter_cons, h] using ih
    · simpa [List.filter_cons, h] using ih

end Flags

/-! ### Handing on (R97) -/

/-- A table to which a record has contributed, its day having joined (R101, R106). -/
def contributed (table : List ProvDay) (r : IntervalRec) : List ProvDay :=
  modEntry (dayOf r.start) r.channel (DayEntry.contribute r .queued)
    (Machine.joinDay (dayOf r.start) table)

/-- Records handed on where the queue has room for them. -/
def State.handedOn (records : List IntervalRec) (s : State) : State :=
  { s with recorder := { s.recorder with
      queue := s.recorder.queue ++ records.map .interval
      table := records.foldl contributed s.recorder.table } }

/-- The flags of a close (R97). -/
def closeFlags (records : List IntervalRec) : FlagSet :=
  if records.any IntervalRec.exceeded then flagIntervalClosed ||| flagExceedance
  else flagIntervalClosed

section HandOn

variable {s : State} {records : List IntervalRec}

theorem State.raiseAll_raiseAll (s : State) (f g : FlagSet) :
    (s.raiseAll f).raiseAll g = s.raiseAll (f ||| g) := by
  by_cases h : s.supply.power = .starting
  · simp only [State.raiseAll, if_pos h, BitVec.or_assoc]
  · simp only [State.raiseAll, if_neg h, AttentionUnit.raiseAll_raiseAll]

theorem State.handOn_room (h : s.roomFor 1) (r : IntervalRec) : s.handOn r = s.handedOn [r] := by
  have hopen : s.queueOpen = true := decide_eq_true (by
    unfold State.roomFor at h
    unfold queueCapacity
    omega)
  rw [State.handOn, State.offer_room h, hopen]
  rfl

theorem State.foldl_handOn_room (records : List IntervalRec) : ∀ s : State,
    s.roomFor records.length → records.foldl State.handOn s = s.handedOn records := by
  induction records with
  | nil =>
    intro s _
    rw [State.handedOn, List.map_nil, List.append_nil]
    rfl
  | cons r rest ih =>
    intro s h
    have hroom : (s.handedOn [r]).roomFor rest.length := by
      simp only [State.roomFor, State.handedOn, List.length_append, List.length_map,
        List.length_cons, List.length_nil] at h ⊢
      omega
    rw [List.foldl_cons, State.handOn_room (State.roomFor_le h (by simp)), ih _ hroom]
    simp only [State.handedOn, List.map_cons, List.map_nil, List.foldl_cons, List.foldl_nil,
      List.append_assoc, List.cons_append, List.nil_append]

theorem State.handOnAll_room (h : s.roomFor records.length) :
    s.handOnAll records = (s.handedOn records).raiseAll (closeFlags records) := by
  rw [State.handOnAll, State.foldl_handOn_room records s h, closeFlags]
  split
  · rw [State.raiseAll_raiseAll]
  · rfl

/-- The held sets replaced. -/
def State.putSets (sets : List AccSet) (s : State) : State :=
  { s with recorder := { s.recorder with accSets := sets } }

/-- The waiting work replaced. -/
def State.putWork (ws : List RecorderWork) (s : State) : State :=
  { s with recorder := { s.recorder with work := ws } }

/-- The records of a set that closes flagged. -/
def AccSet.closing (truncated interrupted : Bool) (a : AccSet) : List IntervalRec :=
  a.accs.map fun x => a.record (x.flagged truncated interrupted)

/-- A held set closes flagged. -/
theorem State.closeSetFlagged_of_find {start : Nat} {a : AccSet}
    (h : s.recorder.accSets.find? (fun x => decide (x.start = start)) = some a)
    (truncated interrupted : Bool) : s.closeSetFlagged start truncated interrupted =
      (s.putSets (s.recorder.accSets.filter fun b => decide (b.start ≠ start))).handOnAll
        (a.closing truncated interrupted) := by
  have hrecords : (a.flagged truncated interrupted).records = a.closing truncated interrupted := by
    simp only [AccSet.records, AccSet.closing, AccSet.flagged, List.map_map, Function.comp_def]
    exact List.map_congr_left fun x _ => AccSet.record_flagged truncated interrupted a _
  rw [State.closeSetFlagged, State.closeSet]
  simp only [find?_markSet, filter_markSet, h, Option.map_some, hrecords]
  rfl

end HandOn

/-! ### The work of a stepped close -/

section Stepped

variable {s : State}

theorem State.openInterval_last {a : AccSet} {before : List AccSet}
    (h : s.recorder.accSets = before ++ [a]) (second : Nat) :
    s.openInterval second = a.start := by
  rw [State.openInterval, h, List.getLast?_concat]
  rfl

theorem State.onItsWay_eq_true {start : Nat} : s.onItsWay start = true ↔
    (∃ n ∈ s.recorder.handed, n.second - n.second % 1800 ≤ start) ∨
      (∃ x ∈ s.norm.samples, x.mode = .recording ∧ x.second - x.second % 1800 ≤ start) := by
  simp [State.onItsWay, intervalStart, and_comm]

theorem State.onItsWay_eq_false {start : Nat}
    (hhanded : ∀ n ∈ s.recorder.handed, start < n.second - n.second % 1800)
    (hsamples : ∀ x ∈ s.norm.samples, x.mode = .recording → start < x.second - x.second % 1800) :
    s.onItsWay start = false := by
  rw [← Bool.not_eq_true, State.onItsWay_eq_true]
  rintro (⟨n, hn, hle⟩ | ⟨x, hx, hmode, hle⟩)
  · exact absurd (hhanded n hn) (Nat.not_lt.mpr hle)
  · exact absurd (hsamples x hx hmode) (Nat.not_lt.mpr hle)

/-- The stepped close holds up all that follows it. -/
theorem State.runWork_of_waiting {start : Nat} {rest : List RecorderWork}
    (hwork : s.recorder.work = .closeStepped start :: rest) (h : s.onItsWay start = true) :
    s.runWork = s := by
  have hnone : s.workOnce = none := by
    rw [State.workOnce, hwork, State.workAmong]
    simp only [h, if_true]
  rw [State.runWork, State.runWorkFor, hnone]

/-- The work goes on from what its first piece leaves. -/
theorem State.runWork_of_once {t : State} {w : RecorderWork} {rest : List RecorderWork}
    (hwork : s.recorder.work = w :: rest) (hlen : t.recorder.work.length = rest.length)
    (h : s.workOnce = some t) : s.runWork = t.runWork := by
  rw [State.runWork, State.runWorkFor, h, hwork, State.runWork, hlen, List.length_cons]

theorem State.workOnce_stepped {start : Nat} {rest : List RecorderWork}
    (hwork : s.recorder.work = .closeStepped start :: rest) (h : s.onItsWay start = false) :
    s.workOnce = some ((s.putWork rest).closeSetFlagged start true false) := by
  rw [State.workOnce, hwork, State.workAmong]
  simp only [h, Bool.false_eq_true, if_false, List.nil_append]
  rfl

theorem State.workOnce_record {e : EventRec} {rest : List RecorderWork}
    (hwork : s.recorder.work = .record e :: rest) :
    s.workOnce = some ((s.putWork rest).writeEvent e) := by
  rw [State.workOnce, hwork, State.workAmong]
  rfl

/-- The pending device counts of steps and restarts replaced. -/
def State.putCounts (steps restarts : Nat) (s : State) : State :=
  { s with recorder := { s.recorder with steps := steps, restarts := restarts } }

/-- A record that joins the queue; a TIME_STEP or RESTART is counted too (R128). -/
theorem State.writeEvent_counted (h : s.roomFor 1) (e : EventRec) : ∃ steps restarts : Nat,
    s.writeEvent e = (s.queued [.event e]).putCounts steps restarts := by
  rw [State.writeEvent, State.offer_room h]
  split <;> exact ⟨_, _, rfl⟩

theorem BitVec.or_and_of_and {n : Nat} (x : BitVec n) {f g : BitVec n} (h : f &&& g = g) :
    (x ||| f) &&& g = g := by
  rw [BitVec.and_or_distrib_right, h]
  ext i
  simp

theorem AttentionUnit.raiseAll_pending (u : AttentionUnit) (f : FlagSet) (l : Link) :
    ((u.raiseAll f).get l).pending = (u.get l).pending ||| f := by
  cases l <;> rfl

theorem closeFlags_closed (records : List IntervalRec) :
    closeFlags records &&& flagIntervalClosed = flagIntervalClosed := by
  unfold closeFlags
  split <;> decide

end Stepped

/-! ### The step -/

section Step

variable {s : State}

/-- A forward step that finds no write to wait for. -/
theorem State.forwardStep_of_free {target ms : Nat} {z : State} (hrun : s.running = true)
    (hfree : s.passHeld.boundaryWaits = false)
    (hz : z = (s.passHeld.skipSecond.putTime target ms).flagged flagTime) :
    s.forwardStep target ms = (z.cross (.step s.time.counter ms)).beginSecond := by
  have hrunning : (s.passHeld.skipSecond.putTime target ms).running = true := by
    rw [State.running, State.putTime_supply, State.skipSecond_supply, State.passHeld_power]
    exact hrun
  rw [State.forwardStep, State.raiseAll_flagged hrunning, ← hz]
  exact State.meet_of_free (by rw [hz]; exact hfree) _

/-- A step out of the open interval (R44, R45). -/
theorem State.cross_step_out {z b : State} {old ms : Nat} (hb : z.finishChangeOver = b)
    (hmode : b.supply.mode = .recording)
    (hout : b.openInterval old ≠ intervalStart b.time.counter) :
    z.cross (.step old ms) =
      (b.leaveInterval old ms).reachWithdrawalPoint.forgetRecovered := by
  rw [State.cross, hb, State.stepRecording, if_pos hmode, if_neg hout]

/-- What leaving the interval calls for: its close, the step's record, and the crossed day boundaries. -/
theorem State.leaveInterval_eq {b t c u : State} {old ms target reached days : Nat} {new : Tables}
    (htarget : b.time.counter = target) (hreached : b.boundariesTo old = reached)
    (hdays : days = dayOf target - dayOf reached)
    (ht : t = { b with
      stackUnits := crossedUnits (dayOf reached + 1) days b.stackUnits
      recorder := { b.recorder with
        work := b.recorder.work ++
          [.closeStepped (b.openInterval old), .record (.plain target .timeStep old)] ++
          crossedWork b.config.active (dayOf reached + 1) days } })
    (hc : t.transferBy State.recordLater (intervalStart target) (dayOf target) = c)
    (hnew : c.config.active = new)
    (hu : u = c.openSet (.opened (intervalStart target) new
      (!(decide (target % 1800 = 0) && decide (ms = 0))) false)) :
    b.leaveInterval old ms = u.runWork := by
  have hwork : State.dayBoundaries b.config.active (dayOf reached + 1)
      (dayOf target - dayOf reached)
      ((b.addWork (.closeStepped (b.openInterval old))).recordLater (.plain target .timeStep old)) =
      t := by
    rw [State.dayBoundaries_eq, ht, hdays]
    simp only [State.recordLater, State.addWork, List.append_assoc, List.cons_append,
      List.nil_append]
  rw [hu, ← hnew, ← hc, ← hwork, State.leaveInterval, htarget, hreached]
  rfl

theorem State.beginSecond_reached (r : State) :
    r.reachWithdrawalPoint.forgetRecovered.beginSecond = { r with
      recorder := { r.recorder with withdrawal := r.recorder.withdrawal.map fun w =>
        { w with point := some (w.point.getD r.time.counter) } }
      supply := { r.supply with recoveredTo := none }
      scan := { r.scan with accs := List.replicate 32 .empty, latches := 0 }
      sec := {
        processed := true, mode := r.supply.mode, cfg := r.config.active
        lockHeld := decide (r.scan.synth = .locked), nextSlot := 0, slotFloor := r.time.phase
        sampleFormed := false, sampled := false, held := none, checkWaits := none
        sampleWaits := none, before := .nothing } } := rfl

/-- A SET TIME that steps forward (R41). -/
theorem State.setTimeRuling_forward {target ms phase : Nat} (hms : ms ≤ 999)
    (hcommissioning : s.supply.mode ≠ .commissioning) (hsuspended : s.supply.mode ≠ .suspended)
    (hoffset : 2000 < s.offset target ms phase) :
    s.setTimeRuling .inspection target ms phase =
      s.accept .inspection (s.forwardStep target ms).settle none := by
  have hruling : s.offsetRuling .inspection target ms phase =
      s.accept .inspection (s.forwardStep target ms).settle none := by
    rw [State.offsetRuling, if_neg (by omega), if_neg (by omega), if_pos rfl]
  rw [State.setTimeRuling, if_neg (by omega)]
  cases hmode : s.supply.mode with
  | commissioning => exact absurd hmode hcommissioning
  | suspended => exact absurd hmode hsuspended
  | enteringService => exact hruling
  | recording => exact hruling
  | withdrawn => exact hruling

end Step

/-- A frame that reaches its own rule, LINK STATUS apart, finds the part running. -/
theorem State.running_of_reaches {s : State} {c : Command} {l : Link} {args : List Byte}
    (hc : c ≠ .linkStatus) (h : s.reaches c l args = true) : s.running = true := by
  obtain ⟨hresponds, -⟩ := (s.reaches_iff c l args).1 h
  have hstarting := State.reaches_power hc h
  cases hpower : s.supply.power with
  | running => exact decide_eq_true hpower
  | starting => exact absurd hpower hstarting
  | snapshotting => simp [State.linksRespond, hpower] at hresponds
  | halt => simp [State.linksRespond, hpower] at hresponds

theorem State.finishChangeOver_stage (s : State) :
    s.finishChangeOver.config.stage = s.config.stage := by
  cases h : s.config.changeOver with
  | none => rw [State.finishChangeOver_of_none h]
  | some old => rw [State.finishChangeOver_of_some h]

theorem State.skipSecond_synth (s : State) : s.skipSecond.scan.synth = s.scan.synth := by
  show s.dropSecond.scanBefore.synth = _
  rw [State.scanBefore]
  split <;> rfl

/-- A set that has closed with room for its records (R97). -/
def State.closedWith (records : List IntervalRec) (start : Nat) (rest : List RecorderWork)
    (s : State) : State :=
  (((s.putWork rest).putSets (s.recorder.accSets.filter fun b =>
    decide (b.start ≠ start))).handedOn records).flagged (closeFlags records)

/-- What a stepped close leaves, with all that follows it (R44). -/
theorem State.runWork_of_stepped {s : State} {start : Nat} {rest : List RecorderWork} {a : AccSet}
    (hrun : s.running = true) (hwork : s.recorder.work = .closeStepped start :: rest)
    (hnone : s.onItsWay start = false)
    (hfind : s.recorder.accSets.find? (fun x => decide (x.start = start)) = some a)
    (hroom : s.roomFor a.accs.length) :
    s.runWork = (s.closedWith (a.closing true false) start rest).runWork := by
  refine State.runWork_of_once hwork rfl ?_
  rw [State.workOnce_stepped hwork hnone,
    State.closeSetFlagged_of_find (s := s.putWork rest) hfind, State.handOnAll_room
      (s := (s.putWork rest).putSets _) (by rw [AccSet.closing, List.length_map]; exact hroom)]
  exact congrArg some (State.raiseAll_flagged (s := ((s.putWork rest).putSets _).handedOn _) hrun _)

/-- What a record that waits its turn leaves, with all that follows it. -/
theorem State.runWork_of_record {s : State} {e : EventRec} {rest : List RecorderWork}
    (hwork : s.recorder.work = .record e :: rest) (hroom : s.roomFor 1) :
    ∃ u : State, s.runWork = u.runWork ∧ u.recorder.work = rest ∧
      u.recorder.queue = s.recorder.queue ++ [.event e] ∧
      u.recorder.accSets = s.recorder.accSets ∧ u.time = s.time ∧ u.config = s.config ∧
      u.store = s.store ∧ u.scan = s.scan ∧ u.attention = s.attention := by
  obtain ⟨steps, restarts, hevent⟩ := State.writeEvent_counted (s := s.putWork rest) hroom e
  exact ⟨((s.putWork rest).queued [.event e]).putCounts steps restarts,
    State.runWork_of_once hwork rfl ((State.workOnce_record hwork).trans (congrArg some hevent)),
    rfl, rfl, rfl, rfl, rfl, rfl, rfl, rfl⟩

/-- Settles O54: the step's work in its order, and what its first two pieces do. -/
theorem stepsLeaveTheirInterval : Obligations.StepsLeaveTheirInterval := by
  refine ⟨?_, fun s a before h => State.openInterval_last h _, ?_⟩
  · rintro s p k b t c u r args phase target ms start reached days old new unlocks hreaches htarget
      hms hle hcommissioning hsuspended hp hmode hoffset hfree hk hb hstart hout hreached hdays hold
      ht hnone happroved hu hr
    subst hk
    have hrun : s.running = true := State.running_of_reaches (by decide) hreaches
    have hrunp : p.running = true := by
      rw [State.running, hp, State.passHeld_power]
      exact hrun
    have hover : ∀ z : State, z.scan = p.skipSecond.scan →
        z.stackUnits = p.skipSecond.stackUnits → z.config = p.skipSecond.config → z.finishChangeOver = { z with
          scan := b.scan, stackUnits := b.stackUnits, config := b.config } := by
      rw [hb]
      exact fun z => State.finishChangeOver_congr
    have hbp : b = { p.skipSecond with
        scan := b.scan, stackUnits := b.stackUnits, config := b.config } :=
      hb.trans (hover _ rfl rfl rfl)
    have hactive : b.config.active = old := by rw [hb, State.finishChangeOver_active, hold]; rfl
    have hstage : b.config.stage = p.config.stage := by
      rw [hb, State.finishChangeOver_stage]
      rfl
    have hsynth : b.scan.synth = p.scan.synth := by
      rw [hb, State.finishChangeOver_synth, State.skipSecond_synth]
    let z : State := (p.skipSecond.putTime target ms).flagged flagTime
    let y : State := { z with scan := b.scan, stackUnits := b.stackUnits, config := b.config }
    have hforward : s.forwardStep target ms = (z.cross (.step s.time.counter ms)).beginSecond :=
      State.forwardStep_of_free hrun (hp ▸ hfree) (by rw [← hp])
    have hty : t = { y with
        stackUnits := crossedUnits (dayOf reached + 1) days y.stackUnits
        recorder := { y.recorder with
          work := y.recorder.work ++
            [.closeStepped start, .record (.plain target .timeStep s.time.counter)] ++
            crossedWork old (dayOf reached + 1) days } } := by
      rw [ht, hbp]
      rfl
    have htransfer : t.transferBy State.recordLater (intervalStart target) (dayOf target) = c ∧
        c.config.active = new ∧ c.time = t.time := by
      have htstage : t.config.stage = p.config.stage := by rw [hty]; exact hstage
      have htstore : t.store = p.store := by rw [hty]; rfl
      by_cases h : p.config.stage.state = .approved ∧ p.store.fault = false
      · obtain ⟨hnew, hunlocks, hc⟩ := happroved h.1 h.2
        have htrun : t.running = true := by rw [hty]; exact hrunp
        have htsynth : t.scan.synth = p.scan.synth := by rw [hty]; exact hsynth
        have htarbiter : t.arbiter = p.arbiter := by rw [hty]; rfl
        have htlock : t.sec.lockHeld = p.sec.lockHeld := by rw [hty]; rfl
        have htcounter : t.time.counter = target := by rw [hty]; rfl
        have hlater := State.transferLater_of_approved htrun (htstage ▸ h.1) (htstore ▸ h.2)
          (hactive.symm.trans (by rw [hty])) (htstage.symm ▸ hnew) (htsynth.symm ▸ hunlocks)
          (intervalStart target) (dayOf target)
        rw [hlater, hc, htarbiter, htlock, htsynth, htcounter]
        exact ⟨rfl, rfl, rfl⟩
      · have hor : p.config.stage.state ≠ .approved ∨ p.store.fault = true := by
          rw [not_and_or, Bool.not_eq_false] at h
          exact h
        obtain ⟨hnew, hc⟩ := hnone hor
        rw [State.transferBy_of_none (by rw [htstage, htstore]; exact hor), hc]
        refine ⟨rfl, ?_, rfl⟩
        rw [hnew, hty]
        exact hactive
    obtain ⟨hc, hnew, hctime⟩ := htransfer
    have hopen : y.openInterval s.time.counter = start := hstart.symm
    have htruncated : (!(decide (target % 1800 = 0) && decide (ms = 0))) =
        decide (target % 1800 ≠ 0 ∨ ms ≠ 0) := by
      rw [← Bool.decide_and, ← decide_not, Bool.decide_congr not_and_or]
    have hleave : y.leaveInterval s.time.counter ms = r := by
      rw [hr]
      refine State.leaveInterval_eq (target := target) (reached := reached) (days := days) rfl
        hreached.symm hdays ?_ hc hnew ?_
      · rw [hopen, show y.config.active = old from hactive]
        exact hty
      · rw [hu, htruncated]
        rfl
    have hrtime : r.time.counter = target ∧ r.time.phase = ms := by
      have hut : u.time = t.time := by rw [hu]; exact hctime
      rw [hr, u.runWork_recorded.time, hut, hty]
      exact ⟨rfl, rfl⟩
    have hcross : z.cross (.step s.time.counter ms) =
        r.reachWithdrawalPoint.forgetRecovered := by
      rw [State.cross_step_out (hover z rfl rfl rfl) hmode (by rw [hopen]; exact hout), hleave]
    have hrule : s.setTimeRuling .inspection (u32 args 0) (u16 args 4) phase =
        s.accept .inspection (s.forwardStep target ms).settle none := by
      rw [← htarget, ← hms]
      exact State.setTimeRuling_forward hle hcommissioning hsuspended hoffset
    refine (congrArg _ (State.serve_accepted (by decide) hreaches hrule)).trans ?_
    rw [hforward, hcross, State.beginSecond_reached, hrtime.1, hrtime.2]
    rfl
  · rintro s start e rest a hrun hwork
    refine ⟨fun h => State.runWork_of_waiting hwork (State.onItsWay_eq_true.2 h), ?_⟩
    rintro hhanded hsamples hfind hroom
    have hlen : (a.closing true false).length = a.accs.length := List.length_map _
    have hclosed := State.runWork_of_stepped hrun hwork (State.onItsWay_eq_false hhanded hsamples)
      hfind (State.roomFor_le hroom (Nat.le_succ _))
    have hqueue : (s.closedWith (a.closing true false) start (.record e :: rest)).recorder.queue =
        s.recorder.queue ++ a.accs.map fun x => .interval (a.record { x with truncated := true }) := by
      show s.recorder.queue ++ (a.closing true false).map QueueItem.interval = _
      rw [AccSet.closing, List.map_map]
      simp only [Function.comp_def, Accumulator.flagged, Bool.or_true, Bool.or_false]
    have hroomNext : (s.closedWith (a.closing true false) start (.record e :: rest)).roomFor 1 := by
      rw [State.roomFor, hqueue, List.length_append, List.length_map]
      exact Nat.add_assoc _ _ _ ▸ hroom
    have hflags : ∀ l, ((s.closedWith (a.closing true false) start
        (.record e :: rest)).attention.get l).pending &&& 0x0002 = 0x0002 := by
      intro l
      show ((s.attention.raiseAll (closeFlags (a.closing true false))).get l).pending &&& _ = _
      rw [AttentionUnit.raiseAll_pending]
      exact BitVec.or_and_of_and _ (closeFlags_closed _)
    obtain ⟨u, hrecord, hrest, hevent, hsets, htime, hconfig, hstore, hscan, hattention⟩ :=
      State.runWork_of_record (rest := rest) rfl hroomNext
    refine ⟨u, hclosed.trans hrecord, hrest, ?_, hsets, htime, hconfig, hstore, hscan, ?_⟩
    · rw [hevent, hqueue]
    · rw [hattention]
      exact hflags

end Sys2Proof.Machine
end

section
/-! The attempts of a grant (R139): the boundary that waited for it leaves the grant alone, and a grant's write ends
within six attempts. -/

namespace Sys2Proof.Machine

/-! ### What leaves the grant as it is -/

section Grant

variable (s : State)

theorem State.recordLater_arbiter (e : EventRec) : (s.recordLater e).arbiter = s.arbiter := rfl

theorem State.unlock_arbiter {write : EventRec → State → State}
    (hwrite : ∀ e t, (write e t).arbiter = t.arbiter) (cause : Nat) :
    (s.unlock write cause).arbiter = s.arbiter := by
  rw [State.unlock, State.raiseAll_arbiter, hwrite]

theorem State.mainsAfter_arbiter {write : EventRec → State → State}
    (hwrite : ∀ e t, (write e t).arbiter = t.arbiter) (old new : Tables) :
    (s.mainsAfter write old new).arbiter = s.arbiter := by
  rw [State.mainsAfter_eq]
  split
  · exact s.unlock_arbiter hwrite 2
  · rfl

theorem State.transferBy_grant {write : EventRec → State → State}
    (hwrite : ∀ e t, (write e t).arbiter = t.arbiter) (boundary today : Nat) :
    (s.transferBy write boundary today).arbiter.grant = s.arbiter.grant := by
  by_cases h : s.config.stage.state = .approved ∧ s.store.fault = false
  · rw [State.transferBy_of_approved h.1 h.2 rfl rfl, State.working,
      State.mainsAfter_arbiter _ hwrite, State.raiseAll_arbiter, hwrite, State.adopted,
      State.claimTransfer_eq]
    rfl
  · rw [State.transferBy, if_neg h]

theorem State.transferAt_grant (boundary today : Nat) :
    (s.transferAt boundary today).arbiter.grant = s.arbiter.grant :=
  s.transferBy_grant (fun e t => t.writeEvent_arbiter e) boundary today

theorem State.finishChangeOver_arbiter : s.finishChangeOver.arbiter = s.arbiter := by
  rw [State.finishChangeOver_eq]

theorem State.intervalBoundary_grant : s.intervalBoundary.arbiter.grant = s.arbiter.grant := by
  cases hmode : s.supply.mode with
  | commissioning => rw [State.intervalBoundary_of_set (.inl hmode)]
  | suspended => rw [State.intervalBoundary_of_set (.inr hmode)]
  | withdrawn => rw [State.intervalBoundary_of_withdrawn hmode, State.transferAt_grant]
  | recording =>
    rw [State.intervalBoundary_of_recording hmode rfl, State.openSet_arbiter, State.transferAt_grant]
  | enteringService =>
    rw [State.intervalBoundary_of_entering hmode rfl, State.joinDay_arbiter, State.openSet_arbiter,
      State.enterRecording_arbiter, State.transferAt_grant]

theorem State.dayBoundary_arbiter (gov : Tables) (day : Nat) :
    (s.dayBoundary gov day).arbiter = s.arbiter := by
  rw [State.dayBoundary_eq gov rfl]

theorem State.boundaries_grant : s.boundaries.arbiter.grant = s.arbiter.grant := by
  have hmid : (if s.time.counter % 1800 = 0 then s.intervalBoundary else s).arbiter.grant =
      s.arbiter.grant := by
    split
    · exact s.intervalBoundary_grant
    · rfl
  rw [State.boundaries_of_mid rfl rfl]
  split
  · split
    · rw [State.dayBoundary_arbiter, hmid]
    · split
      · exact hmid
      · exact hmid
  · exact hmid

theorem State.leaveInterval_grant (old ms : Nat) :
    (s.leaveInterval old ms).arbiter.grant = s.arbiter.grant := by
  rw [State.leaveInterval]
  rw [(State.runWork_recorded _).grant, State.openSet_arbiter,
    State.transferBy_grant _ (fun e t => t.recordLater_arbiter e), State.dayBoundaries_eq]
  rfl

theorem State.stepRecording_grant (old ms : Nat) :
    (s.stepRecording old ms).arbiter.grant = s.arbiter.grant := by
  rw [State.stepRecording]
  split
  · split
    · rw [State.note_arbiter]
      rfl
    · exact s.leaveInterval_grant old ms
  · rw [State.note_arbiter]

theorem State.cross_grant (b : HeldBoundary) : (s.cross b).arbiter.grant = s.arbiter.grant := by
  have hover : s.finishChangeOver.arbiter = s.arbiter := s.finishChangeOver_arbiter
  cases b with
  | edge =>
    rw [State.cross, State.forgetRecovered_arbiter, State.runBoundaries]
    split
    · rw [State.reachWithdrawalPoint_arbiter, hover]
    · rw [State.boundaries_grant, State.reachWithdrawalPoint_arbiter, hover]
  | step old ms =>
    rw [State.cross, State.forgetRecovered_arbiter, State.reachWithdrawalPoint_arbiter,
      State.stepRecording_grant, hover]
  | set => rw [State.cross, hover]

/-! ### The self-check and the sampling point that a boundary held up -/

theorem State.foldl_arbiter {α : Type} {f : State → α → State}
    (hf : ∀ (t : State) a, (f t a).arbiter = t.arbiter) (xs : List α) :
    ∀ s : State, (xs.foldl f s).arbiter = s.arbiter := by
  induction xs with
  | nil => exact fun _ => rfl
  | cons a xs ih => exact fun s => (ih _).trans (hf s a)

theorem State.noteFault_arbiter (converter reading : Nat) (before after : Bool) :
    (s.noteFault converter reading before after).arbiter = s.arbiter := by
  rw [State.noteFault]
  split
  · rfl
  · rw [State.raiseAll_arbiter, State.note_arbiter]

theorem State.updateBreak_arbiter (input : Nat) : (s.updateBreak input).arbiter = s.arbiter := by
  rw [State.updateBreak]
  split
  · rfl
  · simp only
    split
    · rw [State.raiseAll_arbiter, State.writeEvent_arbiter]
    · rfl

theorem State.formSamples_arbiter (a b : Check) : (s.formSamples a b).arbiter = s.arbiter := by
  rw [State.formSamples]
  split
  · rw [State.raiseAll_arbiter]
  · rfl

theorem State.endSelfCheck_arbiter (lock : Bool) (readingA readingB : Nat) :
    (s.endSelfCheck lock readingA readingB).arbiter = s.arbiter := by
  rw [State.endSelfCheck, State.formSamples_arbiter, State.updateBreaks,
    State.foldl_arbiter State.updateBreak_arbiter, State.updateFaults, State.noteFault_arbiter,
    State.noteFault_arbiter]
  rfl

theorem State.makeCheck_arbiter : s.makeCheck.arbiter = s.arbiter := by
  cases h : s.sec.checkWaits with
  | none => rw [State.makeCheck_of_none h]
  | some c => rw [State.makeCheck_of_some h, State.withInputs_arbiter, State.endSelfCheck_arbiter]

theorem State.evaluateStack_arbiter (k : Nat) : (s.evaluateStack k).arbiter = s.arbiter := by
  rw [State.evaluateStack]
  simp only [State.noteLimit, apply_ite State.arbiter, State.raiseAll_arbiter,
    State.writeEvent_arbiter, State.setStackUnit_arbiter, ite_self]

theorem State.sampleStacks_arbiter : s.sampleStacks.arbiter = s.arbiter := by
  rw [State.sampleStacks, State.handStackSet_arbiter, State.evaluateStacks,
    State.foldl_arbiter State.evaluateStack_arbiter, State.rememberStacks_arbiter]

theorem State.makeSample_arbiter : s.makeSample.arbiter = s.arbiter := by
  cases h : s.sec.sampleWaits with
  | none => rw [State.makeSample_of_none h]
  | some kept => rw [State.makeSample_of_some h, State.withLinkSlots_arbiter,
      State.sampleStacks_arbiter]

theorem State.passHeld_grant : s.passHeld.arbiter.grant = s.arbiter.grant := by
  cases h : s.sec.held with
  | none => rw [State.passHeld_of_none h]
  | some b =>
    rw [State.passHeld_of_some h, (State.runWork_recorded _).grant, State.makeSample_arbiter,
      State.makeCheck_arbiter, State.governSecond_arbiter, State.cross_grant]

/-! ### Entering FAULT ends the grant -/

theorem State.refuseWaiting_arbiter (l : Link) : (s.refuseWaiting l).arbiter = s.arbiter := by
  have hend : ∀ op, (s.endAnnotation op .refused (some .storeFault)).arbiter = s.arbiter := by
    intro op
    rw [State.endAnnotation, State.endOp_arbiter, State.raiseAll_arbiter, State.writeEvent_arbiter]
  rw [State.refuseWaiting]
  split
  · rfl
  · split
    · split
      · rfl
      · exact hend _
    · split
      · exact State.endOp_arbiter _ _ _ _ _ _
      · rfl

theorem State.enterFault_grant (w : Word) : (s.enterFault w).arbiter.grant = none := by
  rw [State.enterFault, State.refuseWaiting_arbiter, State.refuseWaiting_arbiter]
  rfl

end Grant

/-! ### The attempts that a grant has left -/

/-- The most attempts that a begun grant has left: two for each write still to come, and the second, or both, of the
present one (R139, R156). -/
def Grant.budget (g : Grant) : Nat := 2 * (2 - g.part) + if g.failedOnce then 1 else 2

/-- The attempts that the grant in progress has left. -/
def State.attemptsLeft (s : State) : Nat := (s.programming.map Grant.budget).getD 0

section Attempts

variable {s : State} {g : Grant}

theorem Grant.budget_le (g : Grant) : g.budget ≤ mostAttempts := by
  rw [Grant.budget, mostAttempts]
  split <;> omega

theorem Grant.budget_pos (g : Grant) : 0 < g.budget := by
  rw [Grant.budget]
  split <;> omega

theorem State.programming_of_none (h : s.arbiter.grant = none) : s.programming = none := by
  rw [State.programming, h]
  rfl

theorem State.attemptsLeft_of_none (h : s.arbiter.grant = none) : s.attemptsLeft = 0 := by
  rw [State.attemptsLeft, State.programming_of_none h]
  rfl

theorem State.attemptsLeft_of_grant (h : s.arbiter.grant = some g) : s.attemptsLeft ≤ g.budget := by
  rw [State.attemptsLeft, State.programming, h, Option.filter_some]
  split
  · exact Nat.le_refl _
  · exact Nat.zero_le _

/-- A write that verifies ends its grant, but within an erase. -/
theorem State.writeVerified_left (g : Grant) (s : State) :
    (s.writeVerified g).attemptsLeft < g.budget := by
  have hended : ∀ {t : State}, t.arbiter.grant = none → t.attemptsLeft < g.budget := fun h => by
    rw [State.attemptsLeft_of_none h]
    exact g.budget_pos
  rw [State.writeVerified]
  split
  · split
    · exact hended rfl
    · exact hended rfl
  · exact hended rfl
  · exact hended rfl
  · exact hended rfl
  · rw [State.opWritten]
    split
    · exact hended rfl
    · split
      · next h =>
        refine Nat.lt_of_le_of_lt (State.attemptsLeft_of_grant rfl) ?_
        simp only [Grant.budget, Bool.false_eq_true, if_false]
        split <;> omega
      · refine hended ?_
        rw [State.passHeld_grant]
        rfl
  · exact hended rfl
  · exact hended rfl

theorem State.queueFailed_grant (g : Grant) (item : QueueItem) (s : State) :
    (s.queueFailed g item).arbiter.grant = none := by
  have hring : ∀ r, (s.ringFailed g item r).arbiter.grant = none := by
    intro r
    rw [State.ringFailed]
    split <;> exact State.enterFault_grant _ _
  cases item with
  | interval r => exact hring .interval
  | day r => exact hring .day
  | event r => exact hring .event
  | checkpoint i t => exact s.enterFault_grant _

/-- A second failure ends the grant. -/
theorem State.writeFailed_grant (g : Grant) (s : State) :
    (s.writeFailed g).arbiter.grant = none := by
  rw [State.writeFailed]
  split
  · split
    · rfl
    · exact s.queueFailed_grant g _
  · exact s.enterFault_grant _
  · exact s.enterFault_grant _
  · exact s.enterFault_grant _
  · rw [State.opFailed]
    split
    · rfl
    · rw [State.passHeld_grant, State.refuseOp, State.endOp_arbiter]
      exact State.enterFault_grant _ _
  · rfl
  · rfl

theorem State.attemptFailed_left (g : Grant) (s : State) :
    (s.attemptFailed g).attemptsLeft < g.budget := by
  rw [State.attemptFailed]
  split
  · rw [State.attemptsLeft_of_none (s.writeFailed_grant g)]
    exact g.budget_pos
  · next h =>
    refine Nat.lt_of_le_of_lt (State.attemptsLeft_of_grant rfl) ?_
    simp only [Grant.budget, if_true, if_neg h]
    omega

/-- Every attempt leaves its grant fewer than it had (R139). -/
theorem State.attemptEnds_left (g : Grant) (a : Attempt) (s : State) :
    (s.attemptEnds g a).attemptsLeft < g.budget := by
  cases a with
  | verified => exact s.writeVerified_left g
  | failed => exact s.attemptFailed_left g
  | pointersFailed =>
    rw [State.attemptEnds]
    split
    · next h =>
      have hpart : g.part = 0 := by
        rw [State.writesRing] at h
        simp only [Bool.and_eq_true, decide_eq_true_eq] at h
        exact h.1.2
      refine Nat.lt_of_le_of_lt (State.attemptsLeft_of_grant rfl) ?_
      simp only [Grant.budget, hpart, if_true]
      split <;> omega
    · exact s.attemptFailed_left g

/-- More attempts than the grant has left make no difference. -/
theorem State.finishWrite_enough (n : Nat) : ∀ (attempts : List Attempt) (s : State),
    s.attemptsLeft ≤ n →
      State.finishWrite (n + 1) attempts s = State.finishWrite n attempts s := by
  induction n with
  | zero =>
    intro attempts s h
    have hnone : s.programming = none := by
      cases hg : s.programming with
      | none => rfl
      | some g =>
        rw [State.attemptsLeft, hg] at h
        exact absurd h (Nat.not_le.mpr g.budget_pos)
    rw [State.finishWrite, State.finishWrite, hnone]
  | succ n ih =>
    intro attempts s h
    rw [State.finishWrite, State.finishWrite]
    cases hg : s.programming with
    | none => rfl
    | some g =>
      rw [State.attemptsLeft, hg] at h
      exact ih _ _ (Nat.le_of_lt_succ (Nat.lt_of_lt_of_le (s.attemptEnds_left g _) h))

theorem State.finishGrant_of_idle (h : ∀ g, s.arbiter.grant = some g → g.begun = false)
    (attempts : List Attempt) : s.finishGrant attempts = (attempts, s.granted none) := by
  have hnone : s.programming = none := by
    rw [State.programming, Option.filter_eq_none_iff]
    exact fun g hg => by simp [h g hg]
  rw [State.finishGrant, mostAttempts, State.finishWrite, hnone]
  rfl

/-- A begun grant runs on from the end of its next attempt (R157). -/
theorem State.finishGrant_of_begun (hgrant : s.arbiter.grant = some g) (hbegun : g.begun = true)
    (attempts : List Attempt) : s.finishGrant attempts =
      (s.attemptEnds g (attempts.headD .verified)).finishGrant attempts.tail := by
  have hprogramming : s.programming = some g := by
    rw [State.programming, hgrant, Option.filter_some, if_pos hbegun]
  have hleft := Nat.lt_of_lt_of_le (s.attemptEnds_left g (attempts.headD .verified)) g.budget_le
  rw [State.finishGrant, State.finishGrant, mostAttempts,
    State.finishWrite_enough 5 attempts.tail _ (Nat.le_of_lt_succ hleft), State.finishWrite,
    hprogramming]
  rfl

end Attempts

end Sys2Proof.Machine
end

section
/-! The retention snapshot: its beginning, what ends before it, and its end (R150, R157, R158), and O58. -/

namespace Sys2Proof.Machine

/-! ### Ports that a halt silences (R146, R157, R163) -/

/-- A port that responds no more, and has nothing in flight. -/
structure LinkPort.Silent (p : LinkPort) : Prop where
  recv : p.recv = .idle
  op : p.op = none
  readout : p.readout = none
  tx : p.tx = []
  leaving : p.leaving = []

/-- The result of a link whose operation a snapshot ends, and otherwise the one it had (R169, R172). -/
def lastAfter (cut : Option OpSnapshot) (last : Option OpResult) : Option OpResult :=
  match cut with
  | none => last
  | some o => some { command := some o.command, outcome := .restart, reason := none, index := none,
                     counts := o.counts }

section Ports

variable (p : LinkPort)

theorem LinkPort.silenced_op : p.silenced.op = none := by
  rw [LinkPort.silenced]
  cases h : p.op with
  | none => rw [LinkPort.opSnapshot, h]; exact h
  | some o => rw [LinkPort.opSnapshot, h]; rfl

theorem LinkPort.silenced_silent : p.silenced.Silent :=
  ⟨rfl, p.silenced_op, rfl, rfl, rfl⟩

theorem LinkPort.silenced_last : p.silenced.last = lastAfter p.opSnapshot p.last := by
  rw [LinkPort.silenced]
  cases p.opSnapshot <;> rfl

theorem LinkPort.Silent.cutShort {p : LinkPort} (h : p.Silent) (o : Option OpSnapshot) :
    (p.cutShort o).Silent := by
  cases o with
  | none => exact h
  | some x => exact ⟨h.recv, rfl, h.readout, h.tx, h.leaving⟩

theorem LinkPort.cutShort_last (o : Option OpSnapshot) :
    (p.cutShort o).last = lastAfter o p.last := by
  cases o <;> rfl

end Ports

section Silence

variable (s : State)

theorem State.silence_port (k : Link) : s.silence.port k = (s.port k).silenced := by
  cases k <;> rfl

theorem State.silence_get (k : Link) :
    s.silence.attention.get k = { (s.attention.get k) with pending := 0, seen := 0 } := by
  cases k <;> rfl

/-- Where a part halts with no snapshot (R157, R159). -/
theorem State.takeCause_halts {s : State} (h : s.supply.power = .starting ∨
    s.supply.power = .running ∧ s.supply.mode = .suspended) (cause : SnapCause)
    (attempts : List Attempt) : s.takeCause cause attempts = s.halt := by
  rcases h with h | ⟨h, hmode⟩
  · rw [State.takeCause, h]
  · rw [State.takeCause, h]
    exact if_pos hmode

theorem State.takeCause_snapshots {s : State} (h : s.running = true)
    (hmode : s.supply.mode ≠ .suspended) (cause : SnapCause) (attempts : List Attempt) :
    s.takeCause cause attempts = s.startSnapshot cause attempts := by
  rw [State.takeCause, State.power_of_running h]
  exact if_neg hmode

theorem State.takeCause_nothing {s : State}
    (h : s.supply.power = .halt ∨ s.supply.power = .snapshotting) (cause : SnapCause)
    (attempts : List Attempt) : s.takeCause cause attempts = s := by
  rcases h with h | h <;> rw [State.takeCause, h]

end Silence

/-! ### RESTART's frame -/

theorem State.serve_restart {s : State} {l : Link} {args : List Byte}
    (h : s.reaches .restart l args = true) :
    (s.serve .restart l args fun t => .answered t none false) =
      s.withPort l ((s.port l).replying 0x00 none) := by
  rw [State.serve_of_reaches h]
  show s.reply l (s.replyBits 0) none = _
  rw [State.replyBits, if_neg (State.reaches_power (by decide) h)]
  rfl

theorem exec_restart {s : State} {l : Link} {args : List Byte}
    (h : s.reaches .restart l args = true) (attempts : List Attempt) :
    exec (.restart l args attempts) s =
      .next ((s.withPort l ((s.port l).replying 0x00 none)).takeCause .restart attempts) := by
  show Host.Outcome.next _ = _
  rw [if_pos h, State.serve_restart h]

theorem exec_pfail (s : State) (attempts : List Attempt) : exec (.pfailActive attempts) s =
    .next (State.takeCause .pfail attempts { s with supply := { s.supply with pfail := true } }) :=
  rfl

theorem exec_rstn (s : State) (attempts : List Attempt) : exec (.rstnActive attempts) s =
    .next (State.takeCause .rstn attempts { s with supply := { s.supply with rstn := true } }) :=
  rfl

/-- The port of RESTART's reply keeps what was in flight, and so do the others. -/
theorem State.port_replying (s : State) (l k : Link) (bits : Byte) :
    ((s.withPort l ((s.port l).replying bits none)).port k).op = (s.port k).op ∧
      ((s.withPort l ((s.port l).replying bits none)).port k).last = (s.port k).last := by
  cases l <;> cases k <;> exact ⟨rfl, rfl⟩

/-- The state in which a cause of a snapshot is taken: its line is active, or RESTART's reply is on its way. -/
def State.caused (s : State) (sup : Supply) (links : Links) : State :=
  { s with supply := sup, links := links }

/-- What the supply and the ports keep when a cause of a snapshot is taken. -/
structure State.Causes (s : State) (sup : Supply) (links : Links) : Prop where
  power : sup.power = s.supply.power
  mode : sup.mode = s.supply.mode
  marks : links.marks = s.links.marks
  op : ∀ k, (links.get k).op = (s.port k).op
  last : ∀ k, (links.get k).last = (s.port k).last

theorem exec_cause {s : State} {attempts : List Attempt} {i : Instr} {cause : SnapCause}
    {sup : Supply} {l : Link} {args : List Byte}
    (h : (i = .pfailActive attempts ∧ cause = .pfail ∧ sup = { s.supply with pfail := true }) ∨
      (i = .rstnActive attempts ∧ cause = .rstn ∧ sup = { s.supply with rstn := true }) ∨
      (i = .restart l args attempts ∧ cause = .restart ∧ sup = s.supply ∧
        s.reaches .restart l args = true)) :
    ∃ links, s.Causes sup links ∧
      exec i s = .next ((s.caused sup links).takeCause cause attempts) := by
  rcases h with ⟨rfl, rfl, rfl⟩ | ⟨rfl, rfl, rfl⟩ | ⟨rfl, rfl, rfl, h⟩
  · exact ⟨s.links, ⟨rfl, rfl, rfl, fun _ => rfl, fun _ => rfl⟩, exec_pfail s attempts⟩
  · exact ⟨s.links, ⟨rfl, rfl, rfl, fun _ => rfl, fun _ => rfl⟩, exec_rstn s attempts⟩
  · exact ⟨s.links.set l ((s.port l).replying 0x00 none), ⟨rfl, rfl, by cases l <;> rfl,
      fun k => (s.port_replying l k 0x00).1, fun k => (s.port_replying l k 0x00).2⟩,
      exec_restart h attempts⟩

/-! ### What a snapshot leaves (R28, R77, R157, R158) -/

/-- The operations of the links that a snapshot ends, link by link. -/
def keptOp (g : State) (start w : State) (k : Link) : Option OpSnapshot :=
  endedOp g.store.fault w.store.fault (start.port k).opSnapshot (g.port k).opSnapshot
    (w.port k).opSnapshot

/-- What a snapshot that begins holds, where `w` is the part as it was wound up. -/
def snapshotOf (w : State) (cause : SnapCause) (kept : Link → Option OpSnapshot) : Snapshot :=
  { second := w.time.counter, cause := cause, mode := w.supply.mode
    withdrawal := w.recorder.withdrawal.map fun x =>
      { x with point := some (x.point.getD (w.time.counter + 1)), started := false }
    accSets := w.recorder.accSets, table := w.recorder.table
    queue := if cause = .pfail then w.recorder.queue ++
      [.event (.plain w.time.counter .powerLoss 0)] else w.recorder.queue
    notStored := w.recorder.notStored, steps := w.recorder.steps
    restarts := w.recorder.restarts, overwritten := w.recorder.overwritten
    tally := w.recorder.tally, closedThrough := w.store.closedThrough
    interval := w.store.interval.ptr, day := w.store.day.ptr, event := w.store.event.ptr
    stackUnits := w.stackUnits, ops := [.plant, .operator, .inspection].map kept
    tables := if w.config.transferPending then some (w.config.active, w.config.stage) else none }

/-- A part whose snapshot is being written, wound up as `w`. -/
structure State.Snapshotting (w : State) (cause : SnapCause) (kept : Link → Option OpSnapshot)
    (u : State) : Prop where
  supply : u.supply = { w.supply with
    power := .snapshotting, taking := some (snapshotOf w cause kept), recoveredTo := none }
  store : u.store = { w.store with mark := false }
  time : u.time = w.time
  config : u.config = w.config
  stackUnits : u.stackUnits = w.stackUnits
  scan : u.scan = { w.scan with synth := .stopped }
  processed : u.sec.processed = false
  norm : u.norm = State.reset.norm
  recorder : u.recorder = { w.recorder with
    queue := (snapshotOf w cause kept).queue, running := List.replicate 32 none }
  arbiter : u.arbiter = { w.arbiter with grant := none, recClaims := [] }
  marks : u.links.marks = w.links.marks
  pending : u.pending = w.pending
  silent : ∀ k, (u.port k).Silent
  last : ∀ k, (kept k = none → (w.port k).op = none) →
    (u.port k).last = lastAfter (kept k) (w.port k).last
  attention : ∀ k, u.attention.get k = { (w.attention.get k) with pending := 0, seen := 0 }

section Begin

variable {w : State} {cause : SnapCause} {kept : Link → Option OpSnapshot}

/-- PFAIL's record where the queue has room for it (R157). -/
theorem State.notePowerLoss_room (h : w.roomFor 1) (kept : Link → Option OpSnapshot) :
    w.notePowerLoss cause = { w with recorder := { w.recorder with
      queue := (snapshotOf w cause kept).queue } } := by
  cases cause with
  | pfail =>
    exact State.writeEvent_room h (.plain w.time.counter .powerLoss 0) EventKind.noConfusion
      EventKind.noConfusion
  | rstn => rfl
  | restart => rfl

theorem State.cutShort_port (t : State) (k : Link) :
    (t.cutShort ([.plant, .operator, .inspection].map kept)).port k =
      (t.port k).cutShort (kept k) := by
  cases k <;> rfl

theorem State.beginWriting_snapshotting (h : w.roomFor 1) (kept : Link → Option OpSnapshot) :
    w.Snapshotting cause kept
      ((((w.notePowerLoss cause).abandonSeconds.stopScan.silence).cutShort
        ([.plant, .operator, .inspection].map kept)).beginWriting
        ((w.notePowerLoss cause).capture cause ([.plant, .operator, .inspection].map kept))) := by
  rw [State.notePowerLoss_room h kept]
  have hport : ∀ (t : State) p k, (t.beginWriting p).port k = t.port k := fun _ _ _ => rfl
  refine ⟨rfl, rfl, rfl, rfl, rfl, rfl, rfl, rfl, rfl, rfl, rfl, rfl, fun k => ?_, fun k hk => ?_,
    fun k => ?_⟩
  · rw [hport, State.cutShort_port, State.silence_port]
    exact (LinkPort.silenced_silent _).cutShort _
  · rw [hport, State.cutShort_port, State.silence_port, LinkPort.cutShort_last,
      LinkPort.silenced_last]
    cases hkept : kept k with
    | some o => rfl
    | none =>
      refine (congrArg (lastAfter · _) ?_ : lastAfter (LinkPort.opSnapshot (w.port k)) _ = _)
      rw [LinkPort.opSnapshot, hk hkept]
      rfl
  · exact State.silence_get _ k

/-- The start of a snapshot (R157). -/
theorem State.startSnapshot_snapshotting {start : State} {attempts : List Attempt}
    (hw : w = (start.finishGrant attempts).2.windUp (start.finishGrant attempts).1)
    (hroom : w.roomFor 1) :
    w.Snapshotting cause (keptOp (start.finishGrant attempts).2 start w)
      (start.startSnapshot cause attempts) := by
  have hlinks : (w.notePowerLoss cause).links = w.links ∧
      (w.notePowerLoss cause).store = w.store := by
    rw [State.notePowerLoss_room hroom fun _ => none]
    exact ⟨rfl, rfl⟩
  rw [State.startSnapshot, ← hw, hlinks.1, hlinks.2]
  exact State.beginWriting_snapshotting hroom _

theorem keptOp_none {g start : State} {k : Link} (h : keptOp g start w k = none) :
    (w.port k).op = none := by
  rw [keptOp, endedOp] at h
  split at h
  · next hsome => rw [h] at hsome; exact absurd hsome (by decide)
  · next hnone =>
    rw [LinkPort.opSnapshot, Option.isSome_map, Bool.not_eq_true, Option.isSome_eq_false_iff,
      Option.isNone_iff_eq_none] at hnone
    exact hnone

end Begin

/-! ### What ends before a snapshot is taken (R15, R78, R122, R157) -/

section WindUp

variable {s : State}

theorem State.finishRewrite_of_other
    (h : ∀ op old new, s.annotation = some op → op.phase ≠ .verified old new) :
    s.finishRewrite = s := by
  rw [State.finishRewrite]
  split
  · rfl
  · next op hop =>
    split
    · next old new hphase => exact absurd hphase (h op old new hop)
    · rfl

theorem State.annotation_of_op {o : LinkOp} {op : AnnOp} (hop : (s.port .operator).op = some o)
    (hcmd : o.cmd = .applyAnnotation op) : s.annotation = some op := by
  rw [State.annotation, State.opCmd, hop, Option.map_some, hcmd]

/-- A rewrite that has verified is counted, and its contribution moves (R121, R122). -/
theorem State.finishRewrite_of_verified {o : LinkOp} {op : AnnOp} {old new : IntervalRec}
    (hop : (s.port .operator).op = some o) (hcmd : o.cmd = .applyAnnotation op)
    (hphase : op.phase = .verified old new) :
    s.finishRewrite = { (s.withPort .operator { (s.port .operator) with op := some {
        cmd := .applyAnnotation { op with
          counts := { op.counts with applied := op.counts.applied + 1 }
          todo := op.todo.tail, phase := .examine }, waiting := o.waiting } }) with
      recorder := { s.recorder with
        table := modEntry (dayOf new.start) new.channel (DayEntry.move old new)
          s.recorder.table } } := by
  have hport : s.links.operator.op = some o := hop
  rw [State.finishRewrite, State.annotation_of_op hop hcmd]
  simp only [hphase, State.completeRewrite, State.setAnnotation, State.setOpCmd, State.modPort,
    State.moveContribution, State.withPort, State.port, Links.get, Links.set, hport,
    Option.map_some, AnnOp.counted, AnnCounts.count]

theorem State.finishTransfer_of_none
    (h : s.config.transferPending = false ∨ s.store.fault = true) (attempts : List Attempt) :
    s.finishTransfer attempts = s := by
  rw [State.finishTransfer, if_neg]
  rintro ⟨hpending, hready⟩
  rcases h with h | h
  · simp [hpending] at h
  · simp [hready] at h

/-- A pending transfer's write (R15, R157). -/
theorem State.finishTransfer_of_pending {x : State} (hpending : s.config.transferPending = true)
    (hready : s.store.fault = false)
    (hx : x = s.programmed { s.nextArea with tables := s.config.active, stage := s.config.stage })
    (attempts : List Attempt) : s.finishTransfer attempts =
      if attempts.headD .verified = .verified ∨ attempts.tail.headD .verified = .verified then
        { x.swapped with config := { s.config with transferPending := false } }
      else x.enterFault (BitVec.ofNat 32 (5 * 16777216)) := by
  have hprogram : s.programTransfer = x := (s.programArea_eq _).trans hx.symm
  rw [State.finishTransfer, if_pos ⟨hpending, hready⟩, hprogram, hx]
  rfl

theorem State.runWork_of_nil (h : s.recorder.work = []) : s.runWork = s := by
  have hnone : s.workOnce = none := by rw [State.workOnce, h, State.workAmong]
  rw [State.runWork, State.runWorkFor, hnone]

/-- The part with nothing in its normaliser and no running averages (R77 to R79). -/
def State.abandoned (s : State) : State :=
  { s with norm := State.reset.norm, recorder := { s.recorder with running := List.replicate 32 none } }

theorem State.accumulateHanded_of_nil (h : s.recorder.handed = []) : s.accumulateHanded = s := by
  rw [State.accumulateHanded, h, List.foldl_nil, ← h]

/-- With nothing handed and no work waiting, only what the normaliser holds is given up. -/
theorem State.finishWork_of_idle (hhanded : s.recorder.handed = []) (hwork : s.recorder.work = []) :
    s.finishWork = s.abandoned := by
  rw [State.finishWork, State.accumulateHanded_of_nil (s := s.abandonSeconds) hhanded,
    State.runWork_of_nil (s := s.abandonSeconds) hwork, ← hwork]
  rfl

theorem State.windUp_of_idle
    (hannotation : ∀ op old new, s.annotation = some op → op.phase ≠ .verified old new)
    (htransfer : s.config.transferPending = false ∨ s.store.fault = true)
    (hhanded : s.recorder.handed = []) (hwork : s.recorder.work = []) (attempts : List Attempt) :
    s.windUp attempts = s.abandoned.finishChangeOver := by
  rw [State.windUp, State.finishRewrite_of_other hannotation, State.finishTransfer_of_none htransfer,
    State.finishWork_of_idle hhanded hwork]

/-- A handed second that completes no interval enters its set (R82). -/
theorem State.addHanded_between {n : NormSet} (h : n.second % 1800 ≠ 1799) :
    s.addHanded n = { s with recorder := { s.recorder with
      accSets := addSecond s.recorder.accSets n } } := by
  rw [State.addHanded, if_neg h]

theorem State.finishChangeOver_config (s : State) :
    s.finishChangeOver.config = { s.config with changeOver := none } := by
  cases h : s.config.changeOver with
  | none => rw [State.finishChangeOver_of_none h, ← h]
  | some old => rw [State.finishChangeOver_of_some h]

theorem keptOp_of_same {g start w : State} {k : Link} (h : (w.port k).op = (start.port k).op) :
    keptOp g start w k = (start.port k).opSnapshot := by
  rw [keptOp, endedOp]
  have hsame : (w.port k).opSnapshot = (start.port k).opSnapshot := by
    rw [LinkPort.opSnapshot, h]
    rfl
  rw [hsame]
  cases hop : (start.port k).opSnapshot with
  | none => simp
  | some o => rfl

end WindUp

/-! ### The end of the writing (R150) -/

section End

variable {s t : State}

theorem exec_snapshotWriteEnd (h : s.supply.power = .snapshotting) (way : SnapshotEnd) :
    exec (.snapshotWriteEnd way) s = .next (s.endWriting way).enterHalt := by
  show Host.Outcome.next _ = _
  rw [h]

theorem exec_snapshotWriteEnd_other (h : s.supply.power ≠ .snapshotting) (way : SnapshotEnd) :
    exec (.snapshotWriteEnd way) s = .next s := by
  show Host.Outcome.next _ = _
  cases hpower : s.supply.power with
  | snapshotting => exact absurd hpower h
  | running => rfl
  | starting => rfl
  | halt => rfl

theorem State.raiseAll_of_not_starting (h : s.supply.power ≠ .starting) (f : FlagSet) :
    s.raiseAll f = s.flagged f := if_neg h

/-- A snapshot that failed twice (R139, R150). -/
theorem State.failSnapshot_room (h : s.supply.power = .snapshotting) (hroom : s.roomFor 1) :
    ∃ w : Word, s.failSnapshot = { s with
      store := { s.store with fault := true, mark := false }
      recorder := { s.recorder with queue := s.recorder.queue ++ [.event {
        time := s.time.counter, kind := .storeFault, stack := none, channel := none
        argument := w }] }
      attention := s.attention.raiseAll flagStore
      freeDraws := s.freeDraws + 1 } := by
  refine ⟨Config.retentionFaultArgument s.draw.1, ?_⟩
  have hpower : s.supply.power ≠ .starting := by simp [h]
  rw [State.failSnapshot, State.writeEvent_room (s := { s.draw.2 with
    store := { s.store with fault := true, mark := false } }) hroom _ EventKind.noConfusion
    EventKind.noConfusion]
  refine (State.raiseAll_of_not_starting ?_ flagStore).trans rfl
  exact hpower

end End

/-! ### The causes, by the phase that they find -/

section Causes

variable {s : State} {sup : Supply} {links : Links}

/-- What a halt without a snapshot leaves (R157, R159). -/
theorem State.Causes.halt (h : s.Causes sup links) (k : Link) :
    ((s.caused sup links).halt.port k).Silent ∧
      ((s.caused sup links).halt.port k).last = lastAfter (s.port k).opSnapshot (s.port k).last ∧
      ((s.caused sup links).halt.attention.get k).pending = 0 := by
  refine ⟨?_, ?_, ?_⟩
  · show ((s.caused sup links).silence.port k).Silent
    rw [State.silence_port]
    exact LinkPort.silenced_silent _
  · show ((s.caused sup links).silence.port k).last = _
    rw [State.silence_port, LinkPort.silenced_last]
    show lastAfter (LinkPort.opSnapshot (links.get k)) (links.get k).last = _
    rw [LinkPort.opSnapshot, h.op, h.last]
    rfl
  · show ((s.caused sup links).silence.attention.get k).pending = 0
    rw [State.silence_get]

/-- The part from which a snapshot is taken where nothing is left to end, but for a change-over (R13, R77). -/
def State.woundUp (s : State) (sup : Supply) (links : Links) : State :=
  { s with
    scan := s.finishChangeOver.scan, stackUnits := s.finishChangeOver.stackUnits
    config := s.finishChangeOver.config, norm := State.reset.norm, supply := sup, links := links
    arbiter := { s.arbiter with grant := none }
    recorder := { s.recorder with running := List.replicate 32 none } }

/-- Where nothing is left to end, a snapshot begins from the part as it stands (R157). -/
theorem State.Causes.snapshot (h : s.Causes sup links)
    (hgrant : ∀ g, s.arbiter.grant = some g → g.begun = false)
    (hannotation : ∀ op old new, s.annotation = some op → op.phase ≠ .verified old new)
    (htransfer : s.config.transferPending = false ∨ s.store.fault = true)
    (hhanded : s.recorder.handed = []) (hwork : s.recorder.work = []) (hroom : s.roomFor 1)
    (cause : SnapCause) (attempts : List Attempt) :
    (s.woundUp sup links).Snapshotting cause (fun k => (s.port k).opSnapshot)
      ((s.caused sup links).startSnapshot cause attempts) := by
  have hidle := State.finishGrant_of_idle (s := s.caused sup links) hgrant attempts
  have hsame : ((s.caused sup links).granted none).annotation = s.annotation :=
    State.annotation_congr (h.op .operator)
  have hwound : s.woundUp sup links = ((s.caused sup links).granted none).windUp attempts := by
    rw [State.windUp_of_idle (s := (s.caused sup links).granted none)
        (by rw [hsame]; exact hannotation) htransfer hhanded hwork,
      State.finishChangeOver_congr (s := s)
        (t := ((s.caused sup links).granted none).abandoned) rfl rfl rfl]
    rfl
  have hkept : keptOp ((s.caused sup links).finishGrant attempts).2 (s.caused sup links)
      (s.woundUp sup links) = fun k => (s.port k).opSnapshot := by
    funext k
    rw [keptOp_of_same (w := s.woundUp sup links) (start := s.caused sup links) rfl,
      LinkPort.opSnapshot]
    exact congrArg (Option.map _) (h.op k)
  have hsnap := State.startSnapshot_snapshotting (w := s.woundUp sup links)
    (start := s.caused sup links) (attempts := attempts) (cause := cause) (by rw [hidle]; exact hwound) hroom
  rw [hkept] at hsnap
  exact hsnap

/-- The start of a snapshot in a running part out of SUSPENDED. -/
theorem State.Causes.takeCause (h : s.Causes sup links) (hrun : s.running = true)
    (hmode : s.supply.mode ≠ .suspended) (cause : SnapCause) (attempts : List Attempt) :
    (s.caused sup links).takeCause cause attempts =
      (s.caused sup links).startSnapshot cause attempts := by
  refine State.takeCause_snapshots (decide_eq_true ?_) ?_ cause attempts
  · exact h.power.trans (State.power_of_running hrun)
  · rw [State.caused, h.mode]
    exact hmode

end Causes

/-- Settles O58: the causes by the phase they find, what ends before a snapshot is taken, and the end of its writing. -/
theorem snapshotsBeginAndEnd : Obligations.SnapshotsBeginAndEnd := by
  refine ⟨?_, ?_, ?_, ?_⟩
  · rintro s attempts i cause sup l args ended hended hcause
    have hlast : ∀ x (v : LinkPort), ended x v = lastAfter x v.last := by
      rintro x v
      rw [hended]
      cases x <;> rfl
    obtain ⟨links, hcauses, hexec⟩ := exec_cause hcause
    refine ⟨?_, ?_, ?_⟩
    · rintro hpower hnot
      rcases hcause with ⟨rfl, -, rfl⟩ | ⟨rfl, -, rfl⟩ | ⟨-, rfl, -⟩
      · refine (exec_pfail s attempts).trans (congrArg _ (State.takeCause_nothing ?_ _ _))
        exact hpower
      · refine (exec_rstn s attempts).trans (congrArg _ (State.takeCause_nothing ?_ _ _))
        exact hpower
      · exact absurd rfl hnot
    · rintro hpower
      have hhalts : (s.caused sup links).takeCause cause attempts = (s.caused sup links).halt := by
        refine State.takeCause_halts ?_ cause attempts
        show sup.power = .starting ∨ sup.power = .running ∧ sup.mode = .suspended
        rw [hcauses.power, hcauses.mode]
        exact hpower.imp_right (And.imp_left State.power_of_running)
      refine ⟨_, hexec.trans (congrArg _ hhalts), rfl, rfl, rfl, rfl, rfl, rfl, rfl, rfl, fun k => ?_⟩
      obtain ⟨hsilent, hresult, hpending⟩ := hcauses.halt k
      exact ⟨hsilent.recv, hsilent.op, hsilent.readout, hsilent.tx, hsilent.leaving,
        hresult.trans (hlast _ _).symm, hpending⟩
    · rintro p hrun hmode hgrant hannotation htransfer hhanded hwork hroom hp
      have hsnap := hcauses.snapshot hgrant hannotation htransfer hhanded hwork hroom cause attempts
      have hsnapshot : snapshotOf (s.woundUp sup links) cause (fun k => (s.port k).opSnapshot) =
          p := by
        rw [hp, snapshotOf, State.woundUp, s.finishChangeOver_config, ← hcauses.mode]
        rfl
      obtain ⟨hsupply, hstore, htime, hconfig, hunits, hscan, hprocessed, hnorm, hrecorder, harbiter,
        hmarks, hpending, hsilent, hlasts, hattention⟩ := hsnap
      rw [hsnapshot] at hsupply hrecorder
      refine ⟨_, hexec.trans (congrArg _ (hcauses.takeCause hrun hmode cause attempts)), hsupply,
        hstore, htime, hconfig.trans s.finishChangeOver_config, ?_, hscan, hprocessed, hnorm,
        hrecorder, harbiter, hmarks.trans hcauses.marks, hpending, fun k => ?_⟩
      · rw [hunits, hp]
        rfl
      · obtain ⟨hrecv, hop, hreadout, htx, hleaving⟩ := hsilent k
        have hresult := hlasts k fun hnone =>
          (hcauses.op k).trans (Option.map_eq_none_iff.1 hnone)
        refine ⟨hrecv, hop, hreadout, htx, hleaving, ?_, ?_, ?_, ?_⟩
        · rw [hresult, hlast]
          exact congrArg (lastAfter _) (hcauses.last k)
        · rw [hattention]
        · rw [hattention]
        · rw [hattention]
          rfl
  · rintro s start w attempts i cause l args g snap kept p hcause hrun hmode hg hw hroom hsnap
      hkept hp
    have hexec : exec i s = .next (start.takeCause cause attempts) ∧
        start.supply.power = s.supply.power ∧ start.supply.mode = s.supply.mode := by
      rcases hcause with ⟨rfl, rfl, rfl⟩ | ⟨rfl, rfl, rfl⟩ | ⟨rfl, rfl, hreaches, rfl⟩
      · exact ⟨exec_pfail s attempts, rfl, rfl⟩
      · exact ⟨exec_rstn s attempts, rfl, rfl⟩
      · exact ⟨exec_restart hreaches attempts, rfl, rfl⟩
    obtain ⟨hexec, hpower, hstartMode⟩ := hexec
    have hstarts := State.takeCause_snapshots (s := start)
      (decide_eq_true (hpower.trans (State.power_of_running hrun))) (by rw [hstartMode]; exact hmode)
      cause attempts
    subst hg
    have hends : keptOp (start.finishGrant attempts).2 start w = kept := by
      funext k
      rw [hkept, hsnap, keptOp, endedOp]
      simp only [LinkPort.opSnapshot, Option.isSome_map]
    have hsnapshot : snapshotOf w cause kept = p := hp.symm
    obtain ⟨hsupply, hstore, htime, hconfig, hunits, hscan, hprocessed, hnorm, hrecorder, harbiter,
      hmarks, hpending, hsilent, hlasts, hattention⟩ :=
        State.startSnapshot_snapshotting (cause := cause) hw hroom
    rw [hends, hsnapshot] at hsupply hrecorder
    refine ⟨_, hexec.trans (congrArg _ hstarts), hsupply, hstore, htime, hconfig, hunits, hscan,
      hprocessed, hnorm, hrecorder, harbiter, hmarks, hpending, fun k => ?_⟩
    obtain ⟨hrecv, hop, hreadout, htx, hleaving⟩ := hsilent k
    refine ⟨hop, ?_, hrecv, hreadout, htx, hleaving, ?_, ?_⟩
    · rw [hlasts k keptOp_none, hends]
      cases kept k <;> rfl
    · rw [hattention]
    · rw [hattention]
  · rintro s x attempts
    refine ⟨fun h => State.finishGrant_of_idle h attempts, fun g a hrun hgrant hbegun ha => ?_,
      State.finishRewrite_of_other, fun o op old new hop hcmd hphase =>
        State.finishRewrite_of_verified hop hcmd hphase, fun h =>
        State.finishTransfer_of_none h attempts, fun hpending hready hx => ?_, fun hx => ?_,
      fun n hn => State.addHanded_between hn⟩
    · rw [ha]
      exact ⟨exec_writeAttemptComplete hrun hgrant hbegun _,
        State.finishGrant_of_begun hgrant hbegun attempts⟩
    · rw [State.finishTransfer_of_pending hpending hready hx]
      exact ⟨fun h => if_pos h, fun h => if_neg (by rw [not_or]; exact h)⟩
    · rw [hx]
      rfl
  · rintro s way
    refine ⟨fun h => exec_snapshotWriteEnd_other h way, fun p t hpower htaking ht => ?_,
      fun h => ?_, fun h => ?_⟩
    · refine ⟨?_, ?_, fun hroom => ?_⟩
      · rw [exec_snapshotWriteEnd hpower, State.endWriting, State.keepSnapshot, htaking, ht]
        rfl
      · rw [exec_snapshotWriteEnd hpower, ht]
        rfl
      · obtain ⟨w, hw⟩ := State.failSnapshot_room hpower hroom
        refine ⟨w, ?_⟩
        rw [exec_snapshotWriteEnd hpower, State.endWriting, hw, ht]
        rfl
    · show Host.Outcome.next _ = _
      rw [h]
    · show Host.Outcome.next _ = _
      cases hpower : s.supply.power with
      | halt => exact absurd hpower h
      | running => rfl
      | starting => rfl
      | snapshotting => rfl

end Sys2Proof.Machine
end

section
/-! The recorder's occasions and how they are drained (R107, R112), and the closes of held sets (R95). -/

namespace Sys2Proof.Machine

/-! ### Days of a table -/

/-- The dates of a provisional day table. -/
def days (table : List ProvDay) : List Nat := table.map ProvDay.day

section Days

variable (table : List ProvDay)

theorem mem_days_joinDay (d x : Nat) : x ∈ days (joinDay d table) ↔ x = d ∨ x ∈ days table := by
  induction table with
  | nil => simp [joinDay, days]
  | cons p rest ih =>
    rw [joinDay]
    split
    · simp [days]
    · split
      · next h => simp [days, h]
      · have hstep : x ∈ days (p :: joinDay d rest) ↔ x = p.day ∨ x ∈ days (joinDay d rest) := by
          simp [days]
        rw [hstep, ih]
        simp only [days, List.map_cons, List.mem_cons]
        exact or_left_comm

theorem length_joinDay_le (d : Nat) : (joinDay d table).length ≤ table.length + 1 := by
  induction table with
  | nil => exact Nat.le_refl _
  | cons p rest ih =>
    rw [joinDay]
    split
    · exact Nat.le_refl _
    · split
      · exact Nat.le_succ _
      · exact Nat.succ_le_succ ih

theorem days_modEntry (d c : Nat) (f : DayEntry → DayEntry) :
    days (modEntry d c f table) = days table := by
  rw [days, modEntry, List.map_map]
  refine List.map_congr_left fun p _ => ?_
  simp only [Function.comp_apply]
  split <;> rfl

theorem mem_days_joinDays (n : Nat) : ∀ (first : Nat) (table : List ProvDay) (x : Nat),
    x ∈ days (joinDays first n table) ↔ x ∈ days table ∨ first ≤ x ∧ x < first + n := by
  induction n with
  | zero =>
    intro first table x
    rw [joinDays]
    refine ⟨.inl, fun h => h.resolve_right fun h => ?_⟩
    omega
  | succ n ih =>
    intro first table x
    rw [joinDays, ih, mem_days_joinDay, or_comm (a := x = first), or_assoc]
    refine or_congr_right ?_
    omega

theorem mem_days {table : List ProvDay} {p : ProvDay} (h : p ∈ table) : p.day ∈ days table :=
  List.mem_map_of_mem h

theorem mem_days_filter (q : Nat → Bool) (x : Nat) :
    x ∈ days (table.filter fun p => q p.day) ↔ x ∈ days table ∧ q x = true := by
  simp only [days, List.mem_map, List.mem_filter]
  constructor
  · rintro ⟨p, ⟨hp, hq⟩, rfl⟩
    exact ⟨⟨p, hp, rfl⟩, hq⟩
  · rintro ⟨⟨p, hp, rfl⟩, hq⟩
    exact ⟨p, ⟨hp, hq⟩, rfl⟩

end Days

/-! ### One occasion -/

/-- The table after an occasion: the days of its range are closed, and its day has joined (R106, R107). -/
def Occasion.drain (o : Occasion) (table : List ProvDay) : List ProvDay :=
  let rest := table.filter fun p => !o.range.holds p.day
  match o.joins with
  | none => rest
  | some d => joinDay d rest

section Occasions

variable {s : State} {o : Occasion} {rest : List RecorderWork}

theorem Occasion.due_eq_none {table : List ProvDay} (h : o.due table = none) :
    (table.filter fun p => !o.range.holds p.day) = table := by
  rw [List.filter_eq_self]
  intro p hp
  have := List.find?_eq_none.1 h p hp
  simpa using this

theorem Occasion.due_holds {table : List ProvDay} {p : ProvDay} (h : o.due table = some p) :
    p ∈ table ∧ o.range.holds p.day = true :=
  ⟨List.mem_of_find?_eq_some h, List.find?_some (p := fun q : ProvDay => o.range.holds q.day) h⟩

theorem State.workAmong_of_kept {ws : List RecorderWork} (h : ∀ w ∈ ws, w.isOccasion = true) :
    ∀ kept : List RecorderWork, kept ≠ [] → s.workAmong kept ws = none := by
  induction ws with
  | nil => exact fun _ _ => rfl
  | cons w rest ih =>
    intro kept hkept
    cases w with
    | closeStepped start => exact absurd (h _ List.mem_cons_self) Bool.false_ne_true
    | record e => exact absurd (h _ List.mem_cons_self) Bool.false_ne_true
    | occasion o =>
      rw [State.workAmong]
      simp only [hkept, false_and, if_false]
      exact ih (fun w hw => h w (List.mem_cons_of_mem _ hw)) _ (by simp)

/-- An occasion with a day still to close is left in its place. -/
theorem State.runWork_of_due {p : ProvDay} (hwork : s.recorder.work = .occasion o :: rest)
    (hrest : ∀ w ∈ rest, w.isOccasion = true) (hdue : o.due s.recorder.table = some p) :
    s.runWork = s := by
  have hnone : s.workOnce = none := by
    rw [State.workOnce, hwork, State.workAmong]
    simp only [hdue, reduceCtorEq, and_false, if_false]
    exact State.workAmong_of_kept hrest _ (by simp)
  rw [State.runWork, State.runWorkFor, hnone]

theorem State.joinFor_work (o : Occasion) (s : State) :
    (s.joinFor o).recorder.work = s.recorder.work := by
  rw [State.joinFor]
  split <;> rfl

theorem State.finishWithdrawal_work (point count : Nat) (s : State) :
    (s.finishWithdrawal point count).recorder.work = s.recorder.work := by
  have h : (s.note .withdrawn point count).finalSlots.releaseWithdrawal.recorder.work =
      s.recorder.work := ((s.note_tallied _ _ _).trans (State.finalSlots_tallied _)).work
  rw [State.finishWithdrawal]
  split
  · exact (State.endOp_tallied _ _ _ _ _ _).work.trans h
  · exact h

/-- The end of an occasion leaves the work behind it. -/
theorem State.endOccasion_work (o : Occasion) (s : State) :
    (s.endOccasion o).recorder.work = s.recorder.work := by
  have hjoin := s.joinFor_work o
  cases hcause : o.cause with
  | scheduled => rw [State.endOccasion_scheduled hcause, hjoin]
  | commanded =>
    rw [State.endOccasion_commanded hcause, (State.endOp_tallied _ _ _ _ _ _).work, hjoin]
  | withdrawal =>
    cases hw : (s.joinFor o).recorder.withdrawal with
    | none => rw [State.endOccasion_withdrawn hcause hw, hjoin]
    | some w => rw [State.endOccasion_withdrawal hcause hw, State.finishWithdrawal_work, hjoin]

/-- An occasion with nothing left to close ends, and the work behind it goes on. -/
theorem State.runWork_of_ended (hwork : s.recorder.work = .occasion o :: rest)
    (hdue : o.due s.recorder.table = none) :
    s.runWork = ((s.putWork rest).endOccasion o).runWork := by
  refine State.runWork_of_once hwork (congrArg _ (State.endOccasion_work o _)) ?_
  rw [State.workOnce, hwork, State.workAmong]
  simp only [hdue, and_self, if_true]
  rfl

/-! ### Draining -/

theorem State.drainCloses_congr {t : State} (h : s.runWork = t.runWork) (n : Nat) :
    s.drainCloses n = t.drainCloses n := by
  cases n with
  | zero => exact h
  | succ n => rw [State.drainCloses, State.drainCloses, h]

theorem State.drainCloses_of_nil (h : s.recorder.work = []) (n : Nat) : s.drainCloses n = s := by
  have hrun := State.runWork_of_nil h
  cases n with
  | zero => exact hrun
  | succ n =>
    have hnone : s.dueClose = none := by rw [State.dueClose, h]
    rw [State.drainCloses, hrun, hnone]

theorem State.drainCloses_of_due {p : ProvDay} (hwork : s.recorder.work = .occasion o :: rest)
    (hrest : ∀ w ∈ rest, w.isOccasion = true) (hdue : o.due s.recorder.table = some p)
    (hwaits : s.closeWaits o.cause p.day = false) (n : Nat) :
    s.drainCloses (n + 1) = (s.closeNextDay o p rest).drainCloses n := by
  have hclose : s.dueClose = some (o, p, rest) := by
    rw [State.dueClose, hwork]
    simp only [hdue, hwaits, Bool.false_eq_true, if_false]
  rw [State.drainCloses, State.runWork_of_due hwork hrest hdue, hclose]

theorem State.closeNextDay_table (o : Occasion) (p : ProvDay) (rest : List RecorderWork)
    (s : State) : (s.closeNextDay o p rest).recorder.table =
      s.recorder.table.filter fun q => decide (q.day ≠ p.day) := by
  have hcount : ∀ t : State, (t.countWithdrawn o.cause).recorder.table = t.recorder.table := by
    intro t
    cases o.cause <;> rfl
  exact (hcount _).trans (s.closeDay_closed _ _ _).table

theorem State.closeNextDay_accSets (o : Occasion) (p : ProvDay) (rest : List RecorderWork)
    (s : State) : (s.closeNextDay o p rest).recorder.accSets = s.recorder.accSets := by
  have hcount : ∀ t : State, (t.countWithdrawn o.cause).recorder.accSets = t.recorder.accSets := by
    intro t
    cases o.cause <;> rfl
  exact (hcount _).trans (s.closeDay_closed _ _ _).accSets

/-- The days of an occasion's range. -/
def Occasion.inRange (o : Occasion) (table : List ProvDay) : Nat :=
  table.countP fun p => o.range.holds p.day

theorem Occasion.inRange_le (o : Occasion) (table : List ProvDay) :
    (table.filter fun p => !o.range.holds p.day).length + o.inRange table = table.length := by
  induction table with
  | nil => rfl
  | cons p rest ih =>
    rw [Occasion.inRange] at ih ⊢
    cases h : o.range.holds p.day <;> simp [h] <;> omega

/-- The close of a day of the range leaves one fewer there. -/
theorem Occasion.inRange_closed {table : List ProvDay} {p : ProvDay}
    (h : o.due table = some p) :
    o.inRange (table.filter fun q => decide (q.day ≠ p.day)) < o.inRange table := by
  obtain ⟨hmem, hholds⟩ := Occasion.due_holds h
  rw [Occasion.inRange, Occasion.inRange, List.countP_eq_countP_filter_add table
    (fun q => o.range.holds q.day) (fun q => decide (q.day ≠ p.day))]
  refine Nat.lt_add_of_pos_right (List.countP_pos_iff.2 ⟨p, ?_, hholds⟩)
  simp [hmem]

/-- The close of a day of the range leaves the days out of the range. -/
theorem Occasion.filter_closed {table : List ProvDay} {p : ProvDay}
    (h : o.due table = some p) :
    ((table.filter fun q => decide (q.day ≠ p.day)).filter fun q => !o.range.holds q.day) =
      table.filter fun q => !o.range.holds q.day := by
  rw [List.filter_filter]
  refine List.filter_congr fun q _ => ?_
  by_cases hq : q.day = p.day
  · simp [hq, (Occasion.due_holds h).2]
  · simp [hq]

/-- The closes of one occasion are made one after another. `I` is what each of them keeps. -/
theorem State.drainCloses_of_occasion {I : State → Prop} (hrest : ∀ w ∈ rest, w.isOccasion = true)
    (hstep : ∀ (t : State) (c : Nat) (p : ProvDay), I t →
      t.recorder.work = .occasion { o with closed := c } :: rest →
      o.due t.recorder.table = some p → t.closeWaits o.cause p.day = false ∧
        I (t.closeNextDay { o with closed := c } p rest)) (n : Nat) :
    ∀ (s : State) (c : Nat), I s → s.recorder.work = .occasion { o with closed := c } :: rest →
      o.inRange s.recorder.table ≤ n →
      ∃ (m c' : Nat) (t : State), s.drainCloses n = t.drainCloses m ∧ I t ∧
        t.recorder.work = .occasion { o with closed := c' } :: rest ∧
        t.recorder.table = (s.recorder.table.filter fun p => !o.range.holds p.day) ∧
        n ≤ m + o.inRange s.recorder.table := by
  induction n with
  | zero =>
    intro s c hI hwork hn
    cases hdue : o.due s.recorder.table with
    | none => exact ⟨0, c, s, rfl, hI, hwork, (Occasion.due_eq_none hdue).symm, Nat.zero_le _⟩
    | some p => exact absurd (Nat.lt_of_lt_of_le (Occasion.inRange_closed hdue) hn) (Nat.not_lt_zero _)
  | succ n ih =>
    intro s c hI hwork hn
    cases hdue : o.due s.recorder.table with
    | none =>
      exact ⟨n + 1, c, s, rfl, hI, hwork, (Occasion.due_eq_none hdue).symm, Nat.le_add_right _ _⟩
    | some p =>
      obtain ⟨hwaits, hnext⟩ := hstep s c p hI hwork hdue
      have htable := s.closeNextDay_table { o with closed := c } p rest
      have hless := Occasion.inRange_closed hdue
      obtain ⟨m, c', t, hdrain, hIt, hworkt, htablet, hle⟩ := ih
        (s.closeNextDay { o with closed := c } p rest) (c + 1) hnext rfl (by rw [htable]; omega)
      refine ⟨m, c', t, ?_, hIt, hworkt, ?_, ?_⟩
      · rw [← hdrain]
        exact State.drainCloses_of_due (o := { o with closed := c }) hwork hrest hdue hwaits n
      · rw [htablet, htable, Occasion.filter_closed hdue]
      · rw [htable] at hle
        omega

end Occasions

/-! ### Scheduled occasions -/

/-- A part whose occasions have been drained, down to a table. -/
structure State.Drained (s : State) (table : List ProvDay) (t : State) : Prop where
  recorded : s.Recorded t
  accSets : t.recorder.accSets = s.recorder.accSets
  withdrawal : t.recorder.withdrawal = s.recorder.withdrawal
  work : t.recorder.work = []
  table : t.recorder.table = table

section Scheduled

/-- What closes keep where nothing but days is closed. -/
structure State.DaysOnly (s t : State) : Prop where
  recorded : s.Recorded t
  accSets : t.recorder.accSets = s.recorder.accSets
  withdrawal : t.recorder.withdrawal = s.recorder.withdrawal

theorem State.DaysOnly.trans {s t u : State} (h : s.DaysOnly t) (k : t.DaysOnly u) :
    s.DaysOnly u :=
  ⟨h.recorded.trans k.recorded, k.accSets.trans h.accSets, k.withdrawal.trans h.withdrawal⟩

theorem State.closeNextDay_daysOnly {o : Occasion} (h : o.cause = .scheduled) (p : ProvDay)
    (rest : List RecorderWork) (s : State) : s.DaysOnly (s.closeNextDay o p rest) := by
  have hclosed := s.closeDay_closed (s.governs o) o.cause p
  have heq : s.closeNextDay o p rest = (s.closeDay (s.governs o) o.cause p).putWork
      (.occasion { o with closed := o.closed + 1 } :: rest) := by
    rw [State.closeNextDay, h]
    rfl
  rw [heq]
  exact ⟨hclosed.recorded.trans (State.recorder_recorded _), hclosed.accSets, hclosed.withdrawal⟩

theorem State.closeWaits_scheduled {s : State} (h : s.annotation = none) (day : Nat) :
    s.closeWaits .scheduled day = false := by
  rw [State.closeWaits, State.rewritingOn, h]
  rfl

theorem State.endOccasion_daysOnly {o : Occasion} (h : o.cause = .scheduled)
    (rest : List RecorderWork) (s : State) : s.DaysOnly ((s.putWork rest).endOccasion o) ∧
      ((s.putWork rest).endOccasion o).recorder.work = rest := by
  rw [State.endOccasion_scheduled h, State.joinFor]
  cases o.joins with
  | none => exact ⟨⟨s.recorder_recorded, rfl, rfl⟩, rfl⟩
  | some d => exact ⟨⟨s.recorder_recorded, rfl, rfl⟩, rfl⟩

/-- Where the days of its range are closed, the end of an occasion leaves its table. -/
theorem State.endOccasion_table {s : State} {o : Occasion} (h : o.cause = .scheduled)
    (rest : List RecorderWork) {table : List ProvDay}
    (htable : s.recorder.table = table.filter fun p => !o.range.holds p.day) :
    ((s.putWork rest).endOccasion o).recorder.table = o.drain table := by
  rw [State.endOccasion_scheduled h, State.joinFor, Occasion.drain]
  cases o.joins with
  | none => exact htable
  | some d => exact congrArg (Machine.joinDay d) htable

theorem Occasion.due_filtered (o : Occasion) (table : List ProvDay) :
    o.due (table.filter fun p => !o.range.holds p.day) = none := by
  rw [Occasion.due, List.find?_eq_none]
  intro p hp
  simpa using (List.mem_filter.1 hp).2

theorem Occasion.length_drain_le (o : Occasion) (table : List ProvDay) :
    (o.drain table).length + o.inRange table ≤ table.length + 1 := by
  have hle := o.inRange_le table
  rw [Occasion.drain]
  split
  · omega
  · next d _ =>
    have := length_joinDay_le (table.filter fun p => !o.range.holds p.day) d
    omega

/-- Scheduled occasions drain one after another, whatever bound is large enough (R45, R107). -/
theorem State.drainCloses_scheduled (os : List Occasion) : ∀ (s : State) (n : Nat),
    s.recorder.work = os.map .occasion → (∀ o ∈ os, o.cause = .scheduled) → s.annotation = none →
    s.recorder.table.length + os.length ≤ n →
    s.Drained (os.foldl (fun table o => o.drain table) s.recorder.table) (s.drainCloses n) := by
  induction os with
  | nil =>
    intro s n hwork _ _ _
    rw [State.drainCloses_of_nil hwork]
    exact ⟨.refl s, rfl, rfl, hwork, rfl⟩
  | cons o os ih =>
    intro s n hwork hcause hannotation hn
    have hscheduled := hcause o List.mem_cons_self
    have hrest : ∀ w ∈ os.map RecorderWork.occasion, w.isOccasion = true := by
      intro w hw
      obtain ⟨o', -, rfl⟩ := List.mem_map.1 hw
      rfl
    have hle := o.inRange_le s.recorder.table
    obtain ⟨m, c, t, hdrain, ht, hworkt, htable, hm⟩ := State.drainCloses_of_occasion
      (I := s.DaysOnly) (o := o) hrest (fun t c p ht _ _ =>
        ⟨by rw [hscheduled]; exact State.closeWaits_scheduled (ht.recorded.annotation hannotation) _,
          ht.trans (State.closeNextDay_daysOnly (o := { o with closed := c }) hscheduled p _ t)⟩)
      n s o.closed ⟨.refl s, rfl, rfl⟩ hwork (by rw [List.length_cons] at hn; omega)
    let u : State := (t.putWork (os.map .occasion)).endOccasion { o with closed := c }
    have hended : t.drainCloses m = u.drainCloses m :=
      State.drainCloses_congr (State.runWork_of_ended hworkt (by
        rw [htable]
        exact o.due_filtered _)) m
    obtain ⟨hu, hworku⟩ := State.endOccasion_daysOnly (o := { o with closed := c }) hscheduled
      (os.map .occasion) t
    have htableu : u.recorder.table = o.drain s.recorder.table :=
      State.endOccasion_table (o := { o with closed := c }) hscheduled _ htable
    have hlen := o.length_drain_le s.recorder.table
    have hall := ht.trans hu
    have hdone := ih u m hworku (fun o' ho' => hcause o' (List.mem_cons_of_mem _ ho'))
      (hall.recorded.annotation hannotation) (by
        rw [htableu]
        rw [List.length_cons] at hn
        omega)
    rw [hdrain, hended, List.foldl_cons, ← htableu]
    exact ⟨hall.recorded.trans hdone.recorded, hdone.accSets.trans hall.accSets,
      hdone.withdrawal.trans hall.withdrawal, hdone.work, hdone.table⟩

end Scheduled

end Sys2Proof.Machine
end

section
/-! The closes of held sets, one after another (R86, R95, R97). -/

namespace Sys2Proof.Machine

/-! ### Held flags stay -/

theorem BitVec.or_and_of_left {n : Nat} {x : BitVec n} (y : BitVec n) {g : BitVec n}
    (h : x &&& g = g) : (x ||| y) &&& g = g := by
  rw [BitVec.or_comm]
  exact BitVec.or_and_of_and y h

theorem State.Recorded.holds {s t : State} (h : s.Recorded t) {f : FlagSet}
    (hs : s.attention.held &&& f = f) : t.attention.held &&& f = f := by
  obtain ⟨g, hg⟩ := h.held
  rw [hg]
  exact BitVec.or_and_of_left g hs

/-! ### Records handed on -/

/-- What records of one day that are handed on change (R97): their day joins. -/
structure State.Handed (s : State) (d : Nat) (t : State) : Prop where
  recorded : s.Recorded t
  accSets : t.recorder.accSets = s.recorder.accSets
  work : t.recorder.work = s.recorder.work
  withdrawal : t.recorder.withdrawal = s.recorder.withdrawal
  new : ∀ x ∈ days t.recorder.table, x = d ∨ x ∈ days s.recorder.table
  old : ∀ x ∈ days s.recorder.table, x ∈ days t.recorder.table

namespace State.Handed

variable {s t u : State} {d : Nat}

theorem trans (h : s.Handed d t) (k : t.Handed d u) : s.Handed d u :=
  ⟨h.recorded.trans k.recorded, k.accSets.trans h.accSets, k.work.trans h.work,
    k.withdrawal.trans h.withdrawal, fun x hx => (k.new x hx).elim .inl (h.new x),
    fun x hx => k.old x (h.old x hx)⟩

theorem of_tallied (h : s.Tallied t) : s.Handed d t :=
  ⟨h.recorded, h.accSets, h.work, h.withdrawal, fun _ hx => .inr (h.table ▸ hx),
    fun _ hx => h.table ▸ hx⟩

end State.Handed

section Closes

variable (s : State)

theorem State.handOn_handed (r : IntervalRec) : s.Handed (dayOf r.start) (s.handOn r) := by
  have hoffer := s.offer_tallied (.interval r)
  have hdays : days (s.handOn r).recorder.table =
      days (Machine.joinDay (dayOf r.start) s.recorder.table) := by
    rw [← hoffer.table]
    exact days_modEntry _ _ _ _
  refine ⟨s.handOn_recorded r, hoffer.accSets, hoffer.work, hoffer.withdrawal, fun x hx => ?_,
    fun x hx => ?_⟩
  · rw [hdays, mem_days_joinDay] at hx
    exact hx
  · rw [hdays, mem_days_joinDay]
    exact .inr hx

theorem State.foldl_handOn_handed {start : Nat} (rs : List IntervalRec)
    (h : ∀ r ∈ rs, r.start = start) : ∀ s : State, s.Handed (dayOf start) (rs.foldl State.handOn s) := by
  induction rs with
  | nil => exact fun s => .of_tallied (.refl s)
  | cons r rest ih =>
    intro s
    have hfirst := s.handOn_handed r
    rw [h r List.mem_cons_self] at hfirst
    exact hfirst.trans (ih (fun r' hr' => h r' (List.mem_cons_of_mem _ hr')) _)

theorem State.handOnAll_handed {start : Nat} {rs : List IntervalRec}
    (h : ∀ r ∈ rs, r.start = start) : s.Handed (dayOf start) (s.handOnAll rs) :=
  (State.foldl_handOn_handed rs h s).trans
    (.of_tallied ((State.raiseAll_tallied _ _).ite (State.raiseAll_tallied _ _)))

/-- In a recovery the flag of a close is held (R162, R179). -/
theorem State.handOnAll_held (h : s.supply.power = .starting) (rs : List IntervalRec) :
    (s.handOnAll rs).attention.held &&& flagIntervalClosed = flagIntervalClosed := by
  have hpower : (rs.foldl State.handOn s).supply.power = .starting := by
    rw [(State.Recorded.foldl State.handOn_recorded rs s).supply, h]
  have hfirst : ((rs.foldl State.handOn s).raiseAll flagIntervalClosed).attention.held &&&
      flagIntervalClosed = flagIntervalClosed := by
    rw [State.raiseAll, if_pos hpower]
    exact BitVec.or_and_of_and _ (by decide)
  rw [State.handOnAll]
  split
  · exact (State.raiseAll_tallied _ _).recorded.holds hfirst
  · exact hfirst

/-! ### Sets closed -/

/-- What the closes of held sets change: the sets are gone, and their days have joined (R86, R106). -/
structure State.SetsClosed (s : State) (starts : List Nat) (t : State) : Prop where
  recorded : s.Recorded t
  accSets : t.recorder.accSets = s.recorder.accSets.filter fun a => decide (a.start ∉ starts)
  work : t.recorder.work = s.recorder.work
  withdrawal : t.recorder.withdrawal = s.recorder.withdrawal
  new : ∀ x ∈ days t.recorder.table, x ∈ days s.recorder.table ∨
    ∃ a ∈ s.recorder.accSets, x = dayOf a.start
  old : ∀ x ∈ days s.recorder.table, x ∈ days t.recorder.table

theorem markSet_of_absent {start : Nat} {sets : List AccSet}
    (h : sets.find? (fun a => decide (a.start = start)) = none) (t i : Bool) :
    markSet start t i sets = sets := by
  rw [markSet_eq]
  refine (List.map_congr_left fun a ha => ?_).trans (List.map_id _)
  have := List.find?_eq_none.1 h a ha
  rw [if_neg (by simpa using this)]
  rfl

theorem State.closeSetFlagged_of_absent {start : Nat}
    (h : s.recorder.accSets.find? (fun a => decide (a.start = start)) = none) (t i : Bool) :
    s.closeSetFlagged start t i = s := by
  rw [State.closeSetFlagged, markSet_of_absent h, State.closeSet, h]

theorem State.closeSetFlagged_closed (start : Nat) (t i : Bool) :
    s.SetsClosed [start] (s.closeSetFlagged start t i) := by
  have hfilter : (s.recorder.accSets.filter fun a => decide (a.start ∉ [start])) =
      s.recorder.accSets.filter fun a => decide (a.start ≠ start) := by
    simp only [List.mem_singleton, ne_eq]
  cases h : s.recorder.accSets.find? (fun a => decide (a.start = start)) with
  | none =>
    have hself : s.recorder.accSets.filter (fun a => decide (a.start ≠ start)) =
        s.recorder.accSets := by
      rw [List.filter_eq_self]
      intro a ha
      simpa using List.find?_eq_none.1 h a ha
    rw [s.closeSetFlagged_of_absent h]
    exact ⟨.refl s, (hfilter.trans hself).symm, rfl, rfl, fun _ hx => .inl hx, fun _ hx => hx⟩
  | some a =>
    have hmem := List.mem_of_find?_eq_some h
    have hstart : a.start = start := by simpa using List.find?_some h
    rw [State.closeSetFlagged_of_find h]
    have hhanded := State.handOnAll_handed (start := a.start) (rs := a.closing t i)
      (s.putSets (s.recorder.accSets.filter fun b => decide (b.start ≠ start)))
      (fun r hr => by
        obtain ⟨x, -, rfl⟩ := List.mem_map.1 hr
        rfl)
    exact ⟨s.recorder_recorded.trans hhanded.recorded, hhanded.accSets.trans hfilter.symm,
      hhanded.work, hhanded.withdrawal,
      fun x hx => (hhanded.new x hx).elim (fun hd => .inr ⟨a, hmem, hd⟩) .inl, hhanded.old⟩

theorem State.SetsClosed.trans {s t u : State} {xs ys : List Nat} (h : s.SetsClosed xs t)
    (k : t.SetsClosed ys u) : s.SetsClosed (xs ++ ys) u := by
  refine ⟨h.recorded.trans k.recorded, ?_, k.work.trans h.work, k.withdrawal.trans h.withdrawal,
    fun x hx => ?_, fun x hx => k.old x (h.old x hx)⟩
  · rw [k.accSets, h.accSets, List.filter_filter]
    refine List.filter_congr fun a _ => ?_
    simp only [List.mem_append, not_or, Bool.decide_and, Bool.and_comm]
  · rcases k.new x hx with hx | ⟨a, ha, hd⟩
    · exact h.new x hx
    · rw [h.accSets] at ha
      exact .inr ⟨a, (List.mem_filter.1 ha).1, hd⟩

theorem State.foldl_closeSetFlagged_closed (t i : Bool) (starts : List Nat) : ∀ s : State,
    s.SetsClosed starts (starts.foldl (fun u start => u.closeSetFlagged start t i) s) := by
  induction starts with
  | nil =>
    exact fun s => ⟨.refl s, by simp, rfl, rfl, fun _ hx => .inl hx, fun _ hx => hx⟩
  | cons start rest ih =>
    exact fun s => (s.closeSetFlagged_closed start t i).trans (ih _)

/-- Where every held set closes, none is left. -/
theorem State.SetsClosed.none_left {s t : State}
    (h : s.SetsClosed (s.recorder.accSets.map AccSet.start) t) : t.recorder.accSets = [] := by
  rw [h.accSets, List.filter_eq_nil_iff]
  intro a ha
  simpa using ⟨a, ha, rfl⟩

theorem State.foldl_closeSetFlagged_held (h : s.supply.power = .starting) (t i : Bool)
    (hsome : s.recorder.accSets ≠ []) :
    ((s.recorder.accSets.map AccSet.start).foldl (fun u start => u.closeSetFlagged start t i)
      s).attention.held &&& flagIntervalClosed = flagIntervalClosed := by
  obtain ⟨a, rest, hsets⟩ := List.exists_cons_of_ne_nil hsome
  have hfind : s.recorder.accSets.find? (fun x => decide (x.start = a.start)) = some a := by
    rw [hsets]
    exact List.find?_cons_of_pos (decide_eq_true rfl)
  have hfirst : (s.closeSetFlagged a.start t i).attention.held &&& flagIntervalClosed =
      flagIntervalClosed := by
    rw [State.closeSetFlagged_of_find hfind]
    refine State.handOnAll_held _ ?_ _
    exact h
  rw [hsets, List.map_cons, List.foldl_cons]
  exact (State.foldl_closeSetFlagged_closed t i _ _).recorded.holds hfirst

theorem State.closeSetFlagged_room {s : State} {start : Nat} {a : AccSet}
    (h : s.recorder.accSets.find? (fun x => decide (x.start = start)) = some a)
    (hroom : s.roomFor a.accs.length) (t i : Bool) : s.closeSetFlagged start t i =
      ((s.putSets (s.recorder.accSets.filter fun b => decide (b.start ≠ start))).handedOn
        (a.closing t i)).raiseAll (closeFlags (a.closing t i)) := by
  rw [State.closeSetFlagged_of_find h, State.handOnAll_room]
  rw [AccSet.closing, List.length_map]
  exact hroom

/-- The records of all held sets, in their order, where the queue has room for them (R97). -/
theorem State.foldl_closeSetFlagged_queue (t i : Bool) (sets : List AccSet) : ∀ s : State,
    s.recorder.accSets = sets → (sets.map AccSet.start).Nodup →
    s.roomFor (sets.flatMap AccSet.accs).length →
    ((sets.map AccSet.start).foldl (fun u start => u.closeSetFlagged start t i) s).recorder.queue =
      s.recorder.queue ++ sets.flatMap fun a => (a.closing t i).map .interval := by
  induction sets with
  | nil => exact fun s _ _ _ => (List.append_nil _).symm
  | cons a rest ih =>
    intro s hsets hnodup hroom
    rw [List.map_cons, List.nodup_cons] at hnodup
    rw [List.flatMap_cons, List.length_append] at hroom
    have hfind : s.recorder.accSets.find? (fun x => decide (x.start = a.start)) = some a := by
      rw [hsets]
      exact List.find?_cons_of_pos (decide_eq_true rfl)
    have hrest : (s.recorder.accSets.filter fun b => decide (b.start ≠ a.start)) = rest := by
      rw [hsets, List.filter_cons_of_neg (by simp), List.filter_eq_self]
      intro b hb
      refine decide_eq_true fun heq => hnodup.1 ?_
      rw [← heq]
      exact List.mem_map_of_mem hb
    have hqueue : (s.closeSetFlagged a.start t i).recorder.queue =
        s.recorder.queue ++ (a.closing t i).map .interval := by
      rw [State.closeSetFlagged_room hfind (State.roomFor_le hroom (Nat.le_add_right _ _))]
      simp only [State.raiseAll_recorder]
      rfl
    have hleft : (s.closeSetFlagged a.start t i).recorder.accSets = rest := by
      rw [State.closeSetFlagged_room hfind (State.roomFor_le hroom (Nat.le_add_right _ _))]
      simp only [State.raiseAll_recorder]
      exact hrest
    rw [List.map_cons, List.foldl_cons, ih _ hleft hnodup.2, hqueue, List.flatMap_cons,
      List.append_assoc]
    rw [State.roomFor, hqueue, List.length_append, List.length_map, AccSet.closing, List.length_map]
    rw [State.roomFor] at hroom
    omega

end Closes

end Sys2Proof.Machine
end

section
/-! The end of a recovery (R162). -/

namespace Sys2Proof.Machine

/-- A part whose recovery has ended with a given RESTART record, its work on intervals and days done as `t`. -/
structure State.Ended (t : State) (restart : QueueItem) (u : State) : Prop where
  time : u.time = t.time
  supply : u.supply = { t.supply with power := .running, resumed := false }
  config : u.config = t.config
  store : u.store = t.store
  stackUnits : u.stackUnits = t.stackUnits
  freeDraws : u.freeDraws = t.freeDraws
  claims : t.store.fault = true → u.arbiter.recClaims = []
  accSets : u.recorder.accSets = t.recorder.accSets
  table : u.recorder.table = t.recorder.table
  withdrawal : u.recorder.withdrawal = t.recorder.withdrawal
  tally : u.recorder.tally = t.recorder.tally
  queue : ∃ more, u.recorder.queue = t.recorder.queue ++ more
  queue_room : t.roomFor 1 → u.recorder.queue = t.recorder.queue ++ [restart]
  flags : ∀ f, t.attention.held &&& f = f → ∀ l,
    (u.attention.get l).pending &&& (flagRestarted ||| f) = flagRestarted ||| f

section End

variable (s : State)

theorem State.endLinks_eq : s.endLinks = { s with links := s.endLinks.links } := by
  rw [State.endLinks]
  split <;> rfl

theorem State.endAttention_eq :
    s.endAttention = { s with attention := s.endAttention.attention } := by
  rw [State.endAttention]
  split <;> rfl

theorem State.offer_tally (x : QueueItem) : (s.offer x).recorder.tally = s.recorder.tally := by
  rw [State.offer]
  split
  · rfl
  · rw [State.raiseAll_recorder]

theorem State.writeEvent_tally (e : EventRec) :
    (s.writeEvent e).recorder.tally = s.recorder.tally := by
  rw [State.writeEvent]
  split <;> exact s.offer_tally _

theorem State.note_tally (k : EventKind) (t a : Nat) :
    (s.note k t a).recorder.tally = s.recorder.tally := s.writeEvent_tally _

theorem BitVec.and_or_of_and {n : Nat} {x a b : BitVec n} (ha : x &&& a = a) (hb : x &&& b = b) :
    x &&& (a ||| b) = a ||| b := by
  rw [BitVec.and_or_distrib_left, ha, hb]

theorem State.endFlags_holds {f : FlagSet} (h : s.attention.held &&& f = f) :
    s.endFlags &&& (flagRestarted ||| f) = flagRestarted ||| f :=
  BitVec.and_or_of_and
    (BitVec.or_and_of_left _ (BitVec.or_and_of_left _ (BitVec.and_self)))
    (BitVec.or_and_of_and _ h)

/-- The flags that a recovery leaves pending on every link (R162). -/
theorem State.endAttention_pending {f : FlagSet} (h : s.attention.held &&& f = f) (l : Link) :
    (s.endAttention.attention.get l).pending &&& (flagRestarted ||| f) = flagRestarted ||| f := by
  have hflags := s.endFlags_holds h
  rw [State.endAttention]
  split
  · have hpending : (({ s.attention.raiseAll s.endFlags with held := 0 } : AttentionUnit).get
        l).pending = (s.attention.get l).pending ||| s.endFlags := by cases l <;> rfl
    exact (congrArg (· &&& _) hpending).trans (BitVec.or_and_of_and _ hflags)
  · cases l <;> exact hflags

theorem State.note_restart_room {s : State} (h : s.roomFor 1) (f cause : Nat) :
    (s.note .restart f cause).recorder.queue =
      s.recorder.queue ++ [.event (.plain f .restart cause)] := by
  obtain ⟨steps, restarts, heq⟩ := State.writeEvent_counted h (.plain f .restart cause)
  rw [State.note, heq]
  rfl

/-- What follows RESTART's record at the end of a recovery. -/
def State.endRecovery (s : State) : State :=
  (s.endLinks.endAttention.endClaims).leaveStarting.runWork

theorem State.endRecovery_ended {t : State} (hwork : t.recorder.work = []) (f cause : Nat) :
    t.Ended (.event (.plain f .restart cause)) (t.note .restart f cause).endRecovery := by
  have hnote := t.note_tallied .restart f cause
  have htally := t.note_tally .restart f cause
  have hroom := fun h => State.note_restart_room (s := t) h f cause
  obtain ⟨htime, -, -, hunits, hconfig, hsupply, hdraws, -, -⟩ := hnote.recorded.fields
  have hstore : (t.note .restart f cause).store = t.store := State.writeEvent_store _ _
  generalize t.note .restart f cause = y at *
  have hend : y.endRecovery = (y.endLinks.endAttention.endClaims).leaveStarting :=
    State.runWork_of_nil (by
      rw [y.endLinks_eq, State.endAttention_eq]
      exact hnote.work.trans hwork)
  have hheld : ∀ g, y.attention.held &&& g = g → ∀ l,
      (y.endRecovery.attention.get l).pending &&& (flagRestarted ||| g) = flagRestarted ||| g := by
    intro g hg l
    rw [hend]
    refine State.endAttention_pending y.endLinks ?_ l
    rw [y.endLinks_eq]
    exact hg
  have hfields : ∃ (scan : ScanUnit) (sec : SecondWork) (arbiter : Arbiter) (links : Links)
      (attention : AttentionUnit), (y.store.fault = true → arbiter.recClaims = []) ∧
      y.endRecovery = { y with
        scan := scan, sec := sec, arbiter := arbiter, links := links, attention := attention
        supply := { y.supply with power := .running, resumed := false } } := by
    rw [hend, y.endLinks_eq, State.endAttention_eq]
    exact ⟨_, _, _, _, _, fun h => if_pos h, rfl⟩
  obtain ⟨scan, sec, arbiter, links, attention, hclaims, heq⟩ := hfields
  refine ⟨?_, ?_, ?_, ?_, ?_, ?_, fun h => ?_, ?_, ?_, ?_, ?_, ?_, fun h => ?_, fun g hg =>
    hheld g (hnote.recorded.holds hg)⟩
  · rw [heq]; exact htime
  · rw [heq, ← hsupply]
  · rw [heq]; exact hconfig
  · rw [heq]; exact hstore
  · rw [heq]; exact hunits
  · rw [heq]; exact hdraws
  · rw [heq]; exact hclaims (hstore ▸ h)
  · rw [heq]; exact hnote.accSets
  · rw [heq]; exact hnote.table
  · rw [heq]; exact hnote.withdrawal
  · rw [heq]; exact htally
  · rw [heq]; exact hnote.recorded.queue
  · rw [heq]; exact hroom h

theorem exec_endOfRecovery {s : State} (hpower : s.supply.power = .starting)
    (hgo : s.mustSuspend = false) (cleared : Bool) : exec (.endOfRecovery cleared) s =
      .next (((s.recoveryWork.clearMark cleared).note .restart s.firstSecond
        (causeCode s.store.held)).endRecovery).settle := by
  show Host.Outcome.next _ = _
  rw [hpower, hgo]
  rfl

/-- The retention mark cleared. -/
def State.unmarked (s : State) : State := { s with store := { s.store with mark := false } }

/-- The end of a recovery whose work has left nothing waiting, its mark being cleared (R162). -/
theorem exec_recovered {s x : State} (hpower : s.supply.power = .starting)
    (hgo : s.mustSuspend = false) (hx : s.recoveryWork = x) (hwork : x.recorder.work = []) :
    ∃ u : State, exec (.endOfRecovery true) s = .next u.settle ∧
      x.unmarked.Ended (.event (.plain s.firstSecond .restart (causeCode s.store.held))) u := by
  refine ⟨_, exec_endOfRecovery hpower hgo true, ?_⟩
  rw [hx, State.clearMark, if_pos rfl]
  exact State.endRecovery_ended (t := x.unmarked) hwork _ _

theorem State.mustSuspend_of_clock {s : State} (h : s.time.clockValid = true) :
    s.mustSuspend = false := by
  rw [State.mustSuspend, h]
  rfl

end End

end Sys2Proof.Machine
end

section
/-! Recovery in RECORDING with a snapshot of an earlier interval (R160). -/

namespace Sys2Proof.Machine

/-! ### Scheduled ranges -/

/-- A day that a boundary's scheduled closes leave is within the window of that boundary (R107). -/
theorem scheduledRange_leaves {day window x : Nat}
    (h : (scheduledRange day window).holds x = false) : day ≤ x + window := by
  rw [scheduledRange] at h
  split at h
  · rw [DayRange.holds, decide_eq_false_iff_not] at h
    omega
  · omega

theorem scheduledRange_keeps {day window x : Nat} (h : day ≤ x + window) :
    (scheduledRange day window).holds x = false := by
  rw [scheduledRange]
  split
  · rw [DayRange.holds, decide_eq_false_iff_not]
    omega
  · rfl

theorem Occasion.mem_days_drain {o : Occasion} {table : List ProvDay} {x : Nat}
    (h : x ∈ days (o.drain table)) : o.joins = some x ∨ x ∈ days table ∧ o.range.holds x = false := by
  rw [Occasion.drain] at h
  have hfilter : ∀ y, y ∈ days (table.filter fun p => !o.range.holds p.day) →
      y ∈ days table ∧ o.range.holds y = false := by
    intro y hy
    have := (mem_days_filter table (fun d => !o.range.holds d) y).1 hy
    simpa using this
  cases hjoins : o.joins with
  | none =>
    rw [hjoins] at h
    exact .inr (hfilter x h)
  | some d =>
    rw [hjoins] at h
    rcases (mem_days_joinDay _ d x).1 h with hd | hx
    · exact .inl (congrArg some hd.symm)
    · exact .inr (hfilter x hx)

theorem Occasion.joins_mem_days_drain {o : Occasion} {table : List ProvDay} {d : Nat}
    (h : o.joins = some d) : d ∈ days (o.drain table) := by
  rw [Occasion.drain, h]
  exact (mem_days_joinDay _ d d).2 (.inl rfl)

/-! ### The missed day boundaries -/

/-- The scheduled occasions of `n` day boundaries from a day on (R107). -/
def crossedOccasions (gov : Tables) (day n : Nat) : List Occasion :=
  (List.range n).map fun i => {
    cause := .scheduled, range := scheduledRange (day + i) gov.device.window
    joins := some (day + i), gov := gov, closed := 0 }

theorem crossedWork_eq (gov : Tables) (day n : Nat) :
    crossedWork gov day n = (crossedOccasions gov day n).map .occasion := by
  rw [crossedOccasions, List.map_map]
  rfl

theorem crossedOccasions_scheduled {gov : Tables} {day n : Nat} {o : Occasion}
    (h : o ∈ crossedOccasions gov day n) : o.cause = .scheduled := by
  obtain ⟨i, -, rfl⟩ := List.mem_map.1 h
  rfl

/-- The days after the boundaries of the days from one up to a later one: none is left behind the window of the
last, whose own day is there (R160). -/
theorem crossed_days (gov : Tables) (day n : Nat) (table : List ProvDay) :
    (∀ x ∈ days ((crossedOccasions gov day (n + 1)).foldl (fun t o => o.drain t) table),
      day + n ≤ x + gov.device.window) ∧
    day + n ∈ days ((crossedOccasions gov day (n + 1)).foldl (fun t o => o.drain t) table) := by
  have hlast : crossedOccasions gov day (n + 1) = crossedOccasions gov day n ++ [{
      cause := .scheduled, range := scheduledRange (day + n) gov.device.window
      joins := some (day + n), gov := gov, closed := 0 }] := by
    rw [crossedOccasions, List.range_succ, List.map_append]
    rfl
  rw [hlast, List.foldl_append, List.foldl_cons, List.foldl_nil]
  refine ⟨fun x hx => ?_, Occasion.joins_mem_days_drain rfl⟩
  rcases Occasion.mem_days_drain hx with hjoin | ⟨-, hout⟩
  · have : day + n = x := Option.some.inj hjoin
    omega
  · exact scheduledRange_leaves hout

theorem crossedUnits_of_none {day n : Nat} (h : ∀ i < n, isFirstOfYear (day + i) = false)
    (units : List StackUnit) : crossedUnits day n units = units := by
  induction n with
  | zero => rfl
  | succ n ih =>
    have hlast : crossedUnits day (n + 1) units = if isFirstOfYear (day + n) = true then
        (crossedUnits day n units).map fun v =>
          { v with yearCounter := 0, yearMark := false, counterYear := yearOfDay (day + n) }
        else crossedUnits day n units := by
      simp only [crossedUnits, List.range_succ, List.foldl_append, List.foldl_cons, List.foldl_nil]
    rw [hlast, h n (Nat.lt_succ_self n), if_neg Bool.false_ne_true,
      ih fun i hi => h i (Nat.lt_succ_of_lt hi)]

theorem crossedUnits_of_some {day n i : Nat} (hi : i < n) (h : isFirstOfYear (day + i) = true)
    (units : List StackUnit) :
    ∀ v ∈ crossedUnits day n units, v.yearCounter = 0 ∧ v.yearMark = false := by
  induction n with
  | zero => exact absurd hi (Nat.not_lt_zero _)
  | succ n ih =>
    have hlast : crossedUnits day (n + 1) units = if isFirstOfYear (day + n) = true then
        (crossedUnits day n units).map fun v =>
          { v with yearCounter := 0, yearMark := false, counterYear := yearOfDay (day + n) }
        else crossedUnits day n units := by
      simp only [crossedUnits, List.range_succ, List.foldl_append, List.foldl_cons, List.foldl_nil]
    rw [hlast]
    split
    · intro v hv
      obtain ⟨u, -, rfl⟩ := List.mem_map.1 hv
      exact ⟨rfl, rfl⟩
    · next hnot =>
      refine ih (Nat.lt_of_le_of_ne (Nat.lt_succ_iff.1 hi) ?_)
      rintro rfl
      exact hnot h

/-! ### The steps of the recovery -/

section Recording

variable {s : State}

/-- The year counters that the missed boundaries leave (R58, R160). -/
def State.withUnits (units : List StackUnit) (s : State) : State := { s with stackUnits := units }

theorem State.drainAll_of_nil (h : s.recorder.work = []) : s.drainAll = s :=
  State.drainCloses_of_nil h _

/-- The missed day boundaries are run, all their closes made (R45, R160). -/
theorem State.missedDays_drained (hwork : s.recorder.work = []) (hnone : s.annotation = none)
    (day f : Nat) :
    (s.withUnits (crossedUnits (day + 1) (dayOf f - day) s.stackUnits)).Drained
      ((crossedOccasions s.config.active (day + 1) (dayOf f - day)).foldl (fun t o => o.drain t)
        s.recorder.table) (s.missedDays day f) := by
  let b : State := s.withUnits (crossedUnits (day + 1) (dayOf f - day) s.stackUnits)
  let w : State := b.working (crossedWork s.config.active (day + 1) (dayOf f - day))
  have hb : s.dayBoundaries s.config.active (day + 1) (dayOf f - day) = w :=
    State.dayBoundaries_eq _ _ _ _
  have hw : w.recorder.work =
      (crossedOccasions s.config.active (day + 1) (dayOf f - day)).map .occasion := by
    rw [← crossedWork_eq]
    show s.recorder.work ++ _ = _
    rw [hwork, List.nil_append]
  have hdrained := State.drainCloses_scheduled _ w
    (w.recorder.table.length + w.recorder.work.length + 1) hw
    (fun _ => crossedOccasions_scheduled) hnone (by rw [hw, List.length_map]; exact Nat.le_succ _)
  rw [State.missedDays, hb]
  exact ⟨State.Recorded.trans (t := w) b.recorder_recorded hdrained.recorded, hdrained.accSets,
    hdrained.withdrawal, hdrained.work, hdrained.table⟩

/-- The interval of the first second opens, no stage being there to transfer (R80, R160). -/
theorem State.openAtRecovery_eq (hwork : s.recorder.work = [])
    (hstage : s.config.stage.state ≠ .approved) (f : Nat) : s.openAtRecovery f =
      s.openSet (.opened (intervalStart f) s.config.active false (decide (f % 1800 ≠ 0))) := by
  have htransfer : s.transferAt (intervalStart f) (dayOf f) = s :=
    State.transferBy_of_none (.inl hstage) _ _ _
  rw [State.openAtRecovery, htransfer]
  exact State.drainAll_of_nil (s := s.openSet _) hwork

theorem State.closeHeldSets_all (s : State) : s.closeHeldSets none =
    (s.recorder.accSets.map AccSet.start).foldl (fun t b => t.closeSetFlagged b false true) s := by
  simp [State.closeHeldSets]

theorem State.resumeRecording_later {second f : Nat} (hsome : s.recorder.accSets ≠ [])
    (hearlier : ∀ a ∈ s.recorder.accSets, a.start ≠ intervalStart f) :
    s.resumeRecording second f =
      ((s.closeHeldSets none).missedDays (dayOf second) f).openAtRecovery f := by
  rw [State.resumeRecording]
  cases ha : s.recorder.accSets.getLast? with
  | none => exact absurd (List.getLast?_eq_none_iff.1 ha) hsome
  | some a => exact if_neg (hearlier a (List.mem_of_getLast? ha))

/-- The occasion of the closes that the snapshot cut short (R160). -/
def State.overdueOccasion (s : State) (second : Nat) : Occasion :=
  { cause := .scheduled, range := scheduledRange (dayOf second) s.config.active.device.window
    joins := none, gov := s.config.active, closed := 0 }

/-- The days of the table after the closes and joins that the snapshot cut short (R160). -/
structure State.Overdue (s : State) (second : Nat) (t : State) : Prop where
  daysOnly : s.DaysOnly t
  work : t.recorder.work = []
  window : ∀ x ∈ days t.recorder.table, dayOf second ≤ x + s.config.active.device.window
  there : dayOf second ∈ days t.recorder.table

theorem State.overdueDays_overdue {second : Nat} (hwork : s.recorder.work = [])
    (hnone : s.annotation = none) (hday : 1 ≤ dayOf second)
    (htable : ∀ d ∈ s.recorder.table, d.day ≤ dayOf second) :
    s.Overdue second (s.overdueDays second) := by
  let w : State := s.addWork (.occasion (s.overdueOccasion second))
  have hw : w.recorder.work = [s.overdueOccasion second].map .occasion := by
    show s.recorder.work ++ _ = _
    rw [hwork]
    rfl
  have hdrained := State.drainCloses_scheduled _ w
    (w.recorder.table.length + w.recorder.work.length + 1) hw
    (fun o ho => by rw [List.mem_singleton.1 ho]; rfl) hnone
    (by rw [hw, List.length_map]; exact Nat.le_succ _)
  have hleft : w.drainAll.recorder.table = (s.overdueOccasion second).drain s.recorder.table :=
    hdrained.table
  have hrest : ∀ x ∈ days w.drainAll.recorder.table, x ∈ days s.recorder.table ∧
      dayOf second ≤ x + s.config.active.device.window := by
    intro x hx
    rw [hleft] at hx
    rcases Occasion.mem_days_drain hx with hjoin | ⟨hx, hout⟩
    · exact absurd hjoin (by simp [State.overdueOccasion])
    · exact ⟨hx, scheduledRange_leaves hout⟩
  have hto : s.overdueDays second = w.drainAll.joinThrough
      (((lastDay w.drainAll.recorder.table).getD (dayOf second - 1)) + 1) (dayOf second) := rfl
  have hdaysOnly : s.DaysOnly w.drainAll :=
    ⟨State.Recorded.trans (t := w) s.recorder_recorded hdrained.recorded, hdrained.accSets,
      hdrained.withdrawal⟩
  have hmem : ∀ x, x ∈ days (s.overdueDays second).recorder.table ↔
      x ∈ days w.drainAll.recorder.table ∨
        (lastDay w.drainAll.recorder.table).getD (dayOf second - 1) + 1 ≤ x ∧
        x < (lastDay w.drainAll.recorder.table).getD (dayOf second - 1) + 1 +
          (dayOf second + 1 - ((lastDay w.drainAll.recorder.table).getD (dayOf second - 1) + 1)) :=
    fun x => mem_days_joinDays _ _ _ x
  have hlast : (∃ d ∈ days w.drainAll.recorder.table,
        lastDay w.drainAll.recorder.table = some d) ∨
      lastDay w.drainAll.recorder.table = none := by
    rw [lastDay]
    cases hl : w.drainAll.recorder.table.getLast? with
    | none => exact .inr rfl
    | some p => exact .inl ⟨p.day, mem_days (List.mem_of_getLast? hl), rfl⟩
  have hearlier : ∀ x ∈ days s.recorder.table, x ≤ dayOf second := by
    intro x hx
    obtain ⟨p, hp, rfl⟩ := List.mem_map.1 hx
    exact htable p hp
  refine ⟨hto ▸ hdaysOnly.trans ⟨State.recorder_recorded _, rfl, rfl⟩, hdrained.work,
    fun x hx => ?_, ?_⟩
  · rcases (hmem x).1 hx with hx | ⟨hlow, -⟩
    · exact (hrest x hx).2
    · rcases hlast with ⟨d, hd, hlast⟩ | hlast
      · have := (hrest d hd).2
        rw [hlast, Option.getD_some] at hlow
        omega
      · rw [hlast, Option.getD_none] at hlow
        omega
  · rw [hmem]
    rcases hlast with ⟨d, hd, hlast⟩ | hlast
    · have hle := hearlier d (hrest d hd).1
      by_cases heq : d = dayOf second
      · exact .inl (heq ▸ hd)
      · rw [hlast, Option.getD_some]
        omega
    · rw [hlast, Option.getD_none]
      omega

/-- What recovery in RECORDING leaves of a snapshot of an earlier interval (R160). -/
structure State.Resumed (s : State) (second f : Nat) (x : State) : Prop where
  time : x.time = s.time
  supply : x.supply = { s.supply with recoveredTo := some f }
  config : x.config = s.config
  work : x.recorder.work = []
  accSets : x.recorder.accSets =
    [.opened (intervalStart f) s.config.active false (decide (f % 1800 ≠ 0))]
  units : x.stackUnits = crossedUnits (dayOf second + 1) (dayOf f - dayOf second) s.stackUnits
  window : ∀ d ∈ days x.recorder.table, dayOf f ≤ d + s.config.active.device.window
  there : dayOf f ∈ days x.recorder.table
  held : x.attention.held &&& flagIntervalClosed = flagIntervalClosed

/-- The steps of a recovery in RECORDING that opens a later interval. -/
theorem State.resumeMode_later {second f : Nat} (hmode : s.supply.mode = .recording)
    (hsome : (s.overdueDays second).recorder.accSets ≠ [])
    (hearlier : ∀ a ∈ (s.overdueDays second).recorder.accSets, a.start ≠ intervalStart f) :
    s.resumeMode second f = ((((s.overdueDays second).closeHeldSets none).missedDays
      (dayOf second) f).openAtRecovery f).ranTo f := by
  rw [State.resumeMode, hmode]
  exact congrArg (State.ranTo f) (State.resumeRecording_later hsome hearlier)

theorem State.resumeMode_resumed {second f : Nat} (hmode : s.supply.mode = .recording)
    (hpower : s.supply.power = .starting) (hwork : s.recorder.work = [])
    (hnone : s.annotation = none) (hstage : s.config.stage.state ≠ .approved)
    (hlater : second < f) (hday : 1 ≤ dayOf second) (hsome : s.recorder.accSets ≠ [])
    (hearlier : ∀ a ∈ s.recorder.accSets, a.start ≠ intervalStart f)
    (hrecent : ∀ a ∈ s.recorder.accSets, dayOf second ≤ dayOf a.start + 1)
    (htable : ∀ d ∈ s.recorder.table, d.day ≤ dayOf second)
    (hwindow : 1 ≤ s.config.active.device.window) :
    s.Resumed second f (s.resumeMode second f) := by
  have ho := State.overdueDays_overdue hwork hnone hday htable
  rw [State.resumeMode_later hmode (by rw [ho.daysOnly.accSets]; exact hsome)
    (by rw [ho.daysOnly.accSets]; exact hearlier)]
  generalize s.overdueDays second = o at *
  have hc := State.foldl_closeSetFlagged_closed false true (o.recorder.accSets.map AccSet.start) o
  have hheld := State.foldl_closeSetFlagged_held o
    (by rw [ho.daysOnly.recorded.supply, hpower]) false true
    (by rw [ho.daysOnly.accSets]; exact hsome)
  rw [← State.closeHeldSets_all] at hc hheld
  have hsets := hc.none_left
  generalize o.closeHeldSets none = c at *
  have hsc := ho.daysOnly.recorded.trans hc.recorded
  have hm := State.missedDays_drained (hc.work.trans ho.work) (hsc.annotation hnone)
    (dayOf second) f
  generalize c.missedDays (dayOf second) f = m at *
  have hconfig : m.config = s.config := hm.recorded.config.trans hsc.config
  rw [State.openAtRecovery_eq hm.work (by rw [hconfig]; exact hstage)]
  have hdays : dayOf second ≤ dayOf f := Nat.div_le_div_right (Nat.le_of_lt hlater)
  have hcwindow : ∀ d ∈ days c.recorder.table, dayOf second ≤ d + s.config.active.device.window := by
    intro d hd
    rcases hc.new d hd with hd | ⟨a, ha, rfl⟩
    · exact ho.window d hd
    · rw [ho.daysOnly.accSets] at ha
      have := hrecent a ha
      omega
  have hmtable : (∀ d ∈ days m.recorder.table, dayOf f ≤ d + s.config.active.device.window) ∧
      dayOf f ∈ days m.recorder.table := by
    rw [hm.table, hsc.config]
    obtain ⟨n, hn⟩ := Nat.exists_eq_add_of_le hdays
    cases n with
    | zero =>
      rw [Nat.add_zero] at hn
      rw [hn, Nat.sub_self]
      exact ⟨hcwindow, hc.old _ ho.there⟩
    | succ n =>
      have hcount : dayOf f - dayOf second = n + 1 := by omega
      have hlast : dayOf f = dayOf second + 1 + n := by omega
      rw [hcount, hlast]
      exact crossed_days s.config.active (dayOf second + 1) n c.recorder.table
  refine ⟨hm.recorded.time.trans hsc.time, ?_, hconfig, hm.work, ?_, ?_, hmtable.1, hmtable.2, ?_⟩
  · exact congrArg (fun v : Supply => { v with recoveredTo := some f })
      (hm.recorded.supply.trans hsc.supply)
  · show m.recorder.accSets ++ _ = _
    rw [hm.accSets, hconfig]
    exact congrArg (· ++ _) hsets
  · show m.stackUnits = _
    rw [hm.recorded.stackUnits, ← hsc.stackUnits]
    rfl
  · exact hm.recorded.holds hheld

end Recording

end Sys2Proof.Machine
end

section
/-! The recovery in RECORDING whose one held set closes on the snapshot's own day, and RECORDING's part of O28. -/

namespace Sys2Proof.Machine

section Single

variable {s : State}

theorem State.putWork_of_nil (h : s.recorder.work = []) : s.putWork [] = s := by
  rw [State.putWork, ← h]

/-- Where no day is overdue and the snapshot's day is the last, the first step leaves all as it is. -/
theorem State.overdueDays_still {second : Nat} {d : ProvDay} (hwork : s.recorder.work = [])
    (htable : s.recorder.table = [d]) (hday : d.day = dayOf second) :
    s.overdueDays second = s := by
  let w : State := s.addWork (.occasion (s.overdueOccasion second))
  have hw : w.recorder.work = .occasion (s.overdueOccasion second) :: [] := by
    show s.recorder.work ++ _ = _
    rw [hwork]
    rfl
  have hdue : (s.overdueOccasion second).due w.recorder.table = none := by
    show (s.overdueOccasion second).due s.recorder.table = none
    have hout : (s.overdueOccasion second).range.holds d.day = false :=
      scheduledRange_keeps (hday ▸ Nat.le_add_right _ _)
    rw [htable, Occasion.due, List.find?_cons_of_neg (by rw [hout]; exact Bool.false_ne_true)]
    rfl
  have hended : w.runWork = s.runWork := by
    rw [State.runWork_of_ended hw hdue, State.endOccasion_scheduled rfl]
    exact congrArg State.runWork (State.putWork_of_nil hwork)
  have hdrain : w.drainAll = s :=
    (State.drainCloses_congr hended _).trans (State.drainCloses_of_nil hwork _)
  have hto : s.overdueDays second = w.drainAll.joinThrough
      (((lastDay w.drainAll.recorder.table).getD (dayOf second - 1)) + 1) (dayOf second) := rfl
  rw [hto, hdrain, State.joinThrough, lastDay, htable]
  simp only [List.getLast?_singleton, Option.map_some, Option.getD_some, hday, Nat.sub_self,
    joinDays]
  rw [← htable]

theorem State.missedDays_none (hwork : s.recorder.work = []) {day f : Nat} (h : dayOf f = day) :
    s.missedDays day f = s := by
  rw [State.missedDays, h, Nat.sub_self]
  exact State.drainAll_of_nil hwork

/-- The contributions of records of a day that is there alone. -/
theorem contributed_single {d : ProvDay} {r : IntervalRec} (h : dayOf r.start = d.day) :
    contributed [d] r = [{ d with
      entries := putEntry r.channel (DayEntry.contribute r .queued) d.entries }] := by
  simp [contributed, h, joinDay, modEntry]

theorem foldl_contributed_single (rs : List IntervalRec) : ∀ d : ProvDay,
    (∀ r ∈ rs, dayOf r.start = d.day) → rs.foldl contributed [d] = [{ d with
      entries := rs.foldl (fun es r => putEntry r.channel (DayEntry.contribute r .queued) es)
        d.entries }] := by
  induction rs with
  | nil => exact fun d _ => rfl
  | cons r rest ih =>
    intro d h
    rw [List.foldl_cons, contributed_single (h r List.mem_cons_self), List.foldl_cons]
    exact ih { d with entries := putEntry r.channel (DayEntry.contribute r .queued) d.entries }
      fun r' hr' => h r' (List.mem_cons_of_mem _ hr')

/-- The one held set closes INTERRUPTED, on the snapshot's own day. -/
theorem State.resumeMode_single {second f : Nat} {a : AccSet} {d : ProvDay}
    (hmode : s.supply.mode = .recording) (hwork : s.recorder.work = [])
    (hstage : s.config.stage.state ≠ .approved) (hsets : s.recorder.accSets = [a])
    (htable : s.recorder.table = [d]) (hstart : a.start ≠ intervalStart f)
    (hday : d.day = dayOf second) (hlater : d.day = dayOf f)
    (hroom : s.roomFor a.accs.length) :
    (s.resumeMode second f).recorder.queue =
        s.recorder.queue ++ (a.closing false true).map .interval ∧
      (s.resumeMode second f).recorder.table = (a.closing false true).foldl contributed [d] := by
  have ho : s.overdueDays second = s := State.overdueDays_still hwork htable hday
  have hfind : s.recorder.accSets.find? (fun x => decide (x.start = a.start)) = some a := by
    rw [hsets]
    exact List.find?_cons_of_pos (decide_eq_true rfl)
  have hc : s.closeHeldSets none = s.closeSetFlagged a.start false true := by
    rw [State.closeHeldSets_all, hsets]
    rfl
  have hrecords := State.closeSetFlagged_room hfind hroom false true
  rw [State.resumeMode_later hmode (by rw [ho, hsets]; exact List.cons_ne_nil _ _) (by
      rw [ho, hsets]
      intro b hb
      rw [List.mem_singleton.1 hb]
      exact hstart), ho, hc]
  have hclosed := s.closeSetFlagged_closed a.start false true
  have hcwork := hclosed.work.trans hwork
  rw [State.missedDays_none hcwork (hlater.symm.trans hday), State.openAtRecovery_eq hcwork (by
    rw [hclosed.recorded.config]
    exact hstage), hrecords, ← htable]
  constructor
  · show (State.raiseAll _ _).recorder.queue = _
    rw [State.raiseAll_recorder]
    rfl
  · show (State.raiseAll _ _).recorder.table = _
    rw [State.raiseAll_recorder]
    rfl

end Single

end Sys2Proof.Machine
end

section
/-! The end of the tally's OPEN slots (R130, R155). -/

namespace Sys2Proof.Machine

section Slots

variable (s : State)

/-- A slot turned FINAL (R130). -/
def TallySlot.finished (t : TallySlot) : TallySlot := { t with state := .final }

theorem State.finalSlot_tally (i : Nat) :
    (s.finalSlot i).recorder.tally = s.recorder.tally.modify i TallySlot.finished := by
  rw [State.finalSlot, State.raiseAll_recorder]
  rfl

theorem State.finalSlot_queue (i : Nat) :
    (s.finalSlot i).recorder.queue = s.recorder.queue := by
  rw [State.finalSlot, State.raiseAll_recorder]
  rfl

theorem State.finalIfOpen_queue (i : Nat) :
    (s.finalIfOpen i).recorder.queue = s.recorder.queue := by
  rw [State.finalIfOpen]
  split
  · exact s.finalSlot_queue i
  · rfl

theorem State.slot_of_tally {t : State} (h : t.recorder.tally = s.recorder.tally) (i : Nat) :
    t.slot i = s.slot i := by
  rw [State.slot, State.slot, h]

/-- A slot that is there. -/
theorem State.slot_opened {i : Nat} (h : (s.slot i).state = .opened) :
    i < s.recorder.tally.length := by
  by_contra hno
  rw [State.slot, List.getD_eq_getElem?_getD, List.getElem?_eq_none (Nat.not_lt.mp hno)] at h
  exact absurd h (by decide)

theorem State.finalSlot_slot_same {i : Nat} (h : i < s.recorder.tally.length) :
    ((s.finalSlot i).slot i).state = .final := by
  rw [State.slot, State.finalSlot_tally, List.getD_eq_getElem?_getD, List.getElem?_modify_eq,
    List.getElem?_eq_getElem h]
  rfl

theorem State.finalSlot_slot_other {i j : Nat} (h : j ≠ i) :
    (s.finalSlot i).slot j = s.slot j := by
  rw [State.slot, State.finalSlot_tally, List.getD_eq_getElem?_getD,
    List.getElem?_modify_ne _ _ (Ne.symm h), ← List.getD_eq_getElem?_getD]
  rfl

/-- Turning one OPEN slot FINAL leaves no other slot OPEN that was not. -/
theorem State.finalIfOpen_slot (i j : Nat) :
    ((s.finalIfOpen i).slot j).state =
      if j = i ∧ (s.slot j).state = .opened then .final else (s.slot j).state := by
  rw [State.finalIfOpen]
  by_cases hij : j = i
  · subst hij
    by_cases hopen : (s.slot j).state = .opened
    · rw [if_pos hopen, if_pos ⟨rfl, hopen⟩, s.finalSlot_slot_same (s.slot_opened hopen)]
    · rw [if_neg hopen, if_neg fun h => hopen h.2]
  · have hnot : ¬(j = i ∧ (s.slot j).state = .opened) := fun h => hij h.1
    rw [if_neg hnot]
    split
    · rw [s.finalSlot_slot_other hij]
    · rfl

/-- The slots of a list turn FINAL where they are OPEN. -/
theorem State.foldl_finalIfOpen_slot (is : List Nat) : ∀ (s : State) (j : Nat),
    ((is.foldl State.finalIfOpen s).slot j).state =
      if j ∈ is ∧ (s.slot j).state = .opened then .final else (s.slot j).state := by
  induction is with
  | nil => exact fun s j => (if_neg fun h => absurd h.1 List.not_mem_nil).symm
  | cons i rest ih =>
    intro s j
    rw [List.foldl_cons, ih, s.finalIfOpen_slot]
    by_cases hopen : (s.slot j).state = .opened
    · by_cases hij : j = i
      · simp [hij, hij ▸ hopen]
      · simp [hij, hopen]
    · simp [hopen]

theorem State.mem_openSlots (i : Nat) :
    i ∈ s.openSlots ↔ (s.slot i).state = .opened := by
  rw [State.openSlots, List.mem_filter, List.mem_range, decide_eq_true_eq]
  exact ⟨And.right, fun h => ⟨s.slot_opened h, h⟩⟩

theorem State.openSlots_length_le : s.openSlots.length ≤ s.recorder.tally.length := by
  rw [State.openSlots]
  exact (List.length_filter_le _ _).trans (Nat.le_of_eq List.length_range)

theorem State.checkpoint_tally (i : Nat) :
    (s.checkpoint i).recorder.tally = s.recorder.tally := s.offer_tally _

theorem State.checkpointAll_tally (slots : List Nat) : ∀ s : State,
    (s.checkpointAll slots).recorder.tally = s.recorder.tally := by
  induction slots with
  | nil => exact fun _ => rfl
  | cons i rest ih => exact fun s => (ih (s.checkpoint i)).trans (s.checkpoint_tally i)

theorem State.finalSlots_slot (j : Nat) : (s.finalSlots.slot j).state =
    if (s.slot j).state = .opened then .final else (s.slot j).state := by
  rw [State.finalSlots, State.slot_of_tally _ (State.checkpointAll_tally _ _),
    State.foldl_finalIfOpen_slot]
  simp only [State.mem_openSlots, and_self]

/-- No slot stays OPEN (R130, R155). -/
theorem State.finalSlots_none_open : ∀ x ∈ s.finalSlots.recorder.tally, x.state ≠ .opened := by
  intro x hx hopen
  obtain ⟨j, hj, rfl⟩ := List.mem_iff_getElem.1 hx
  have hslot : s.finalSlots.slot j = s.finalSlots.recorder.tally[j] := by
    rw [State.slot, List.getD_eq_getElem?_getD, List.getElem?_eq_getElem hj, Option.getD_some]
  have := s.finalSlots_slot j
  rw [hslot, hopen] at this
  split at this
  · exact absurd this (by decide)
  · next hnot => exact hnot this.symm

/-- A checkpoint of a FINAL slot. -/
def QueueItem.isFinal (q : QueueItem) : Prop := ∃ i x, q = .checkpoint i x ∧ x.state = .final

theorem State.checkpointAll_queue (slots : List Nat) : ∀ s : State, s.roomFor slots.length →
    (s.checkpointAll slots).recorder.queue =
      s.recorder.queue ++ slots.map fun i => .checkpoint i (s.slot i) := by
  induction slots with
  | nil => exact fun s _ => (List.append_nil _).symm
  | cons i rest ih =>
    intro s hroom
    have hfirst : s.checkpoint i = s.queued [.checkpoint i (s.slot i)] :=
      State.offer_room (State.roomFor_le hroom (by simp)) _
    have hrest : (s.checkpoint i).roomFor rest.length := by
      rw [hfirst, State.roomFor_queued]
      exact State.roomFor_le hroom (Nat.le_of_eq (Nat.add_comm _ _))
    have hslots : ∀ j, (s.checkpoint i).slot j = s.slot j :=
      s.slot_of_tally (s.checkpoint_tally i)
    show (State.checkpointAll rest (s.checkpoint i)).recorder.queue = _
    rw [ih _ hrest]
    simp only [hslots, List.map_cons]
    rw [hfirst]
    exact List.append_assoc _ [_] _

theorem State.foldl_finalIfOpen_queue (is : List Nat) : ∀ s : State,
    (is.foldl State.finalIfOpen s).recorder.queue = s.recorder.queue := by
  induction is with
  | nil => exact fun _ => rfl
  | cons i rest ih => exact fun s => (ih _).trans (s.finalIfOpen_queue i)

/-- The checkpoints behind the end of the OPEN slots, where the queue has room for them (R155). -/
theorem State.finalSlots_queue {s : State} (hroom : s.roomFor s.openSlots.length) :
    ∃ more, s.finalSlots.recorder.queue = s.recorder.queue ++ more ∧
      more.length = s.openSlots.length ∧ ∀ q ∈ more, q.isFinal := by
  have hqueue := State.foldl_finalIfOpen_queue s.openSlots s
  refine ⟨_, (State.checkpointAll_queue s.openSlots _ ?_).trans (congrArg (· ++ _) hqueue),
    List.length_map _, ?_⟩
  · rw [State.roomFor, hqueue]
    exact hroom
  · intro q hq
    obtain ⟨i, hi, rfl⟩ := List.mem_map.1 hq
    refine ⟨i, _, rfl, ?_⟩
    rw [State.foldl_finalIfOpen_slot, if_pos ⟨hi, (s.mem_openSlots i).1 hi⟩]

end Slots

end Sys2Proof.Machine
end

section
/-! The recoveries outside RECORDING and WITHDRAWN (R160, R161), and the cause of RESTART's record (R162). -/

namespace Sys2Proof.Machine

/-! ### The snapshot held -/

section Held

variable {s : State} {p : Snapshot}

theorem Store.held_of_marked {st : Store} (hmark : st.mark = true) (h : st.snapshot = some p) :
    st.held = some p := by
  rw [Store.held, if_pos hmark, h]

theorem Store.held_of_unmarked {st : Store} (hmark : st.mark = false) : st.held = none := by
  rw [Store.held, hmark]
  rfl

/-- The cause that RESTART's record carries (R162). -/
theorem causeCode_held {st : Store} {cause : Nat}
    (hsome : st.mark = true → ∃ p, st.snapshot = some p ∧ causeCode (some p) = cause)
    (hnone : st.mark = false → cause = 0) : causeCode st.held = cause := by
  cases hmark : st.mark with
  | false =>
    rw [Store.held_of_unmarked hmark, hnone hmark]
    rfl
  | true =>
    obtain ⟨p, hp, hcause⟩ := hsome hmark
    rw [Store.held_of_marked hmark hp, hcause]

theorem State.recoveryWork_of_held (h : s.store.held = some p) :
    s.recoveryWork = s.resumeMode p.second s.firstSecond := by
  rw [State.recoveryWork, h]

theorem State.recoveryWork_of_lost (h : s.store.held = none) :
    s.recoveryWork = s.rebuildYears.lostMode s.firstSecond := by
  rw [State.recoveryWork, h]

end Held

section Entering

variable {s : State}

/-! ### From ENTERING_SERVICE with a snapshot (R160) -/

/-- Recording begins at the interval of the first second where an interval boundary has passed. -/
theorem State.resumeMode_entered {second f : Nat} (hmode : s.supply.mode = .enteringService)
    (hwork : s.recorder.work = []) (hstage : s.config.stage.state ≠ .approved)
    (hpassed : nextBoundary second ≤ f) :
    s.resumeMode second f = ((s.enterRecording.openSet (.opened (intervalStart f) s.config.active
      false (decide (f % 1800 ≠ 0)))).joinDay (dayOf f)).ranTo f := by
  have hstart : s.startRecording (intervalStart f) (dayOf f) (decide (f % 1800 ≠ 0)) =
      (s.enterRecording.openSet (.opened (intervalStart f) s.config.active false
        (decide (f % 1800 ≠ 0)))).joinDay (dayOf f) := by
    rw [State.startRecording, State.transferAt, State.transferBy_of_none (.inl hstage)]
    rfl
  rw [State.resumeMode, hmode]
  simp only [if_pos hpassed, hstart]
  exact congrArg (State.ranTo f) (State.drainAll_of_nil hwork)

theorem State.resumeMode_entering {second f : Nat} (hmode : s.supply.mode = .enteringService)
    (hearlier : f < nextBoundary second) : s.resumeMode second f = s := by
  rw [State.resumeMode, hmode]
  exact if_neg (Nat.not_le_of_lt hearlier)

/-! ### From ENTERING_SERVICE without one (R61, R161) -/

theorem State.lostMode_entering {f : Nat} (hmode : s.supply.mode = .enteringService) :
    s.lostMode f = s.noteLost f := by
  rw [State.lostMode, hmode]

/-- SNAPSHOT_LOST joins the queue (R161, R184). -/
theorem State.noteLost_room (h : s.roomFor 1) (f : Nat) : s.noteLost f =
    s.queued [.event (.plain f .snapshotLost (s.store.closedThrough.getD 0xFFFFFFFF))] :=
  State.note_room h EventKind.noConfusion EventKind.noConfusion _ _

/-- The year counter of a stack without a snapshot (R61). -/
theorem State.rebuildYears_stackUnit {k year secs : Nat} {v : StackUnit}
    (h : s.stackUnits[k]? = some v) (hyear : year = yearOfDay (s.time.counter / 86400))
    (hsecs : secs = ((s.store.tally.find? fun t => decide (t.state ≠ .unused) &&
      decide (t.year = some year)).map fun t => t.stackAbn.getD k 0).getD 0) :
    s.rebuildYears.stackUnits[k]? = some { v with
      yearCounter := secs, counterYear := year
      yearMark := decide ((s.config.active.stack k).yearLimit ≤ secs) } := by
  have habn : (((State.rebuildYears.findSlot s.store.tally year).map TallySlot.stackAbn).getD
      []).getD k 0 = secs := by
    rw [hsecs, State.rebuildYears.findSlot]
    cases s.store.tally.find? fun t => decide (t.state ≠ .unused) && decide (t.year = some year) with
    | none => exact List.getD_nil
    | some t => rfl
  have hunits : s.rebuildYears.stackUnits = s.stackUnits.mapIdx fun k u => u.rebuilt
      ((((State.rebuildYears.findSlot s.store.tally year).map TallySlot.stackAbn).getD []).getD k
        0) year (s.config.active.stack k).yearLimit := by
    rw [hyear]
    rfl
  rw [hunits, List.getElem?_mapIdx, h, Option.map_some, habn]
  rfl

end Entering

end Sys2Proof.Machine
end

section
/-! Recovery in WITHDRAWN: what is left of a withdrawal is done (R155, R160). -/

namespace Sys2Proof.Machine

/-! ### The held sets are flagged INTERRUPTED (R95) -/

theorem Accumulator.flagged_flagged (t i t' i' : Bool) (x : Accumulator) :
    (x.flagged t i).flagged t' i' = x.flagged (t || t') (i || i') := by
  simp only [Accumulator.flagged, Bool.or_assoc]

theorem AccSet.flagged_twice (t i : Bool) (a : AccSet) :
    (a.flagged t i).flagged t i = a.flagged t i := by
  simp only [AccSet.flagged, List.map_map, Function.comp_def, Accumulator.flagged_flagged,
    Bool.or_self]

/-- The records of a set flagged before it closes. -/
theorem AccSet.closing_flagged (t i t' i' : Bool) (a : AccSet) :
    (a.flagged t i).closing t' i' = a.closing (t || t') (i || i') := by
  have haccs : (a.flagged t i).accs = a.accs.map (Accumulator.flagged t i) := rfl
  simp only [AccSet.closing, AccSet.record_flagged, haccs, List.map_map, Function.comp_def,
    Accumulator.flagged_flagged]

theorem AccSet.closing_both (a : AccSet) : (a.closing true true).map .interval =
    a.accs.map fun x =>
      QueueItem.interval (a.record { x with truncated := true, interrupted := true }) := by
  simp only [AccSet.closing, List.map_map, Function.comp_def, Accumulator.flagged, Bool.or_true]

/-- Marking the sets of several intervals flags each of them once. -/
theorem foldl_markSet (t i : Bool) (starts : List Nat) : ∀ sets : List AccSet,
    starts.foldl (fun sets start => markSet start t i sets) sets =
      sets.map fun a => if a.start ∈ starts then a.flagged t i else a := by
  induction starts with
  | nil => intro sets; simp
  | cons b rest ih =>
    intro sets
    rw [List.foldl_cons, ih, markSet_eq, List.map_map]
    refine List.map_congr_left fun a _ => ?_
    by_cases hb : a.start = b
    · by_cases hrest : b ∈ rest <;> simp [hb, hrest, AccSet.flagged_twice]
    · simp [hb]

section Interrupted

variable (s : State)

theorem State.foldl_interrupt (starts : List Nat) : ∀ s : State,
    starts.foldl (fun t start => t.interrupt start) s =
      s.putSets (starts.foldl (fun sets start => markSet start false true sets)
        s.recorder.accSets) := by
  induction starts with
  | nil => exact fun _ => rfl
  | cons b rest ih => exact fun s => ih (s.interrupt b)

theorem State.interruptAll_eq :
    s.interruptAll = s.putSets (s.recorder.accSets.map (AccSet.flagged false true)) := by
  rw [State.interruptAll, State.foldl_interrupt, foldl_markSet]
  refine congrArg s.putSets (List.map_congr_left fun a ha => ?_)
  rw [if_pos (List.mem_map_of_mem ha)]

theorem State.closeOpenSets_closed :
    s.SetsClosed (s.recorder.accSets.map AccSet.start) s.closeOpenSets :=
  State.foldl_closeSetFlagged_closed true false _ s

theorem State.interruptAll_starts :
    s.interruptAll.recorder.accSets.map AccSet.start = s.recorder.accSets.map AccSet.start := by
  rw [s.interruptAll_eq]
  show (s.recorder.accSets.map (AccSet.flagged false true)).map AccSet.start = _
  rw [List.map_map]
  rfl

/-- The records of the held sets, TRUNCATED and INTERRUPTED both (R95, R155). -/
theorem State.closeOpenSets_queue (hnodup : (s.recorder.accSets.map AccSet.start).Nodup)
    (hroom : s.roomFor (s.recorder.accSets.flatMap AccSet.accs).length) :
    s.interruptAll.closeOpenSets.recorder.queue = s.recorder.queue ++
      s.recorder.accSets.flatMap fun a => a.accs.map fun x =>
        .interval (a.record { x with truncated := true, interrupted := true }) := by
  have hsets : s.interruptAll.recorder.accSets =
      s.recorder.accSets.map (AccSet.flagged false true) := by rw [s.interruptAll_eq]; rfl
  have hqueue : s.interruptAll.recorder.queue = s.recorder.queue := by rw [s.interruptAll_eq]; rfl
  have hlen : ((s.recorder.accSets.map (AccSet.flagged false true)).flatMap AccSet.accs).length =
      (s.recorder.accSets.flatMap AccSet.accs).length := by
    simp [List.length_flatMap, AccSet.flagged, Function.comp_def]
  have hclosed := State.foldl_closeSetFlagged_queue true false _ s.interruptAll hsets
    (by rw [← hsets, s.interruptAll_starts]; exact hnodup)
    (by rw [State.roomFor, hqueue, hlen]; exact hroom)
  rw [State.closeOpenSets, hsets, hclosed, hqueue, List.flatMap_map]
  refine congrArg _ (List.flatMap_congr fun a _ => ?_)
  rw [AccSet.closing_flagged]
  exact a.closing_both

end Interrupted

/-! ### The end of a withdrawal (R155) -/

section Finish

variable (s : State)

theorem State.openSlots_congr {t : State} (h : t.recorder.tally = s.recorder.tally) :
    t.openSlots = s.openSlots := by
  rw [State.openSlots, State.openSlots, h]
  exact List.filter_congr fun i _ => by rw [s.slot_of_tally h]

/-- What the end of a withdrawal leaves: the work and the sets stay, no slot is OPEN, and the queue, where it has
room, ends with WITHDRAWN's record and a checkpoint of each slot that was. -/
structure State.Withdrawn (s : State) (point count : Nat) (t : State) : Prop where
  recorded : s.Recorded t
  accSets : t.recorder.accSets = s.recorder.accSets
  table : t.recorder.table = s.recorder.table
  work : t.recorder.work = s.recorder.work
  withdrawal : t.recorder.withdrawal = none
  none_open : ∀ x ∈ t.recorder.tally, x.state ≠ .opened
  queue_room : s.roomFor (1 + s.openSlots.length) → ∃ more, t.recorder.queue =
    s.recorder.queue ++ (.event (.plain point .withdrawn count) :: more) ∧
    more.length = s.openSlots.length ∧ ∀ q ∈ more, q.isFinal

theorem State.finishWithdrawal_withdrawn (point count : Nat) :
    s.Withdrawn point count (s.finishWithdrawal point count) := by
  let n : State := s.note .withdrawn point count
  let t : State := n.finalSlots.releaseWithdrawal
  have htallied : s.Tallied n.finalSlots :=
    (s.note_tallied _ _ _).trans (State.finalSlots_tallied _)
  have hend : s.finishWithdrawal point count = t ∨
      s.finishWithdrawal point count = t.endOp .inspection .done none none [count] := by
    rw [State.finishWithdrawal]
    split
    · exact .inr rfl
    · exact .inl rfl
  have hrecorder : (s.finishWithdrawal point count).recorder = t.recorder := by
    rcases hend with h | h
    · rw [h]
    · rw [h, State.endOp_recorder]
  refine ⟨s.finishWithdrawal_recorded point count, ?_, ?_, ?_, ?_, ?_, fun hroom => ?_⟩
  · rw [hrecorder]; exact htallied.accSets
  · rw [hrecorder]; exact htallied.table
  · rw [hrecorder]; exact htallied.work
  · rw [hrecorder]; rfl
  · rw [hrecorder]; exact State.finalSlots_none_open n
  · have hnote : n = s.queued [.event (.plain point .withdrawn count)] :=
      State.note_room (State.roomFor_le hroom (Nat.le_add_right _ _)) EventKind.noConfusion
        EventKind.noConfusion _ _
    have hopen : n.openSlots = s.openSlots :=
      s.openSlots_congr (s.note_tally _ _ _)
    obtain ⟨more, hqueue, hlen, hfinal⟩ := State.finalSlots_queue (s := n) (by
      rw [hopen, hnote, State.roomFor_queued]
      exact hroom)
    refine ⟨more, ?_, hopen ▸ hlen, hfinal⟩
    rw [hrecorder]
    refine hqueue.trans ?_
    rw [hnote]
    exact List.append_assoc _ [_] _

end Finish

/-! ### The days of a withdrawal are closed -/

section Days

variable {s : State} {o : Occasion}

/-- The closes of a withdrawal (R155): every day that is left. -/
def Occasion.ofWithdrawal (gov : Tables) : Occasion :=
  { cause := .withdrawal, range := .every, joins := none, gov := gov, closed := 0 }

theorem State.closeWaits_withdrawal (hnone : s.annotation = none) (hsets : s.recorder.accSets = [])
    (day : Nat) : s.closeWaits .withdrawal day = false := by
  rw [State.closeWaits, State.rewritingOn, hnone]
  show s.openOn day = false
  rw [State.openOn, hsets]
  rfl

/-- An occasion that is alone and has nothing to close ends. -/
theorem State.drainCloses_of_ended (hwork : s.recorder.work = [.occasion o])
    (hdue : o.due s.recorder.table = none) (n : Nat) :
    s.drainCloses n = (s.putWork []).endOccasion o :=
  have hended : s.runWork = ((s.putWork []).endOccasion o).runWork :=
    State.runWork_of_ended hwork hdue
  (State.drainCloses_congr hended n).trans
    (State.drainCloses_of_nil (State.endOccasion_work o _) n)

/-- The days of a withdrawal are closed one after another. `I` is what each close keeps. -/
theorem State.drainCloses_withdrawal {I : State → Prop} {gov : Tables}
    (hstep : ∀ (t : State) (c : Nat) (p : ProvDay), I t → p ∈ t.recorder.table →
      t.recorder.work = [.occasion { Occasion.ofWithdrawal gov with closed := c }] →
      t.annotation = none ∧ t.recorder.accSets = [] ∧
        I (t.closeNextDay { Occasion.ofWithdrawal gov with closed := c } p []))
    {n : Nat} (hI : I s) (hwork : s.recorder.work = [.occasion (.ofWithdrawal gov)])
    (hn : s.recorder.table.length ≤ n) :
    ∃ (c : Nat) (t : State), I t ∧ t.recorder.table = [] ∧ s.drainCloses n =
      (t.putWork []).endOccasion { Occasion.ofWithdrawal gov with closed := c } := by
  have hle := (Occasion.ofWithdrawal gov).inRange_le s.recorder.table
  obtain ⟨m, c, t, hdrain, hIt, hworkt, htable, -⟩ := State.drainCloses_of_occasion (I := I)
    (o := .ofWithdrawal gov) (rest := []) (fun _ h => absurd h List.not_mem_nil)
    (fun t c p ht hw hdue => by
      obtain ⟨hnone, hsets, hnext⟩ := hstep t c p ht (Occasion.due_holds hdue).1 hw
      exact ⟨State.closeWaits_withdrawal hnone hsets _, hnext⟩)
    n s 0 hI hwork (by omega)
  have hempty : t.recorder.table = [] := by
    rw [htable, List.filter_eq_nil_iff]
    exact fun _ _ h => Bool.false_ne_true h
  refine ⟨c, t, hIt, hempty, ?_⟩
  rw [hdrain]
  exact State.drainCloses_of_ended hworkt (by rw [hempty]; rfl) m

end Days

/-! ### The work of a withdrawal at a recovery -/

section Work

variable {s : State}

/-- A withdrawal whose sets are closed, its occasion waiting (R155). -/
def State.withdrawing (w : Withdrawal) (s : State) : State :=
  (s.startWithdrawal w).addWork (.occasion (.ofWithdrawal s.config.active))

theorem State.resumeQueued_of_none (h : s.annotation = none) : s.resumeQueued = s := by
  rw [State.resumeQueued, h]

theorem State.settle_of_starting (h : s.supply.power = .starting) : s.settle = s := by
  rw [State.settle, if_neg]
  rw [State.running, h]
  exact fun h => Bool.false_ne_true h.1

theorem State.withdrawalWork_eq (w : Withdrawal) (s : State) : s.withdrawalWork w =
    ((s.closeOpenSets.withdrawing w).drainCloses
      (s.closeOpenSets.recorder.table.length + 1)).resumeQueued.settle := rfl

/-- A withdrawal with one more day closed. -/
def Withdrawal.counted (w : Withdrawal) : Withdrawal := { w with closed := w.closed + 1 }

theorem State.closeNextDay_withdrawal {o : Occasion} (h : o.cause = .withdrawal) (p : ProvDay)
    (rest : List RecorderWork) (s : State) : (s.closeNextDay o p rest).recorder.withdrawal =
      s.recorder.withdrawal.map Withdrawal.counted := by
  have hclosed := s.closeDay_closed (s.governs o) o.cause p
  rw [← hclosed.withdrawal, State.closeNextDay, h]
  rfl

/-- What the closes of a withdrawal's days keep. -/
structure State.Withdrawing (s t : State) : Prop where
  recorded : s.Recorded t
  accSets : t.recorder.accSets = []
  under : ∃ w, t.recorder.withdrawal = some w

theorem State.Withdrawing.closeNextDay {t : State} {gov : Tables} {c : Nat} (h : s.Withdrawing t)
    (p : ProvDay) : s.Withdrawing
      (t.closeNextDay { Occasion.ofWithdrawal gov with closed := c } p []) := by
  refine ⟨h.recorded.trans (t.closeNextDay_recorded _ _ _),
    (t.closeNextDay_accSets _ _ _).trans h.accSets, ?_⟩
  obtain ⟨w, hw⟩ := h.under
  rw [State.closeNextDay_withdrawal rfl, hw]
  exact ⟨_, rfl⟩

/-- What is left of a withdrawal is done, its sets being closed (R155, R160). -/
theorem State.withdrawing_done (hnone : s.annotation = none) (hwork : s.recorder.work = [])
    (hsets : s.recorder.accSets = []) (w : Withdrawal) {n : Nat}
    (hn : s.recorder.table.length ≤ n) :
    s.Recorded ((s.withdrawing w).drainCloses n) ∧
    ((s.withdrawing w).drainCloses n).recorder.accSets = [] ∧
    ((s.withdrawing w).drainCloses n).recorder.table = [] ∧
    ((s.withdrawing w).drainCloses n).recorder.work = [] ∧
    ((s.withdrawing w).drainCloses n).recorder.withdrawal = none ∧
    ∀ x ∈ ((s.withdrawing w).drainCloses n).recorder.tally, x.state ≠ .opened := by
  have hqueue : s.Recorded (s.withdrawing w) := s.recorder_recorded
  obtain ⟨c, t, ht, htable, hdrain⟩ := State.drainCloses_withdrawal (s := s.withdrawing w)
    (I := s.Withdrawing) (gov := s.config.active) (fun t c p ht _ _ =>
      ⟨ht.recorded.annotation hnone, ht.accSets, ht.closeNextDay p⟩) (n := n)
    ⟨hqueue, hsets, _, rfl⟩ (congrArg (· ++ _) hwork) hn
  obtain ⟨w', hw'⟩ := ht.under
  have hend := State.endOccasion_withdrawal (s := t.putWork []) (w := w')
    (o := { Occasion.ofWithdrawal s.config.active with closed := c }) rfl hw'
  have hfinish := (t.putWork []).finishWithdrawal_withdrawn
    (w'.point.getD t.time.counter) w'.closed
  rw [hdrain, hend]
  exact ⟨(ht.recorded.trans t.recorder_recorded).trans hfinish.recorded,
    hfinish.accSets.trans ht.accSets, hfinish.table.trans htable, hfinish.work,
    hfinish.withdrawal, hfinish.none_open⟩

/-- A withdrawal with no day left: its record and the checkpoints follow at once (R155). -/
theorem State.withdrawing_queue (hwork : s.recorder.work = []) (htable : s.recorder.table = [])
    {w : Withdrawal} {point : Nat} (hpoint : w.point = some point)
    (hroom : s.roomFor (1 + s.openSlots.length)) (n : Nat) :
    ∃ more, ((s.withdrawing w).drainCloses n).recorder.queue =
      s.recorder.queue ++ (.event (.plain point .withdrawn w.closed) :: more) ∧
      more.length = s.openSlots.length ∧ ∀ q ∈ more, q.isFinal := by
  have hend := State.endOccasion_withdrawal (s := (s.withdrawing w).putWork [])
    (w := { w with started := true }) (o := .ofWithdrawal s.config.active) rfl rfl
  rw [State.drainCloses_of_ended (s := s.withdrawing w) (congrArg (· ++ _) hwork) (by
    show Occasion.due _ s.recorder.table = none
    rw [htable]
    rfl) n, hend, hpoint]
  exact (((s.withdrawing w).putWork []).finishWithdrawal_withdrawn point w.closed).queue_room hroom

end Work

end Sys2Proof.Machine
end

section
/-! Recovery in WITHDRAWN without a snapshot: a withdrawal cut short is completed (R155, R161). -/

namespace Sys2Proof.Machine

/-! ### Checkpoints of the slots that turn FINAL (R130) -/

/-- Where the queue has room for a checkpoint of each OPEN slot, it has grown by checkpoints of slots that have turned
FINAL, and the slots still OPEN are fewer by as many. -/
def State.Finals (s t : State) : Prop :=
  s.roomFor s.openSlots.length → ∃ more, t.recorder.queue = s.recorder.queue ++ more ∧
    (∀ q ∈ more, q.isFinal) ∧ more.length + t.openSlots.length ≤ s.openSlots.length

namespace State.Finals

variable {s t u : State}

theorem of_same (hqueue : t.recorder.queue = s.recorder.queue)
    (htally : t.recorder.tally = s.recorder.tally) : s.Finals t := fun _ =>
  ⟨[], hqueue.trans (List.append_nil _).symm, fun _ h => absurd h List.not_mem_nil,
    Nat.le_of_eq ((Nat.zero_add _).trans (congrArg List.length (s.openSlots_congr htally)))⟩

theorem refl (s : State) : s.Finals s := of_same rfl rfl

theorem trans (h : s.Finals t) (k : t.Finals u) : s.Finals u := by
  intro hroom
  obtain ⟨xs, hxs, hfinal, hlen⟩ := h hroom
  obtain ⟨ys, hys, hfinal', hlen'⟩ := k (by
    rw [State.roomFor, hxs, List.length_append]
    rw [State.roomFor] at hroom
    omega)
  refine ⟨xs ++ ys, by rw [hys, hxs, List.append_assoc], fun q hq => ?_, ?_⟩
  · exact (List.mem_append.1 hq).elim (hfinal q) (hfinal' q)
  · rw [List.length_append]
    omega

end State.Finals

section Closes

variable (s : State)

theorem State.openSlots_nodup : s.openSlots.Nodup := List.nodup_range.filter _

/-- One OPEN slot fewer. -/
theorem State.openSlots_finalSlot {i : Nat} (h : (s.slot i).state = .opened) :
    (s.finalSlot i).openSlots.length + 1 ≤ s.openSlots.length := by
  have hstate : ∀ j, ((s.finalSlot i).slot j).state =
      if j = i ∧ (s.slot j).state = .opened then .final else (s.slot j).state := by
    have hopen : s.finalIfOpen i = s.finalSlot i := if_pos h
    rw [← hopen]
    exact s.finalIfOpen_slot i
  have hmem : ∀ j ∈ (s.finalSlot i).openSlots, j ≠ i ∧ j ∈ s.openSlots := by
    intro j hj
    rw [State.mem_openSlots, hstate] at hj
    split at hj
    · exact absurd hj (by decide)
    · next hnot => exact ⟨fun hji => hnot ⟨hji, hj⟩, (s.mem_openSlots j).2 hj⟩
  have hnodup : (i :: (s.finalSlot i).openSlots).Nodup :=
    List.nodup_cons.2 ⟨fun hi => (hmem i hi).1 rfl, State.openSlots_nodup _⟩
  refine (List.subperm_of_subset hnodup fun j hj => ?_).length_le
  rcases List.mem_cons.1 hj with rfl | hj
  · exact (s.mem_openSlots j).2 h
  · exact (hmem j hj).2

/-- A slot that turns FINAL, with its checkpoint (R130, R112). -/
theorem State.finalSlot_finals {i : Nat} (h : (s.slot i).state = .opened) :
    s.Finals ((s.finalSlot i).checkpoint i) := by
  intro hroom
  have hfewer := s.openSlots_finalSlot h
  have hqueue := s.finalSlot_queue i
  have hoffer : (s.finalSlot i).checkpoint i =
      (s.finalSlot i).queued [.checkpoint i ((s.finalSlot i).slot i)] := by
    refine State.offer_room ?_ _
    rw [State.roomFor, hqueue]
    rw [State.roomFor] at hroom
    omega
  refine ⟨[.checkpoint i ((s.finalSlot i).slot i)], ?_, fun q hq => ?_, ?_⟩
  · rw [hoffer, ← hqueue]
    rfl
  · rw [List.mem_singleton.1 hq]
    exact ⟨i, _, rfl, s.finalSlot_slot_same (s.slot_opened h)⟩
  · rw [(s.finalSlot i).openSlots_congr (State.checkpoint_tally _ i)]
    exact (Nat.add_comm _ _).trans_le hfewer

/-- The close of a day with no entry adds no record (R112). -/
theorem State.closeIntoTally_finals (day : Nat) : s.Finals (s.closeIntoTally day []) := by
  rw [State.closeIntoTally, if_pos rfl]
  split
  · next i _ =>
    split
    · next h => exact s.finalSlot_finals h.2
    · exact .refl s
  · exact .refl s

theorem State.closeThrough_recorder (day : Nat) : (s.closeThrough day).recorder = s.recorder := by
  rw [State.closeThrough, State.claimProtection]
  split <;> rfl

theorem State.countWithdrawn_finals (c : CloseCause) : s.Finals (s.countWithdrawn c) := by
  cases c <;> exact .of_same rfl rfl

/-- The close of a day with no entry (R112). -/
theorem State.closeNextDay_finals {o : Occasion} {p : ProvDay} (h : p.closing (s.governs o) = [])
    (rest : List RecorderWork) : s.Finals (s.closeNextDay o p rest) := by
  have hrecords : p.records (s.governs o) o.cause = [] := by rw [ProvDay.records, h]; rfl
  let t : State := s.closeIntoTally p.day []
  let d : State := s.closeDay (s.governs o) o.cause p
  have hrecorder : d.recorder = ((t.closeThrough p.day).forgetDay p.day).recorder := by
    show (State.closeDay _ _ _ s).recorder = _
    rw [State.closeDay, hrecords]
    exact congrArg State.recorder (if_neg Bool.false_ne_true) |>.trans
      (State.raiseAll_recorder _ _)
  have hclose : d.recorder = { t.recorder with
      table := t.recorder.table.filter fun q => decide (q.day ≠ p.day) } := by
    rw [hrecorder, State.forgetDay, State.closeThrough_recorder]
  have hsame : t.Finals d := .of_same (by rw [hclose]) (by rw [hclose])
  have hcount : d.Finals (s.closeNextDay o p rest) :=
    (d.countWithdrawn_finals o.cause).trans (.of_same rfl rfl)
  exact ((s.closeIntoTally_finals p.day).trans hsame).trans hcount

end Closes

/-! ### The withdrawal that a lost snapshot has cut short (R161) -/

section Lost

variable {s : State}

/-- What the closes of the days of a withdrawal no longer under way keep. -/
structure State.LostDays (s t : State) : Prop where
  recorded : s.Recorded t
  accSets : t.recorder.accSets = []
  withdrawal : t.recorder.withdrawal = none
  days : ∀ d ∈ t.recorder.table, d ∈ s.recorder.table
  finals : (∀ d ∈ s.recorder.table, d.closing s.config.active = []) → s.Finals t

theorem State.LostDays.closeNextDay {t : State} {gov : Tables} {c : Nat} (h : s.LostDays t)
    {p : ProvDay} (hp : p ∈ t.recorder.table) : s.LostDays
      (t.closeNextDay { Occasion.ofWithdrawal gov with closed := c } p []) := by
  refine ⟨h.recorded.trans (t.closeNextDay_recorded _ _ _),
    (t.closeNextDay_accSets _ _ _).trans h.accSets, ?_, fun d hd => ?_, fun hall => ?_⟩
  · rw [State.closeNextDay_withdrawal rfl, h.withdrawal]
    rfl
  · rw [State.closeNextDay_table] at hd
    exact h.days d (List.mem_filter.1 hd).1
  · refine (h.finals hall).trans (t.closeNextDay_finals ?_ [])
    have hgoverns : t.governs { Occasion.ofWithdrawal gov with closed := c } = s.config.active :=
      congrArg ConfigUnit.active h.recorded.config
    rw [hgoverns]
    exact hall p (h.days p hp)

/-- The days of a lost withdrawal are closed. -/
theorem State.lostWithdrawal_drained (hnone : s.annotation = none) (hwork : s.recorder.work = [])
    (hsets : s.recorder.accSets = []) (hwithdrawal : s.recorder.withdrawal = none) :
    ∃ t : State, (s.addWork (.occasion (.ofWithdrawal s.config.active))).drainAll = t ∧
      s.LostDays t ∧ t.recorder.table = [] ∧ t.recorder.work = [] := by
  have hqueue : s.Recorded (s.addWork (.occasion (.ofWithdrawal s.config.active))) :=
    s.recorder_recorded
  obtain ⟨c, t, ht, htable, hdrain⟩ := State.drainCloses_withdrawal
    (s := s.addWork (.occasion (.ofWithdrawal s.config.active))) (I := s.LostDays)
    (gov := s.config.active) (fun t c p ht hp _ =>
      ⟨ht.recorded.annotation hnone, ht.accSets, ht.closeNextDay hp⟩)
    (n := s.recorder.table.length + (s.recorder.work ++ [_]).length + 1)
    ⟨hqueue, hsets, hwithdrawal, fun _ h => h, fun _ => .of_same rfl rfl⟩
    (congrArg (· ++ _) hwork) (Nat.le_add_right_of_le (Nat.le_add_right _ _))
  have hend := State.endOccasion_withdrawn (s := t.putWork [])
    (o := { Occasion.ofWithdrawal s.config.active with closed := c }) rfl ht.withdrawal
  refine ⟨t.putWork [], hdrain.trans hend, ?_, htable, rfl⟩
  exact ⟨ht.recorded.trans t.recorder_recorded, ht.accSets, ht.withdrawal, ht.days,
    fun h => (ht.finals h).trans (.of_same rfl rfl)⟩

/-- WITHDRAWN's record of a withdrawal that a lost snapshot has cut short, where days were left to close. -/
def lostWithdrawn (f : Nat) (table : List ProvDay) : List QueueItem :=
  if table = [] then [] else [.event (.plain f .withdrawn table.length)]

theorem lostWithdrawn_length_le (f : Nat) (table : List ProvDay) :
    (lostWithdrawn f table).length ≤ 1 := by
  rw [lostWithdrawn]
  split
  · exact Nat.zero_le _
  · exact Nat.le_refl _

/-- What a lost withdrawal leaves (R161). -/
structure State.LostWithdrawn (s : State) (f : Nat) (x : State) : Prop where
  recorded : s.Recorded x
  table : x.recorder.table = []
  work : x.recorder.work = []
  none_open : ∀ t ∈ x.recorder.tally, t.state ≠ .opened
  queue : (∀ d ∈ s.recorder.table, d.closing s.config.active = []) →
    s.roomFor (s.openSlots.length + 1) → ∃ before more, x.recorder.queue =
      s.recorder.queue ++ before ++ lostWithdrawn f s.recorder.table ++ more ∧
      (∀ q ∈ before ++ more, q.isFinal) ∧ before.length + more.length ≤ s.openSlots.length

theorem State.lostWithdrawal_withdrawn (hnone : s.annotation = none) (hwork : s.recorder.work = [])
    (hsets : s.recorder.accSets = []) (hwithdrawal : s.recorder.withdrawal = none) (f : Nat) :
    s.LostWithdrawn f (s.lostWithdrawal f) := by
  obtain ⟨t, hdrain, ht, htable, hworkt⟩ :=
    State.lostWithdrawal_drained hnone hwork hsets hwithdrawal
  let n : State := if s.recorder.table = [] then t else
    t.note .withdrawn f s.recorder.table.length
  have hlost : s.lostWithdrawal f = n.finalSlots :=
    congrArg (fun d : State => (if s.recorder.table = [] then d else
      d.note .withdrawn f s.recorder.table.length).finalSlots) hdrain
  have hn : t.Tallied n ∧ n.recorder.tally = t.recorder.tally ∧ (t.roomFor 1 →
      n.recorder.queue = t.recorder.queue ++ lostWithdrawn f s.recorder.table) := by
    by_cases h : s.recorder.table = []
    · rw [show n = t from if_pos h, lostWithdrawn, if_pos h]
      exact ⟨.refl t, rfl, fun _ => (List.append_nil _).symm⟩
    · rw [show n = t.note .withdrawn f s.recorder.table.length from if_neg h, lostWithdrawn,
        if_neg h]
      refine ⟨t.note_tallied _ _ _, t.note_tally _ _ _, fun hroom => ?_⟩
      rw [State.note_room hroom EventKind.noConfusion EventKind.noConfusion]
      rfl
  obtain ⟨hnote, htally, hqueue⟩ := hn
  have hfinal := hnote.trans n.finalSlots_tallied
  have hopen : n.openSlots = t.openSlots := t.openSlots_congr htally
  rw [hlost]
  refine ⟨ht.recorded.trans hfinal.recorded, hfinal.table.trans htable, hfinal.work.trans hworkt,
    n.finalSlots_none_open, fun hall hroom => ?_⟩
  obtain ⟨before, hbefore, hbeforeFinal, hfewer⟩ :=
    ht.finals hall (State.roomFor_le hroom (Nat.le_succ _))
  have hnqueue := hqueue (by
    rw [State.roomFor, hbefore, List.length_append]
    rw [State.roomFor] at hroom
    omega)
  have hone := lostWithdrawn_length_le f s.recorder.table
  obtain ⟨more, hmore, hlen, hmoreFinal⟩ := State.finalSlots_queue (s := n) (by
    rw [State.roomFor, hopen, hnqueue, hbefore, List.length_append, List.length_append]
    rw [State.roomFor] at hroom
    omega)
  refine ⟨before, more, by rw [hmore, hnqueue, hbefore], fun q hq => ?_, ?_⟩
  · exact (List.mem_append.1 hq).elim (hbeforeFinal q) (hmoreFinal q)
  · rw [hlen, hopen]
    exact hfewer

end Lost

end Sys2Proof.Machine
end

section
/-! A retention mark that cannot be cleared (R139, R162). -/

namespace Sys2Proof.Machine

section Refusals

variable {s : State} {l : Link}

/-- The end of an operation changes its port and its link's flags; held flags stay. -/
theorem State.endOp_quiet (out : OpOutcome) (r : Option Reason) (i : Option Nat) (c : List Nat) :
    ∃ (links : Links) (attention : AttentionUnit),
      s.endOp l out r i c = { s with links := links, attention := attention } ∧
      attention.held = s.attention.held ∧
      (l = .operator → links.inspection.op = s.links.inspection.op) := by
  rw [State.endOp]
  split
  · exact ⟨_, _, rfl, rfl, fun _ => rfl⟩
  · cases l with
    | plant => exact ⟨_, _, rfl, rfl, fun h => Link.noConfusion h⟩
    | operator => exact ⟨_, _, rfl, rfl, fun _ => rfl⟩
    | inspection => exact ⟨_, _, rfl, rfl, fun h => Link.noConfusion h⟩

/-- A link with no annotation in flight loses at most its operation (R140). -/
theorem State.refuseWaiting_quiet (h : ∀ op, s.opCmd l ≠ some (.applyAnnotation op)) :
    ∃ (links : Links) (attention : AttentionUnit),
      s.refuseWaiting l = { s with links := links, attention := attention } ∧
      attention.held = s.attention.held ∧
      (l = .operator → links.inspection.op = s.links.inspection.op) := by
  cases ho : (s.port l).op with
  | none =>
    rw [State.refuseWaiting_of_idle ho]
    exact ⟨_, _, rfl, rfl, fun _ => rfl⟩
  | some o =>
    rw [State.refuseWaiting_of_write ho fun op hcmd => h op (by rw [State.opCmd, ho, ← hcmd]; rfl)]
    split
    · exact State.endOp_quiet _ _ _ _
    · exact ⟨_, _, rfl, rfl, fun _ => rfl⟩

end Refusals

section Failed

variable {s : State}

/-- What a failed clear of the mark leaves while STARTING: the store in FAULT, its record at the end of the queue, and its
flag held. -/
structure State.ClearFailed (s : State) (w : Word) (t : State) : Prop where
  time : t.time = s.time
  supply : t.supply = s.supply
  store : t.store = { s.store with fault := true }
  draws : t.freeDraws = s.freeDraws + 1
  work : t.recorder.work = s.recorder.work
  queue : t.recorder.queue = s.recorder.queue ++ [.event {
    time := s.time.counter, kind := .storeFault, stack := none, channel := none, argument := w }]
  held : t.attention.held &&& flagStore = flagStore

theorem State.clearMark_failed (hpower : s.supply.power = .starting)
    (hready : s.store.fault = false) (hroom : s.roomFor 1) (hnone : s.annotation = none)
    (hinspection : ∀ op, s.opCmd .inspection ≠ some (.applyAnnotation op)) :
    s.ClearFailed (Config.retentionFaultArgument s.freeDraws) (s.clearMark false) := by
  let w : Word := Config.retentionFaultArgument s.freeDraws
  let e : EventRec :=
    { time := s.time.counter, kind := .storeFault, stack := none, channel := none, argument := w }
  let f : State := { s with freeDraws := s.freeDraws + 1, store := { s.store with fault := true } }
  let q : State := f.queued [.event e]
  let r : State := { q with attention := { q.attention with held := q.attention.held ||| flagStore } }
  have hrecord : f.writeEvent e = q :=
    State.writeEvent_room (s := f) hroom e EventKind.noConfusion EventKind.noConfusion
  have hraise : q.raiseAll flagStore = r := if_pos hpower
  have hclear : s.clearMark false =
      (r.dropGrant.refuseWaiting .operator).refuseWaiting .inspection := by
    rw [State.clearMark, if_neg Bool.false_ne_true, if_neg (by rw [hready]; exact Bool.false_ne_true),
      ← hraise, ← hrecord]
    rfl
  have hoperator : ∀ op, r.dropGrant.opCmd .operator ≠ some (.applyAnnotation op) := by
    intro op h
    have : s.annotation = some op := by
      rw [State.annotation, show s.opCmd .operator = _ from h]
    exact absurd (hnone.symm.trans this) nofun
  obtain ⟨links, attention, hfirst, hheld, hlinks⟩ := State.refuseWaiting_quiet hoperator
  obtain ⟨links', attention', hsecond, hheld', -⟩ := State.refuseWaiting_quiet
    (s := { r.dropGrant with links := links, attention := attention }) (l := .inspection)
    fun op h => hinspection op (by
      rw [← h, State.opCmd, State.opCmd]
      exact congrArg (Option.map LinkOp.cmd) (hlinks rfl).symm)
  rw [hclear, hfirst, hsecond]
  refine ⟨rfl, rfl, rfl, rfl, rfl, rfl, ?_⟩
  rw [show attention'.held = _ from hheld'.trans hheld]
  exact BitVec.or_and_of_and _ (BitVec.and_self)

/-- In COMMISSIONING recovery has no work on intervals and days (R160, R161). -/
theorem State.recoveryWork_commissioning (hmode : s.supply.mode = .commissioning) :
    ∃ units, s.recoveryWork = s.withUnits units := by
  rw [State.recoveryWork]
  cases s.store.held with
  | none =>
    refine ⟨s.rebuildYears.stackUnits, ?_⟩
    show s.rebuildYears.lostMode _ = _
    rw [State.lostMode, show s.rebuildYears.supply.mode = .commissioning from hmode]
    rfl
  | some p =>
    refine ⟨s.stackUnits, ?_⟩
    show s.resumeMode _ _ = _
    rw [State.resumeMode, hmode]
    rfl

theorem State.mustSuspend_commissioning (hmode : s.supply.mode = .commissioning) :
    s.mustSuspend = false := by
  rw [State.mustSuspend, hmode]
  exact Bool.and_false _

/-- The end of a recovery whose mark cannot be cleared (R162). -/
theorem exec_recovered_failed {x : State} {w : Word} (hpower : s.supply.power = .starting)
    (hgo : s.mustSuspend = false) (hx : s.recoveryWork = x) (hwork : x.recorder.work = [])
    (hfailed : x.ClearFailed w (x.clearMark false)) :
    ∃ u : State, exec (.endOfRecovery false) s = .next u.settle ∧
      (x.clearMark false).Ended
        (.event (.plain s.firstSecond .restart (causeCode s.store.held))) u := by
  refine ⟨_, exec_endOfRecovery hpower hgo false, ?_⟩
  rw [hx]
  exact State.endRecovery_ended (hfailed.work.trans hwork) _ _

end Failed

end Sys2Proof.Machine
end

section
/-! The recoveries together (R159 to R162), and O28. -/

namespace Sys2Proof.Machine

section Recoveries

variable {s : State} {f : Nat} {restart : QueueItem} {p : Snapshot}

theorem State.Ended.running {t u : State} (h : t.Ended restart u) : u.supply.power = .running := by
  rw [h.supply]

theorem State.Ended.mode {t u : State} (h : t.Ended restart u) : u.supply.mode = t.supply.mode := by
  rw [h.supply]

theorem AccSet.closing_interrupted (a : AccSet) :
    a.closing false true = a.accs.map fun x => a.record { x with interrupted := true } := by
  simp only [AccSet.closing, Accumulator.flagged, Bool.or_false, Bool.or_true]

/-- In RECORDING, the snapshot being of an earlier interval: all but the records of a single set. -/
theorem State.recovers_recording (hmode : s.supply.mode = .recording)
    {x : State} (hx : s.Resumed p.second f x) {u : State} (hend : x.unmarked.Ended restart u) :
    u.time = s.time ∧ u.supply.power = .running ∧ u.supply.mode = .recording ∧
    u.supply.recoveredTo = some f ∧ u.config = s.config ∧ u.store.mark = false ∧
    u.recorder.accSets = [.opened (intervalStart f) s.config.active false (decide (f % 1800 ≠ 0))] ∧
    (∀ d ∈ u.recorder.table, dayOf f ≤ d.day + s.config.active.device.window) ∧
    (∃ d ∈ u.recorder.table, d.day = dayOf f) ∧
    ((∀ n, dayOf p.second < n → n ≤ dayOf f → isFirstOfYear n = false) →
      u.stackUnits = s.stackUnits) ∧
    ((∃ n, dayOf p.second < n ∧ n ≤ dayOf f ∧ isFirstOfYear n = true) →
      ∀ v ∈ u.stackUnits, v.yearCounter = 0 ∧ v.yearMark = false) ∧
    ∀ l, (u.attention.get l).pending &&& 0x0202 = 0x0202 := by
  have htable : u.recorder.table = x.recorder.table := hend.table
  have hunits : u.stackUnits =
      crossedUnits (dayOf p.second + 1) (dayOf f - dayOf p.second) s.stackUnits :=
    hend.stackUnits.trans hx.units
  have hflags : flagRestarted ||| flagIntervalClosed = 0x0202 := by decide
  refine ⟨hend.time.trans hx.time, hend.running, hend.mode.trans ?_, ?_, hend.config.trans hx.config,
    ?_, hend.accSets.trans hx.accSets, fun d hd => ?_, ?_, fun h => ?_, fun h => ?_, fun l => ?_⟩
  · exact (congrArg Supply.mode hx.supply).trans hmode
  · rw [hend.supply]
    exact congrArg Supply.recoveredTo hx.supply
  · rw [hend.store]
    rfl
  · exact hx.window d.day (mem_days (htable ▸ hd))
  · obtain ⟨d, hd, hday⟩ := List.mem_map.1 hx.there
    exact ⟨d, htable.symm ▸ hd, hday⟩
  · exact hunits.trans (crossedUnits_of_none (fun i _ => h _ (by omega) (by omega)) _)
  · obtain ⟨n, hlow, hle, hfirst⟩ := h
    rw [hunits]
    refine crossedUnits_of_some (i := n - (dayOf p.second + 1)) (by omega) ?_ _
    rw [show dayOf p.second + 1 + (n - (dayOf p.second + 1)) = n by omega]
    exact hfirst
  · rw [← hflags]
    exact hend.flags flagIntervalClosed hx.held l

/-- In RECORDING, the records of a single set that closes on the snapshot's own day (R95, R160). -/
theorem State.recovers_single {a : AccSet} {d : ProvDay} {second : Nat}
    (hmode : s.supply.mode = .recording) (hwork : s.recorder.work = [])
    (hstage : s.config.stage.state ≠ .approved) (hstart : a.start ≠ intervalStart f)
    (hsets : s.recorder.accSets = [a]) (htable : s.recorder.table = [d])
    (hday : d.day = dayOf a.start) (hsecond : d.day = dayOf second) (hlater : d.day = dayOf f)
    (hroom : s.roomFor (a.accs.length + 1)) {u : State}
    (hend : (s.resumeMode second f).unmarked.Ended restart u) :
    u.recorder.queue = s.recorder.queue ++
        a.accs.map (fun x => .interval (a.record { x with interrupted := true })) ++ [restart] ∧
      u.recorder.table = [{ d with entries := (a.accs.map fun x =>
        a.record { x with interrupted := true }).foldl (fun es r =>
          putEntry r.channel (DayEntry.contribute r .queued) es) d.entries }] := by
  obtain ⟨hqueue, htables⟩ := State.resumeMode_single hmode hwork hstage hsets htable hstart hsecond
    hlater (State.roomFor_le hroom (Nat.le_succ _))
  rw [a.closing_interrupted] at hqueue htables
  rw [List.map_map] at hqueue
  have hleft : (s.resumeMode second f).unmarked.roomFor 1 := by
    show (s.resumeMode second f).recorder.queue.length + 1 ≤ 96
    rw [hqueue, List.length_append, List.length_map, Nat.add_assoc]
    exact hroom
  refine ⟨(hend.queue_room hleft).trans (congrArg (· ++ [restart]) hqueue),
    (hend.table.trans htables).trans (foldl_contributed_single _ d fun r hr => ?_)⟩
  obtain ⟨x, -, rfl⟩ := List.mem_map.1 hr
  exact hday.symm

/-- In ENTERING_SERVICE with a snapshot, an interval boundary having passed (R153, R160). -/
theorem State.recovers_entered {second : Nat} (hmode : s.supply.mode = .enteringService)
    (hwork : s.recorder.work = []) (hstage : s.config.stage.state ≠ .approved)
    (hpassed : nextBoundary second ≤ f) (hroom : s.roomFor 1) {u : State}
    (hend : (s.resumeMode second f).unmarked.Ended restart u) :
    u.time = s.time ∧ u.config = s.config ∧
    u.recorder.queue = s.recorder.queue ++ [restart] ∧
    u.supply.mode = .recording ∧ u.supply.recoveredTo = some f ∧
    u.recorder.table = Machine.joinDay (dayOf f) s.recorder.table ∧
    u.recorder.accSets = s.recorder.accSets ++
      [.opened (intervalStart f) s.config.active false (decide (f % 1800 ≠ 0))] := by
  rw [State.resumeMode_entered hmode hwork hstage hpassed] at hend
  refine ⟨hend.time, hend.config, hend.queue_room hroom, hend.mode, ?_, hend.table, hend.accSets⟩
  rw [hend.supply]
  rfl

/-- In WITHDRAWN with a withdrawal under way (R155, R160). -/
theorem State.resumeMode_withdrawing {second : Nat} (hmode : s.supply.mode = .withdrawn)
    (hpower : s.supply.power = .starting) (hnone : s.annotation = none) {w : Withdrawal}
    (hw : s.recorder.withdrawal = some w) : s.resumeMode second f =
      (s.interruptAll.closeOpenSets.withdrawing w).drainCloses
        (s.interruptAll.closeOpenSets.recorder.table.length + 1) := by
  have hsets := s.interruptAll.closeOpenSets_closed
  have hrecorded : s.Recorded (s.interruptAll.closeOpenSets.withdrawing w) := by
    refine State.Recorded.trans (t := s.interruptAll) ?_
      (hsets.recorded.trans (State.recorder_recorded _))
    rw [s.interruptAll_eq]
    exact s.recorder_recorded
  have hdrain := hrecorded.trans (State.drainCloses_recorded
    (s.interruptAll.closeOpenSets.recorder.table.length + 1) _)
  have hresume : s.resumeMode second f = s.interruptAll.withdrawalWork w := by
    rw [State.resumeMode, hmode]
    simp only [hw]
  rw [hresume, State.withdrawalWork_eq, State.resumeQueued_of_none (hdrain.annotation hnone),
    State.settle_of_starting (by rw [hdrain.supply, hpower])]

/-- The sets closed, what the recovery of a withdrawal begins with. -/
theorem State.interruptAll_closed (hwork : s.recorder.work = []) :
    s.Recorded s.interruptAll.closeOpenSets ∧
      s.interruptAll.closeOpenSets.recorder.accSets = [] ∧
      s.interruptAll.closeOpenSets.recorder.work = [] := by
  have hsets := s.interruptAll.closeOpenSets_closed
  have hinterrupted : s.Recorded s.interruptAll ∧ s.interruptAll.recorder.work = [] := by
    rw [s.interruptAll_eq]
    exact ⟨s.recorder_recorded, hwork⟩
  exact ⟨hinterrupted.1.trans hsets.recorded, hsets.none_left, hsets.work.trans hinterrupted.2⟩

theorem State.interruptAll_of_none (h : s.recorder.accSets = []) :
    s.interruptAll.closeOpenSets = s := by
  have hinterrupt : s.interruptAll = s := by
    rw [State.interruptAll, h]
    rfl
  rw [hinterrupt, State.closeOpenSets, h]
  rfl

/-- A checkpoint of each OPEN slot of two leaves the room that a withdrawal's records need. -/
theorem State.openSlots_le_two (h : s.recorder.tally.length = 2) : s.openSlots.length ≤ 2 :=
  h ▸ s.openSlots_length_le

/-- In WITHDRAWN with a withdrawal under way: its sets, days, slots and end (R155, R160). -/
theorem State.recovers_withdrawing {second : Nat} (hmode : s.supply.mode = .withdrawn)
    (hpower : s.supply.power = .starting) (hwork : s.recorder.work = [])
    (hnone : s.annotation = none) {w : Withdrawal} (hw : s.recorder.withdrawal = some w)
    (hnodup : (s.recorder.accSets.map AccSet.start).Nodup) :
    (s.resumeMode second f).recorder.work = [] ∧
    ∀ u : State, (s.resumeMode second f).unmarked.Ended restart u →
      u.supply.mode = .withdrawn ∧ u.recorder.accSets = [] ∧ u.recorder.table = [] ∧
      u.recorder.withdrawal = none ∧ (∀ x ∈ u.recorder.tally, x.state ≠ .opened) ∧
      (s.roomFor (s.recorder.accSets.flatMap AccSet.accs).length →
        ∃ more, u.recorder.queue = s.recorder.queue ++
          (s.recorder.accSets.flatMap fun a => a.accs.map fun x =>
            .interval (a.record { x with truncated := true, interrupted := true })) ++ more) ∧
      (∀ point, w.point = some point → s.recorder.accSets = [] → s.recorder.table = [] →
        s.recorder.tally.length = 2 → s.roomFor 4 →
        ∃ more, u.recorder.queue = s.recorder.queue ++
          .event (.plain point .withdrawn w.closed) :: more ++ [restart] ∧
          ∀ q ∈ more, q.isFinal) := by
  obtain ⟨hrecorded, hsets, hworkc⟩ := State.interruptAll_closed hwork
  have hx := State.resumeMode_withdrawing (second := second) (f := f) hmode hpower hnone hw
  obtain ⟨hdone, hdoneSets, hdoneTable, hdoneWork, hdoneWithdrawal, hopen⟩ :=
    State.withdrawing_done (hrecorded.annotation hnone) hworkc hsets w (Nat.le_succ _)
  rw [← hx] at hdone hdoneSets hdoneTable hdoneWork hdoneWithdrawal hopen
  refine ⟨hdoneWork, fun u hend => ⟨hend.mode.trans ?_, hend.accSets.trans hdoneSets,
    hend.table.trans hdoneTable, hend.withdrawal.trans hdoneWithdrawal, ?_, fun hroom => ?_, ?_⟩⟩
  · exact (congrArg Supply.mode (hrecorded.trans hdone).supply).trans hmode
  · rw [hend.tally]
    exact hopen
  · obtain ⟨xs, hxs⟩ := hdone.queue
    obtain ⟨ys, hys⟩ := hend.queue
    refine ⟨xs ++ ys, hys.trans ?_⟩
    rw [← List.append_assoc, ← s.closeOpenSets_queue hnodup hroom]
    exact congrArg (· ++ ys) hxs
  · intro point hpoint hnosets hnotable htally hroom
    have hslots := State.openSlots_le_two htally
    obtain ⟨more, hmore, hlen, hfinal⟩ := State.withdrawing_queue hwork hnotable hpoint
      (State.roomFor_le hroom (by omega)) (s.recorder.table.length + 1)
    rw [State.interruptAll_of_none hnosets] at hx
    rw [← hx] at hmore
    have hleft : (s.resumeMode second f).unmarked.roomFor 1 := by
      show (s.resumeMode second f).recorder.queue.length + 1 ≤ 96
      rw [hmore, List.length_append, List.length_cons]
      rw [State.roomFor] at hroom
      omega
    exact ⟨more, (hend.queue_room hleft).trans (congrArg (· ++ [restart]) hmore), hfinal⟩

/-- In WITHDRAWN without a snapshot (R155, R161). -/
theorem State.recovers_withdrawn (hmode : s.supply.mode = .withdrawn)
    (hwork : s.recorder.work = []) (hnone : s.annotation = none)
    (hwithdrawal : s.recorder.withdrawal = none) (hsets : s.recorder.accSets = []) :
    (s.rebuildYears.lostMode f).recorder.work = [] ∧
    ∀ u : State, (s.rebuildYears.lostMode f).unmarked.Ended restart u →
      u.supply.mode = .withdrawn ∧ u.recorder.table = [] ∧
      (∀ x ∈ u.recorder.tally, x.state ≠ .opened) ∧
      (s.recorder.tally.length = 2 → s.roomFor 7 →
        (∀ d ∈ s.recorder.table, d.closing s.config.active = []) →
        ∃ before more, u.recorder.queue = s.recorder.queue ++
          [.event (.plain f .snapshotLost (s.store.closedThrough.getD 0xFFFFFFFF))] ++ before ++
          lostWithdrawn f s.recorder.table ++ more ++ [restart] ∧
          ∀ q ∈ before ++ more, q.isFinal) := by
  have hnote : s.rebuildYears.Tallied (s.rebuildYears.noteLost f) := State.note_tallied _ _ _ _
  have htally : (s.rebuildYears.noteLost f).recorder.tally = s.recorder.tally :=
    State.note_tally _ _ _ _
  have hx : s.rebuildYears.lostMode f = (s.rebuildYears.noteLost f).lostWithdrawal f := by
    rw [State.lostMode, show s.rebuildYears.supply.mode = .withdrawn from hmode]
  have hroomed := fun h => State.noteLost_room (s := s.rebuildYears) h f
  rw [hx]
  generalize s.rebuildYears.noteLost f = y at *
  have hlost := State.lostWithdrawal_withdrawn (s := y)
    (hnote.recorded.annotation (show s.rebuildYears.annotation = none from hnone))
    (hnote.work.trans hwork) (hnote.accSets.trans hsets) (hnote.withdrawal.trans hwithdrawal) f
  refine ⟨hlost.work, fun u hend => ⟨hend.mode.trans ?_, hend.table.trans hlost.table, ?_,
    fun hlen hroom hclosing => ?_⟩⟩
  · exact (congrArg Supply.mode (hnote.recorded.trans hlost.recorded).supply).trans hmode
  · rw [hend.tally]
    exact hlost.none_open
  · have hslots : y.openSlots.length ≤ 2 := State.openSlots_le_two ((congrArg _ htally).trans hlen)
    have hyqueue : y.recorder.queue = s.recorder.queue ++
        [.event (.plain f .snapshotLost (s.store.closedThrough.getD 0xFFFFFFFF))] := by
      rw [hroomed (State.roomFor_le (s := s.rebuildYears) hroom (by decide))]
      rfl
    have hytable : y.recorder.table = s.recorder.table := hnote.table
    have hyactive : y.config.active = s.config.active := congrArg _ hnote.recorded.config
    have hyroom : y.roomFor 6 := by
      rw [State.roomFor, hyqueue, List.length_append]
      exact hroom
    obtain ⟨before, more, hqueue, hfinal, hfewer⟩ := hlost.queue
      (by rw [hytable, hyactive]; exact hclosing) (State.roomFor_le hyroom (by omega))
    have hone := lostWithdrawn_length_le f y.recorder.table
    have hleft : (y.lostWithdrawal f).unmarked.roomFor 1 := by
      show (y.lostWithdrawal f).recorder.queue.length + 1 ≤ 96
      rw [hqueue]
      simp only [List.length_append]
      rw [State.roomFor] at hyroom
      omega
    refine ⟨before, more, (hend.queue_room hleft).trans ?_, hfinal⟩
    show (y.lostWithdrawal f).recorder.queue ++ [restart] = _
    rw [hqueue, hyqueue, hytable]

/-- In ENTERING_SERVICE without a snapshot (R61, R161). -/
theorem State.recovers_lost (hmode : s.supply.mode = .enteringService) (hroom : s.roomFor 2)
    {u : State} (hend : (s.rebuildYears.lostMode f).unmarked.Ended restart u) :
    u.supply.mode = .enteringService ∧
    u.recorder.queue = s.recorder.queue ++
      [.event (.plain f .snapshotLost (s.store.closedThrough.getD 0xFFFFFFFF)), restart] ∧
    u.recorder.table = s.recorder.table ∧ u.recorder.accSets = s.recorder.accSets ∧
    u.stackUnits = s.rebuildYears.stackUnits := by
  rw [State.lostMode_entering (s := s.rebuildYears) hmode, State.noteLost_room
    (s := s.rebuildYears) (State.roomFor_le (s := s) hroom (by decide))] at hend
  refine ⟨hend.mode.trans hmode, ?_, hend.table, hend.accSets, hend.stackUnits⟩
  refine (hend.queue_room ?_).trans (List.append_assoc _ [_] _)
  exact (State.roomFor_queued s.rebuildYears [_] 1).2 hroom

/-- In COMMISSIONING, the mark not being cleared (R139, R162). -/
theorem State.recovers_failed (hpower : s.supply.power = .starting)
    (hmode : s.supply.mode = .commissioning) (hwork : s.recorder.work = [])
    (hnone : s.annotation = none) (hready : s.store.fault = false) (hroom : s.roomFor 2)
    (hinspection : ∀ op, s.opCmd .inspection ≠ some (.applyAnnotation op))
    (hrestart : restart = .event (.plain s.firstSecond .restart (causeCode s.store.held))) :
    ∃ (u : State) (w : Word), exec (.endOfRecovery false) s = .next u.settle ∧
      u.supply.power = .running ∧ u.store = { s.store with fault := true } ∧
      u.freeDraws = s.freeDraws + 1 ∧ u.arbiter.recClaims = [] ∧
      u.recorder.queue = s.recorder.queue ++ [.event {
        time := s.time.counter, kind := .storeFault, stack := none, channel := none
        argument := w }, restart] ∧
      ∀ l, (u.attention.get l).pending &&& 0x0600 = 0x0600 := by
  obtain ⟨units, hx⟩ := State.recoveryWork_commissioning hmode
  have hfailed := State.clearMark_failed (s := s.withUnits units) hpower hready
    (State.roomFor_le (s := s) hroom (by decide)) hnone hinspection
  obtain ⟨u, hexec, hend⟩ := exec_recovered_failed hpower (State.mustSuspend_commissioning hmode) hx
    hwork hfailed
  have hflags : flagRestarted ||| flagStore = 0x0600 := by decide
  refine ⟨u, Config.retentionFaultArgument s.freeDraws, hexec, hend.running,
    hend.store.trans hfailed.store,
    hend.freeDraws.trans hfailed.draws, hend.claims (by rw [hfailed.store]), ?_, fun l => ?_⟩
  · have hleft : ((s.withUnits units).clearMark false).roomFor 1 := by
      rw [State.roomFor, hfailed.queue, List.length_append]
      exact hroom
    rw [hend.queue_room hleft, hfailed.queue, List.append_assoc, hrestart]
    rfl
  · rw [← hflags]
    exact hend.flags flagStore hfailed.held l

end Recoveries

/-- Settles O28: each governing mode's work first, then the clear of the mark, RESTART's record and the flags. -/
theorem recoveriesRunWhatTheyMissed : Obligations.RecoveriesRunWhatTheyMissed := by
  intro s f day cause restart lost hpower hwork hnone hstage hf hday hmarked hunmarked hrestart hlost
  have hfirst : s.firstSecond = f := hf.symm
  have hcause : causeCode s.store.held = cause := causeCode_held
    (fun h => (hmarked h).imp fun p hp => ⟨hp.1, hp.2.symm⟩) hunmarked
  have hrestart' : restart = .event (.plain s.firstSecond .restart (causeCode s.store.held)) := by
    rw [hrestart, hfirst, hcause]
  have hrecovers : ∀ x : State, s.time.clockValid = true → s.recoveryWork = x →
      x.recorder.work = [] →
      ∃ u : State, exec (.endOfRecovery true) s = .next u.settle ∧ x.unmarked.Ended restart u := by
    intro x hclock hx hw
    rw [hrestart']
    exact exec_recovered hpower (State.mustSuspend_of_clock hclock) hx hw
  have hheld : ∀ p, s.store.mark = true → s.store.snapshot = some p →
      s.recoveryWork = s.resumeMode p.second f := fun p hmark hp =>
    hfirst ▸ State.recoveryWork_of_held (Store.held_of_marked hmark hp)
  have hgone : s.store.mark = false → s.recoveryWork = s.rebuildYears.lostMode f := fun hmark =>
    hfirst ▸ State.recoveryWork_of_lost (Store.held_of_unmarked hmark)
  have hlost' : lost =
      .event (.plain f .snapshotLost (s.store.closedThrough.getD 0xFFFFFFFF)) := by
    rw [hlost]
    cases s.store.closedThrough <;> rfl
  subst hday
  refine ⟨?_, ?_, ?_, ?_, ?_, ?_⟩
  · intro p hmode hclock hmark hp hlater hold hsome hsets _ htable hwindow
    have hx := State.resumeMode_resumed hmode hpower hwork hnone hstage hlater
      (Nat.div_pos hold (by decide)) hsome (fun a ha => (hsets a ha).1)
      (fun a ha => (hsets a ha).2.2) htable hwindow
    obtain ⟨u, hexec, hend⟩ := hrecovers _ hclock (hheld p hmark hp) hx.work
    obtain ⟨htime, hrun, hmodeu, hran, hconfig, hmarku, haccs, hin, hthere, hsame, hnew, hflags⟩ :=
      State.recovers_recording hmode hx hend
    refine ⟨u, hexec, htime, hrun, hmodeu, hran, hconfig, hmarku, haccs, hin, hthere, hsame, hnew,
      hflags, fun a d ha hd hstart hsecond hdayd hroom => ?_⟩
    exact State.recovers_single hmode hwork hstage
      (hsets a (by rw [ha]; exact List.mem_singleton_self a)).1 ha hd hstart hsecond hdayd hroom hend
  · intro p hmode hclock hmark hp hroom
    have hx := hheld p hmark hp
    by_cases hpassed : nextBoundary p.second ≤ f
    · obtain ⟨u, hexec, hend⟩ := hrecovers _ hclock hx
        (by rw [State.resumeMode_entered hmode hwork hstage hpassed]; exact hwork)
      obtain ⟨htime, hconfig, hqueue, hentered⟩ :=
        State.recovers_entered hmode hwork hstage hpassed hroom hend
      exact ⟨u, hexec, htime, hend.running, hconfig, hqueue, fun _ => hentered,
        fun h => absurd hpassed (Nat.not_le_of_lt h)⟩
    · rw [State.resumeMode_entering hmode (Nat.lt_of_not_le hpassed)] at hx
      obtain ⟨u, hexec, hend⟩ := hrecovers s hclock hx hwork
      exact ⟨u, hexec, hend.time, hend.running, hend.config, hend.queue_room hroom,
        fun h => absurd h hpassed, fun _ => ⟨hend.mode.trans hmode, hend.table, hend.accSets⟩⟩
  · intro hmode hclock hmark hroom
    have hlostWork : (s.rebuildYears.lostMode f).recorder.work = [] := by
      rw [State.lostMode_entering (s := s.rebuildYears) hmode]
      exact (State.note_tallied _ _ _ _).work.trans hwork
    obtain ⟨u, hexec, hend⟩ := hrecovers _ hclock (hgone hmark) hlostWork
    obtain ⟨hmodeu, hqueue, htable, hsets, hunits⟩ := State.recovers_lost hmode hroom hend
    refine ⟨u, hexec, hend.running, hmodeu, hlost' ▸ hqueue, htable, hsets,
      fun k year secs v hv hyear hsecs => ?_⟩
    rw [hunits]
    exact State.rebuildYears_stackUnit hv hyear hsecs
  · intro p hmode hclock hmark hp
    refine ⟨fun hw hroom => ?_, fun w hw hnodup _ => ?_⟩
    · have hx : s.resumeMode p.second f = s := by
        rw [State.resumeMode, hmode]
        simp only [hw]
      obtain ⟨u, hexec, hend⟩ := hrecovers s hclock ((hheld p hmark hp).trans hx) hwork
      exact ⟨u, hexec, hend.running, hend.mode.trans hmode, hend.queue_room hroom, hend.tally⟩
    · obtain ⟨hworkx, hall⟩ := State.recovers_withdrawing (second := p.second) (f := f)
        (restart := restart) hmode hpower hwork hnone hw hnodup
      obtain ⟨u, hexec, hend⟩ := hrecovers _ hclock (hheld p hmark hp) hworkx
      exact ⟨u, hexec, hend.running, hall u hend⟩
  · intro table hmode hclock hmark hwithdrawal hsets htable _
    subst htable
    obtain ⟨hworkx, hall⟩ := State.recovers_withdrawn (f := f) (restart := restart) hmode hwork
      hnone hwithdrawal hsets
    obtain ⟨u, hexec, hend⟩ := hrecovers _ hclock (hgone hmark) hworkx
    exact ⟨u, hexec, hend.running, hlost' ▸ hall u hend⟩
  · exact fun hmode hready hroom hinspection => State.recovers_failed hpower hmode hwork hnone
      hready hroom hinspection hrestart'

end Sys2Proof.Machine
end

section
/-! The plant link's two submissions (R31, R50), and O20. -/

namespace Sys2Proof.Machine

/-! ### Codes of a yes or no -/

theorem boolOfCode_of_le {n : Nat} (h : n ≤ 1) : boolOfCode n = some (n == 1) := by
  match n with
  | 0 => rfl
  | 1 => rfl
  | _ + 2 => omega

theorem boolOfCode_eq_none {n : Nat} (h : 1 < n) : boolOfCode n = none := by
  match n with
  | 0 | 1 => omega
  | _ + 2 => rfl

theorem readLevels_of_le {args : List Byte} (h1 : u8 args 1 ≤ 1) (h2 : u8 args 2 ≤ 1)
    (h3 : u8 args 3 ≤ 1) :
    readLevels args = some ⟨u8 args 1 == 1, u8 args 2 == 1, u8 args 3 == 1⟩ := by
  rw [readLevels, boolOfCode_of_le h1, boolOfCode_of_le h2, boolOfCode_of_le h3]
  rfl

/-- One level that is neither on nor off spoils the three (R50). -/
theorem readLevels_eq_none {args : List Byte}
    (h : 1 < u8 args 1 ∨ 1 < u8 args 2 ∨ 1 < u8 args 3) : readLevels args = none := by
  rw [readLevels]
  rcases h with h | h | h <;> rw [boolOfCode_eq_none h]
  · rfl
  · exact Option.bind_fun_none _
  · cases boolOfCode (u8 args 1) with
    | none => rfl
    | some fire => exact Option.bind_fun_none _

/-! ### The two rules -/

section Rules

variable {s : State} {l : Link} {args : List Byte}

/-- SUBMIT VALUE is refused with ARGUMENT for a channel or a mark that does not exist (R31). -/
theorem exec_submitValue_argument (h : s.reaches .submitValue l args = true)
    (hbad : 31 < u8 args 0 ∨ 1 < u8 args 5) :
    exec (.submitValue l args) s = .next (s.refusedWith l 0x20) := by
  refine congrArg _ (State.serve_argument (by decide) h ?_)
  cases hcode : boolOfCode (u8 args 5) with
  | none => rfl
  | some maintenance =>
    have hchannel : 31 < u8 args 0 := hbad.resolve_right fun hmark => by
      rw [boolOfCode_eq_none hmark] at hcode
      cases hcode
    exact if_pos hchannel

/-- With both in range, the source of the channel decides (R31). -/
theorem exec_submitValue (h : s.reaches .submitValue l args = true) (hchannel : u8 args 0 ≤ 31)
    (hmark : u8 args 5 ≤ 1) : exec (.submitValue l args) s = .next
      (if (s.inForce.channel (u8 args 0)).inUse = true ∧
          (s.inForce.channel (u8 args 0)).source = .link then
        (s.submit (u8 args 0) { value := s32 args 1, maintenance := u8 args 5 == 1,
                                arrival := s.time.counter }).answered l
      else s.refusedWith l 0x40) := by
  have hrange : ¬ 31 < u8 args 0 := Nat.not_lt.mpr hchannel
  split
  case isTrue hlink =>
    exact congrArg _ (State.serve_accepted (by decide) h
      (by simp only [boolOfCode_of_le hmark, if_neg hrange, if_pos hlink]))
  case isFalse hother =>
    exact congrArg _ (State.serve_sequence (by decide) h
      (by simp only [boolOfCode_of_le hmark, if_neg hrange, if_neg hother]))

/-- SET STACK SIGNALS is refused with ARGUMENT for a stack or a level that does not exist (R50). -/
theorem exec_setStackSignals_argument (h : s.reaches .setStackSignals l args = true)
    (hbad : 3 < u8 args 0 ∨ 1 < u8 args 1 ∨ 1 < u8 args 2 ∨ 1 < u8 args 3) :
    exec (.setStackSignals l args) s = .next (s.refusedWith l 0x20) := by
  refine congrArg _ (State.serve_argument (by decide) h ?_)
  cases hlevels : readLevels args with
  | none => rfl
  | some levels =>
    have hstack : 3 < u8 args 0 := hbad.resolve_right fun hlevel => by
      rw [readLevels_eq_none hlevel] at hlevels
      cases hlevels
    exact if_pos hstack

/-- With all in range, the source of the stack decides (R50). -/
theorem exec_setStackSignals (h : s.reaches .setStackSignals l args = true)
    (hstack : u8 args 0 ≤ 3) (h1 : u8 args 1 ≤ 1) (h2 : u8 args 2 ≤ 1) (h3 : u8 args 3 ≤ 1) :
    exec (.setStackSignals l args) s = .next
      (if (s.inForce.stack (u8 args 0)).inUse = true ∧
          (s.inForce.stack (u8 args 0)).source = .link then
        (s.signal (u8 args 0) { levels := ⟨u8 args 1 == 1, u8 args 2 == 1, u8 args 3 == 1⟩,
                                arrival := some s.time.counter }).answered l
      else s.refusedWith l 0x40) := by
  have hrange : ¬ 3 < u8 args 0 := Nat.not_lt.mpr hstack
  split
  case isTrue hlink =>
    exact congrArg _ (State.serve_accepted (by decide) h
      (by simp only [readLevels_of_le h1 h2 h3, if_neg hrange, if_pos hlink]))
  case isFalse hother =>
    exact congrArg _ (State.serve_sequence (by decide) h
      (by simp only [readLevels_of_le h1 h2 h3, if_neg hrange, if_neg hother]))

/-- A submission replaces the slot of a stack that is there. -/
theorem State.signal_eq {k : Nat} {u : StackUnit} (h : s.stackUnits[k]? = some u) (v : LinkSlot) :
    s.signal k v = { s with stackUnits := s.stackUnits.set k { u with slot := some v } } := by
  rw [State.signal, List.modify_eq_set_getElem?, h]
  rfl

end Rules

/-- Settles O20: the arguments are looked at first, then the source that the tables in force give. -/
theorem plantValuesFillTheirSlots : Obligations.PlantValuesFillTheirSlots := by
  refine ⟨fun s l args h => ⟨exec_submitValue_argument h, fun hchannel hmark hother => ?_,
    fun hchannel hmark huse hlink => ?_⟩, fun s l args h => ⟨exec_setStackSignals_argument h,
    fun hstack h1 h2 h3 hother => ?_, fun u v hstack h1 h2 h3 huse hlink hunit hv => ?_⟩⟩
  · rw [exec_submitValue h hchannel hmark, if_neg]
    rintro ⟨huse, hlink⟩
    rcases hother with hunused | hsource
    · simp [huse] at hunused
    · exact hsource hlink
  · rw [exec_submitValue h hchannel hmark, if_pos ⟨huse, hlink⟩]
    rfl
  · rw [exec_setStackSignals h hstack h1 h2 h3, if_neg]
    rintro ⟨huse, hlink⟩
    rcases hother with hunused | hlines
    · simp [huse] at hunused
    · simp [hlink] at hlines
  · rw [exec_setStackSignals h hstack h1 h2 h3, if_pos ⟨huse, hlink⟩, State.signal_eq hunit, hv]

end Sys2Proof.Machine
end

section
/-! ERASE ARCHIVE's three writes and the part that they leave (R28, R156, R163), and O34. -/

namespace Sys2Proof.Machine

/-! ### What the end of an operation leaves of the ports -/

theorem State.raiseOn_port (s : State) (l : Link) (f : FlagSet) (k : Link) :
    (s.raiseOn l f).port k = s.port k := rfl

section Ends

variable (s : State) (l : Link) (out : OpOutcome) (r : Option Reason) (i : Option Nat)
  (c : List Nat)

theorem State.endOp_port_other {k : Link} (h : k ≠ l) :
    (s.endOp l out r i c).port k = s.port k := by
  rw [State.endOp]
  split
  · rfl
  · rw [State.raiseOn_port]
    exact State.modPort_port_other _ h _

theorem State.endOp_attention_other {k : Link} (h : k ≠ l) :
    (s.endOp l out r i c).attention.get k = s.attention.get k := by
  rw [State.endOp]
  split
  · rfl
  · cases l <;> cases k <;> first | rfl | exact absurd rfl h

theorem State.endOp_port_same {o : LinkOp} (h : (s.port l).op = some o) :
    (s.endOp l out r i c).port l = { s.port l with
      op := none
      last := some { command := some o.cmd.name, outcome := out, reason := r, index := i, counts := c }
      recv := if (s.port l).recv = .busy then .idle else (s.port l).recv } := by
  rw [State.endOp, h]
  exact (State.raiseOn_port _ _ _ _).trans (State.modPort_port_same _ _ _)

/-- A port keeps what it has to send, and its receiver enters IDLE at most. -/
theorem State.endOp_port_sends (k : Link) :
    ((s.endOp l out r i c).port k).readout = (s.port k).readout ∧
      ((s.endOp l out r i c).port k).tx = (s.port k).tx ∧
      ((s.endOp l out r i c).port k).leaving = (s.port k).leaving ∧
      ((s.port k).recv = .idle → ((s.endOp l out r i c).port k).recv = .idle) := by
  by_cases hk : k = l
  · subst hk
    cases ho : (s.port k).op with
    | none =>
      rw [State.endOp, ho]
      exact ⟨rfl, rfl, rfl, id⟩
    | some o =>
      rw [State.endOp_port_same s k out r i c ho]
      exact ⟨rfl, rfl, rfl, fun h => (if_neg (by rw [h]; decide)).trans h⟩
  · rw [State.endOp_port_other s l out r i c hk]
    exact ⟨rfl, rfl, rfl, id⟩

end Ends

/-! ### Ports after an erase -/

section Ports

variable {p : LinkPort}

theorem LinkPort.erased_of_closed (h : p.readout = none) : p.erased = p := by
  rw [LinkPort.erased, h]

theorem LinkPort.erased_of_open {r : Readout} (h : p.readout = some r) : p.erased =
    { p with readout := none, recv := .idle, tx := [], leaving := p.leaving ++ p.erasedTx } := by
  rw [LinkPort.erased, h]

theorem LinkPort.erased_readout (p : LinkPort) : p.erased.readout = none := by
  cases h : p.readout with
  | none => rw [LinkPort.erased_of_closed h, h]
  | some r => rw [LinkPort.erased_of_open h]

theorem LinkPort.erased_op (p : LinkPort) : p.erased.op = p.op := by
  cases h : p.readout with
  | none => rw [LinkPort.erased_of_closed h]
  | some r => rw [LinkPort.erased_of_open h]

/-- What outlasts an erase is all but the tokens (R174). -/
theorem TxItem.outlastsErase_iff (x : TxItem) :
    x.outlastsErase = true ↔ (∀ n, x ≠ .dataFault n) ∧ x ≠ .endOfStream := by
  cases x <;> simp [TxItem.outlastsErase]

/-- The port that an erase leaves to a link: that of INSPECTION keeps its receiver's course where
it has no readout (R163). -/
def LinkPort.afterErase (k : Link) (p : LinkPort) : LinkPort :=
  if k = .inspection then p.erased else p.erasedIdle

variable {k : Link}

theorem LinkPort.afterErase_op (k : Link) (p : LinkPort) : (p.afterErase k).op = p.op := by
  rw [LinkPort.afterErase]
  split <;> exact p.erased_op

theorem LinkPort.afterErase_readout (k : Link) (p : LinkPort) :
    (p.afterErase k).readout = none := by
  rw [LinkPort.afterErase]
  split <;> exact p.erased_readout

theorem LinkPort.afterErase_idle (h : k ≠ .inspection) :
    (p.afterErase k).recv = .idle ∧ (p.afterErase k).tx = [] := by
  rw [LinkPort.afterErase, if_neg h]
  exact ⟨rfl, rfl⟩

/-- A port without a readout sends on what it was sending. -/
theorem LinkPort.afterErase_closed (hp : p.readout = none) :
    (k = .inspection → p.afterErase k = p) ∧
      (k ≠ .inspection → (p.afterErase k).leaving = p.leaving ++ p.tx) := by
  refine ⟨fun h => ?_, fun h => ?_⟩
  · rw [LinkPort.afterErase, if_pos h, LinkPort.erased_of_closed hp]
  · rw [LinkPort.afterErase, if_neg h, LinkPort.erasedIdle, LinkPort.erased_of_closed hp]

/-- A port with a readout sends what outlasts it, and then its end. -/
theorem LinkPort.afterErase_open {r : Readout} (hp : p.readout = some r) :
    (p.afterErase k).recv = .idle ∧ (p.afterErase k).tx = [] ∧
      (p.afterErase k).leaving =
        p.leaving ++ p.tx.filter TxItem.outlastsErase ++ [.dataFault 0x01] := by
  have hleaving : p.leaving ++ p.erasedTx =
      p.leaving ++ p.tx.filter TxItem.outlastsErase ++ [.dataFault 0x01] :=
    (List.append_assoc _ _ _).symm
  rw [LinkPort.afterErase]
  split
  · rw [LinkPort.erased_of_open hp]
    exact ⟨rfl, rfl, hleaving⟩
  · rw [LinkPort.erasedIdle, LinkPort.erased_of_open hp]
    exact ⟨rfl, rfl, (List.append_nil _).trans hleaving⟩

end Ports

/-! ### The part after an erase -/

section Erase

variable {s : State} {g : Grant} {l : Link}

/-- Whether the erase changes the mains rejection of a LOCKED synthesizer (R25). -/
def State.eraseUnlocks (s : State) : Bool :=
  decide (s.scan.synth = .locked ∧ s.config.active.device.mains = .hz60)

/-- The part that the last write of an erase leaves, but for the end of the operation (R156). -/
def State.erased (s : State) : State :=
  let t := s.eraseStacks.eraseScan.eraseRecorder.eraseStore.eraseRest
  { t with
    scan := { t.scan with synth := if s.eraseUnlocks then .acquiring else s.scan.synth }
    sec := { t.sec with lockHeld := if s.eraseUnlocks then false else s.sec.lockHeld }
    recorder := { t.recorder with queue := if s.eraseUnlocks then
      [.event (.plain s.time.counter .scanClockUnlocked 2)] else [] }
    attention := if s.eraseUnlocks then s.attention.raiseAll 0x0080 else s.attention }

theorem State.erased_port (s : State) (k : Link) : s.erased.port k = (s.port k).afterErase k := by
  cases k <;> rfl

theorem State.eraseComplete_eq (hrun : s.running = true) :
    s.eraseComplete l = s.erased.endOp l .done none none [] := by
  let t := s.eraseStacks.eraseScan.eraseRecorder.eraseStore.eraseRest
  have hmains : t.mainsAfter State.writeEvent s.config.active .factory = s.erased := by
    rw [State.mainsAfter_eq, State.erased]
    by_cases hunlocks : s.eraseUnlocks = true
    · obtain ⟨hlocked, hmains⟩ := of_decide_eq_true hunlocks
      have hchanges : (Tables.factory.device.mains ≠ s.config.active.device.mains) ∧
          t.scan.synth = .locked := ⟨by rw [hmains]; decide, hlocked⟩
      have hroom : t.roomFor 1 := (by decide : 0 + 1 ≤ 96)
      rw [if_pos hchanges, State.unlock_room (s := t) hrun hroom, hunlocks]
      rfl
    · have hsame : ¬ ((Tables.factory.device.mains ≠ s.config.active.device.mains) ∧
          t.scan.synth = .locked) := by
        rintro ⟨hmains, hlocked⟩
        refine hunlocks (decide_eq_true ⟨hlocked, ?_⟩)
        cases hold : s.config.active.device.mains with
        | hz50 => exact absurd hold.symm hmains
        | hz60 => rfl
      rw [if_neg hsame, Bool.eq_false_of_not_eq_true hunlocks]
      rfl
  exact congrArg (State.endOp l .done none none []) hmains

/-- The end of the last write: the operation ends, and no boundary has waited for it. -/
theorem exec_eraseComplete (hp : s.programs g (.op l)) (hc : s.opCmd l = some .eraseArchive)
    (hpart : 2 ≤ g.part) : exec (.writeAttemptComplete .verified) s =
      .next ((s.erased.endOp l .done none none []).granted none).settle := by
  obtain ⟨hrun, hgrant, hclaim, hbegun⟩ := hp
  have hheld : ((s.erased.endOp l .done none none []).granted none).sec.held = none :=
    congrArg SecondWork.held (State.endOp_sec _ _ _ _ _ _)
  have hwrites : ¬ (BusyCmd.isErase .eraseArchive = true ∧ g.part < 2) := by omega
  rw [exec_writeAttemptComplete hrun hgrant hbegun, State.attemptEnds, State.writeVerified, hclaim]
  simp only [State.opWritten, hc, if_neg hwrites]
  rw [State.operationWritten, State.eraseComplete_eq hrun]
  exact congrArg (fun t : State => Host.Outcome.next t.settle) (State.passHeld_of_none hheld)

/-- The end of one of the two writes before it: the grant goes on (R156). -/
theorem exec_erasePart (hp : s.programs g (.op l)) (hc : s.opCmd l = some .eraseArchive)
    (hpart : g.part < 2) : exec (.writeAttemptComplete .verified) s =
      .next (((s.erasePart g.part).programErase (g.part + 1)).nextPart g false) := by
  obtain ⟨hrun, hgrant, hclaim, hbegun⟩ := hp
  have hwrites : BusyCmd.isErase .eraseArchive = true ∧ g.part < 2 := ⟨rfl, hpart⟩
  rw [exec_writeAttemptComplete hrun hgrant hbegun, State.attemptEnds, State.writeVerified, hclaim]
  simp only [State.opWritten, hc, if_pos hwrites]
  exact congrArg _ (State.settle_of_grant
    (g := { g with part := g.part + 1, failedOnce := false }) rfl)

end Erase

/-- Settles O34: the first two writes go on to the next, and the last leaves the factory's part, port by port. -/
theorem eraseLeavesTheFactoryArchive : Obligations.EraseLeavesTheFactoryArchive := by
  intro s g l hp hc
  refine ⟨fun hpart => ?_, fun hpart => ?_, fun unlocks hunlocks hpart => ?_⟩
  · rw [exec_erasePart hp hc (by omega), State.nextPart, hpart]
    rfl
  · rw [exec_erasePart hp hc (by omega), State.nextPart, hpart]
    rfl
  let u : State := (s.erased.endOp l .done none none []).granted none
  have hrecorder : u.recorder = s.erased.recorder := State.endOp_recorder _ _ _ _ _ _
  have hscan : u.scan = s.erased.scan := State.endOp_scan _ _ _ _ _ _
  have hsec : u.sec = s.erased.sec := State.endOp_sec _ _ _ _ _ _
  have hsupply : u.supply = s.erased.supply := State.endOp_supply _ _ _ _ _ _
  have hflags : ∀ k, k ≠ l → u.attention.get k = s.erased.attention.get k := fun k hk =>
    State.endOp_attention_other _ _ _ _ _ _ hk
  have hports : ∀ k, (u.port k).readout = ((s.port k).afterErase k).readout ∧
      (u.port k).tx = ((s.port k).afterErase k).tx ∧
      (u.port k).leaving = ((s.port k).afterErase k).leaving ∧
      (((s.port k).afterErase k).recv = .idle → (u.port k).recv = .idle) := fun k =>
    s.erased_port k ▸ State.endOp_port_sends s.erased l .done none none [] k
  have hcmd : s.erased.opCmd l = some .eraseArchive := by
    rw [State.opCmd, State.erased_port, LinkPort.afterErase_op]
    exact hc
  obtain ⟨hop, hdone, -⟩ := State.endOp_port hcmd .done none none []
  refine ⟨u, exec_eraseComplete hp hc hpart, State.endOp_store _ _ _ _ _ _, fun hsame => ?_,
    fun hunlock => ?_, State.endOp_config _ _ _ _ _ _, State.endOp_norm _ _ _ _ _ _, ?_,
    congrArg Supply.mode hsupply, (congrArg Supply.power hsupply :), congrArg Supply.recoveredTo hsupply,
    State.endOp_stackUnits _ _ _ _ _ _, congrArg ScanUnit.slots hscan,
    congrArg ScanUnit.broken hscan, congrArg ScanUnit.accs hscan, congrArg ScanUnit.linkStale hscan,
    (congrArg ScanUnit.faultyA hscan :), (congrArg ScanUnit.faultyB hscan :), (congrArg ScanUnit.latches hscan :),
    congrArg SecondWork.cfg hsec, congrArg SecondWork.held hsec, congrArg SecondWork.checkWaits hsec,
    congrArg SecondWork.sampleWaits hsec, congrArg SecondWork.before hsec,
    State.endOp_marks _ _ _ _ _ _, State.endOp_time _ _ _ _ _ _, State.endOp_pins _ _ _ _ _ _,
    State.endOp_freeDraws _ _ _ _ _ _, State.endOp_pending _ _ _ _ _ _, hop, hdone,
    fun k hk => ?_, fun k => ?_, fun k r hr => ?_⟩
  · have hno : s.eraseUnlocks = false := decide_eq_false fun h => hsame (hunlocks.2 h)
    refine ⟨hrecorder.trans ?_, (congrArg ScanUnit.synth hscan).trans ?_, fun k hk =>
      (hflags k hk).trans ?_⟩ <;> rw [State.erased, hno] <;> rfl
  · have hyes : s.eraseUnlocks = true := decide_eq_true (hunlocks.1 hunlock)
    refine ⟨hrecorder.trans ?_, (congrArg ScanUnit.synth hscan).trans ?_,
      (congrArg SecondWork.lockHeld hsec).trans ?_, fun k hk => (hflags k hk).trans ?_⟩ <;>
      rw [State.erased, hyes] <;> rfl
  · exact congrArg (fun a : Arbiter => { a with grant := none }) (State.endOp_arbiter _ _ _ _ _ _)
  · rw [show u.port k = s.erased.port k from State.endOp_port_other _ _ _ _ _ _ hk,
      State.erased_port, LinkPort.afterErase_op]
  · obtain ⟨hreadout, htx, hleaving, hidle⟩ := hports k
    refine ⟨hreadout.trans (LinkPort.afterErase_readout k _), fun hk => ?_, fun hclosed => ?_⟩
    · obtain ⟨hrecv, hnothing⟩ := LinkPort.afterErase_idle (p := s.port k) hk
      exact ⟨hidle hrecv, htx.trans hnothing⟩
    · obtain ⟨hsame, hother⟩ := LinkPort.afterErase_closed (k := k) hclosed
      refine ⟨fun hk => ?_, fun hk => hleaving.trans (hother hk)⟩
      rw [htx, hleaving, hsame hk]
      exact ⟨rfl, rfl⟩
  · obtain ⟨-, htx, hleaving, hidle⟩ := hports k
    obtain ⟨hrecv, hnothing, hleft⟩ := LinkPort.afterErase_open (k := k) hr
    refine ⟨hidle hrecv, htx.trans hnothing, (s.port k).tx.filter TxItem.outlastsErase,
      hleaving.trans hleft, List.filter_sublist, fun x hx => ?_⟩
    rw [List.mem_filter, TxItem.outlastsErase_iff]
    exact and_iff_right hx

end Sys2Proof.Machine
end

section
/-! The scan unit's events: slots, status lines and the synthesizer (R19 to R21, R25 to R27, R29), and O53. -/

namespace Sys2Proof.Machine

/-! ### Conversions -/

/-- An input is listed where an ANALOG channel in use names it (R19). -/
theorem Tables.channelOfInput_isSome_iff (t : Tables) (i : Nat) :
    (t.channelOfInput i).isSome = true ↔
      ∃ c, c < 32 ∧ (t.channel c).inUse = true ∧ (t.channel c).source = .analog i := by
  simp only [Tables.channelOfInput, Tables.inUse, List.find?_isSome, List.mem_filter,
    List.mem_range, decide_eq_true_eq, and_assoc]

/-- A conversion within the converter's range (R21). -/
theorem SecondAcc.add_eq (a : SecondAcc) {r : Nat} (h : r ≤ 25000) : a.add r = {
    n := a.n + 1
    sum := a.sum + (if 20500 < r then 20500 else r)
    lineBreak := a.lineBreak || decide (r < 3600)
    saturated := a.saturated || decide (20500 < r) } := by
  have hmin : min r maxReading = r := Nat.min_eq_left h
  rw [SecondAcc.add, hmin]
  by_cases hlow : r < 3600
  · have hhigh : ¬ 20500 < r := by omega
    simp [hlow, hhigh]
  · by_cases hhigh : 20500 < r <;> simp [hlow, hhigh]

section Slots

variable {s : State} {cfg : Tables} {readings : List Nat} {accs : List SecondAcc} {i : Nat}
  {a : SecondAcc}

theorem convert_unlisted (ha : accs[i]? = some a) (h : (cfg.channelOfInput i).isSome ≠ true) :
    (convert cfg readings accs)[i]? = some a := by
  rw [convert, List.getElem?_mapIdx, ha, Option.map_some, if_neg h]

theorem convert_listed {r : Nat} (ha : accs[i]? = some a) (hr : readings[i]? = some r)
    (h : (cfg.channelOfInput i).isSome = true) :
    (convert cfg readings accs)[i]? = some (a.add r) := by
  rw [convert, List.getElem?_mapIdx, ha, Option.map_some, if_pos h, List.getD_eq_getElem?_getD, hr,
    Option.getD_some]

theorem State.reachPhase_eq (s : State) {phase : Nat} (h : phase ≤ 999) :
    s.reachPhase phase = { s with time := { s.time with phase := max s.time.phase phase } } := by
  rw [State.reachPhase, State.phaseNow, Nat.min_eq_left h]

/-- The end of a slot: its conversions are made where it is taken, and the phase is its end (R20, R21). -/
theorem exec_scanSlot {slot : Nat} (hscan : s.scanning = true) (hnext : s.sec.nextSlot ≤ slot)
    (hlast : slot ≤ 9) (hphase : s.time.phase ≤ 90 * (slot + 1)) :
    exec (.scanSlot slot readings) s = .next { s with
      time := { s.time with phase := 90 * (slot + 1) }
      sec := { s.sec with nextSlot := slot + 1 }
      scan := { s.scan with
        accs := if s.slotTaken slot then convert s.sec.cfg readings s.scan.accs
          else s.scan.accs } } := by
  have hreach := s.reachPhase_eq (show 90 * (slot + 1) ≤ 999 by omega)
  rw [Nat.max_eq_right hphase] at hreach
  show Host.Outcome.next _ = _
  rw [if_pos ⟨hscan, hnext, hlast⟩, State.endSlot, hreach]

end Slots

/-! ### Status lines and the synthesizer -/

section Events

variable {s : State}

/-- A line's latch is set, and the others stay (R29). -/
theorem getLsbD_or_twoPow (latches : BitVec 16) (line : Nat) {k : Nat} (hk : k < 16) :
    (latches ||| BitVec.twoPow 16 line).getLsbD k =
      (decide (k = line) || latches.getLsbD k) := by
  rw [BitVec.getLsbD_or, BitVec.getLsbD_twoPow, Bool.or_comm]
  by_cases hline : line = k
  · simp [hline, hk]
  · simp [hline, Ne.symm hline]

/-- The synthesizer's entry into LOCKED where the queue has room for its record (R27). -/
theorem State.lock_room (hrun : s.running = true) (hroom : s.roomFor 1) :
    s.lock = (({ s with scan := { s.scan with synth := .locked } } : State).queued
      [.event (.plain s.time.counter .scanClockLocked
        (mainsCode s.config.active.device.mains))]).flagged flagAcquisition := by
  let t : State := { s with scan := { s.scan with synth := .locked } }
  rw [State.lock, State.note_room (s := t) hroom EventKind.noConfusion EventKind.noConfusion]
  exact State.raiseAll_flagged (s := t.queued _) hrun _

end Events

/-- Settles O53: a slot listed input by input, and each event by the state that it finds. -/
theorem scanUnitFollowsItsEvents : Obligations.ScanUnitFollowsItsEvents := by
  refine ⟨fun s slot readings hrun hprocessed hformed hnext hlast hphase => ?_,
    fun s t line hrun => ⟨fun hline => ?_, fun hline => ?_, fun hlocked hroom ht => ?_,
      fun hother => ?_, fun hacquiring hroom ht => ?_, fun hother => ?_⟩⟩
  · have hscan : s.scanning = true := by simp [State.scanning, hrun, hprocessed, hformed]
    refine ⟨_, exec_scanSlot hscan hnext hlast hphase, fun hlost => if_neg ?_,
      fun hlock hfloor i a r ha hr hrange => ?_⟩
    · simp only [State.slotTaken, Bool.and_eq_true, decide_eq_true_eq]
      rintro ⟨hlock, hfloor⟩
      rcases hlost with hunlocked | hbefore
      · simp [hlock] at hunlocked
      · omega
    · have htaken : s.slotTaken slot = true := by simp [State.slotTaken, hlock, hfloor]
      rw [if_pos htaken]
      refine ⟨fun hnone => convert_unlisted ha ?_, fun c hc huse hsource => ?_⟩
      · intro hlisted
        obtain ⟨c, hc, huse, hsource⟩ := (s.sec.cfg.channelOfInput_isSome_iff i).1 hlisted
        exact hnone c hc huse hsource
      · rw [convert_listed ha hr ((s.sec.cfg.channelOfInput_isSome_iff i).2 ⟨c, hc, huse, hsource⟩),
          SecondAcc.add_eq a hrange]
  · exact ⟨_, congrArg _ (if_pos ⟨hrun, hline⟩), fun k hk => getLsbD_or_twoPow _ line hk⟩
  · exact congrArg _ (if_neg fun h => absurd h.2 (by omega))
  · show Host.Outcome.next _ = _
    rw [if_pos ⟨hrun, hlocked⟩, State.unlock_room hrun hroom, ht]
    rfl
  · exact congrArg _ (if_neg fun h => hother h.2)
  · show Host.Outcome.next _ = _
    rw [if_pos ⟨hrun, hacquiring⟩, State.lock_room hrun hroom, ht]
    rfl
  · exact congrArg _ (if_neg fun h => hother h.2)

end Sys2Proof.Machine
end

section
/-! The records of a second's self-check, each raising ACQUISITION (R22, R24). -/

namespace Sys2Proof.Machine

/-- Event records written one after another, each raising ACQUISITION. -/
def State.noteAll (es : List EventRec) (s : State) : State :=
  es.foldl (fun t e => (t.writeEvent e).raiseAll flagAcquisition) s

/-- The scan unit and the second in progress are replaced. -/
def State.atWork (scan : ScanUnit) (sec : SecondWork) (s : State) : State :=
  { s with scan := scan, sec := sec }

section Noting

variable {s : State}

theorem State.noteAll_append (es fs : List EventRec) :
    (s.noteAll es).noteAll fs = s.noteAll (es ++ fs) := (List.foldl_append ..).symm

theorem State.atWork_raiseAll (scan : ScanUnit) (sec : SecondWork) (s : State) (f : FlagSet) :
    (s.raiseAll f).atWork scan sec = (s.atWork scan sec).raiseAll f := by
  by_cases h : s.supply.power = .starting
  · rw [State.raiseAll, State.raiseAll, if_pos h]
    exact (if_pos (c := (s.atWork scan sec).supply.power = .starting) h).symm
  · rw [State.raiseAll, State.raiseAll, if_neg h]
    exact (if_neg (c := (s.atWork scan sec).supply.power = .starting) h).symm

theorem State.atWork_offer (scan : ScanUnit) (sec : SecondWork) (s : State) (x : QueueItem) :
    (s.offer x).atWork scan sec = (s.atWork scan sec).offer x := by
  by_cases h : s.queueOpen = true
  · rw [State.offer, State.offer, if_pos h]
    exact (if_pos (c := (s.atWork scan sec).queueOpen = true) h).symm
  · rw [State.offer, State.offer, if_neg h, State.atWork_raiseAll]
    exact (if_neg (c := (s.atWork scan sec).queueOpen = true) h).symm

theorem State.atWork_writeEvent (scan : ScanUnit) (sec : SecondWork) (s : State) (e : EventRec) :
    (s.writeEvent e).atWork scan sec = (s.atWork scan sec).writeEvent e := by
  rw [State.writeEvent, State.writeEvent, ← State.atWork_offer]
  split <;> rfl

/-- A record finds only the queue, and leaves the scan unit and the second in progress. -/
theorem State.atWork_noteAll (scan : ScanUnit) (sec : SecondWork) (es : List EventRec) :
    ∀ s : State, (s.noteAll es).atWork scan sec = (s.atWork scan sec).noteAll es := by
  induction es with
  | nil => exact fun _ => rfl
  | cons e es ih =>
    intro s
    rw [State.noteAll, State.noteAll, List.foldl_cons, List.foldl_cons, ← State.atWork_writeEvent,
      ← State.atWork_raiseAll]
    exact ih _

theorem State.offer_noted (x : QueueItem) : ∃ recorder attention,
    s.offer x = { s with recorder := recorder, attention := attention } := by
  rw [State.offer]
  split
  · exact ⟨_, _, rfl⟩
  · rw [State.raiseAll_eq]
    exact ⟨_, _, rfl⟩

theorem State.writeEvent_noted (e : EventRec) : ∃ recorder attention,
    s.writeEvent e = { s with recorder := recorder, attention := attention } := by
  obtain ⟨recorder, attention, hoffer⟩ := s.offer_noted (.event e)
  rw [State.writeEvent, hoffer]
  split <;> exact ⟨_, _, rfl⟩

/-- Records change the recorder and the flags, and nothing else. -/
theorem State.noteAll_noted (es : List EventRec) : ∀ s : State, ∃ recorder attention,
    s.noteAll es = { s with recorder := recorder, attention := attention } := by
  induction es with
  | nil => exact fun s => ⟨s.recorder, s.attention, rfl⟩
  | cons e es ih =>
    intro s
    obtain ⟨recorder, attention, hrecord⟩ := s.writeEvent_noted e
    obtain ⟨recorder', attention', hrest⟩ := ih ((s.writeEvent e).raiseAll flagAcquisition)
    refine ⟨recorder', attention', hrest.trans ?_⟩
    rw [State.raiseAll_eq, hrecord]

/-- Where the queue has room for them, the records join its end in their order. -/
theorem State.noteAll_room (es : List EventRec)
    (huncounted : ∀ e ∈ es, e.kind ≠ .timeStep ∧ e.kind ≠ .restart) : ∀ s : State,
    s.running = true → s.roomFor es.length →
    (s.noteAll es).recorder.queue = s.recorder.queue ++ es.map .event ∧
      ∀ l, ((s.noteAll es).attention.get l).pending =
        (s.attention.get l).pending ||| (if es = [] then 0 else 0x0080) := by
  induction es with
  | nil =>
    intro s _ _
    exact ⟨(List.append_nil _).symm, fun _ => BitVec.or_zero.symm⟩
  | cons e es ih =>
    intro s hrun hroom
    obtain ⟨hstep, hrestart⟩ := huncounted e List.mem_cons_self
    have hrecord : (s.writeEvent e).raiseAll flagAcquisition =
        (s.queued [.event e]).flagged flagAcquisition := by
      rw [State.writeEvent_room (State.roomFor_le hroom (Nat.succ_le_succ (Nat.zero_le _))) e hstep
        hrestart]
      exact State.raiseAll_flagged (s := s.queued _) hrun _
    have hleft : (s.queued [.event e]).roomFor es.length :=
      (State.roomFor_queued s _ _).2 (by rwa [List.length_singleton, Nat.add_comm])
    obtain ⟨hqueue, hpending⟩ := ih (fun e he => huncounted e (List.mem_cons_of_mem _ he))
      ((s.queued [.event e]).flagged flagAcquisition) hrun hleft
    have hnoted : s.noteAll (e :: es) =
        ((s.queued [.event e]).flagged flagAcquisition).noteAll es := by
      rw [← hrecord]
      rfl
    rw [hnoted]
    refine ⟨hqueue.trans (List.append_assoc _ [_] _), fun l => (hpending l).trans ?_⟩
    rw [if_neg (List.cons_ne_nil e es)]
    show ((s.attention.raiseAll flagAcquisition).get l).pending ||| _ = _
    rw [AttentionUnit.raiseAll_pending, BitVec.or_assoc]
    split
    · exact congrArg _ BitVec.or_zero
    · exact congrArg _ BitVec.or_self

end Noting

end Sys2Proof.Machine
end

section
/-! Fault states and line breaks at the end of a second's scan (R22 to R24). -/

namespace Sys2Proof.Machine

/-! ### Fault states -/

/-- A check fails where LOCKED held and the reading is out of its range (R23). -/
theorem checkOf_failed_iff (lock : Bool) (reading : Nat) : checkOf lock reading = .failed ↔
    lock = true ∧ decide (11940 ≤ reading ∧ reading ≤ 12060) = false := by
  cases lock with
  | false => simp [checkOf]
  | true => by_cases h : 11940 ≤ reading ∧ reading ≤ 12060 <;> simp [checkOf, h]

/-- The fault state that a second leaves (R24). -/
theorem faultAfter_checkOf (before lock : Bool) (reading : Nat) :
    faultAfter before (checkOf lock reading) =
      if lock then !decide (11940 ≤ reading ∧ reading ≤ 12060) else before := by
  cases lock with
  | false => rfl
  | true => by_cases h : 11940 ≤ reading ∧ reading ≤ 12060 <;> simp [checkOf, h, faultAfter]

/-- The record of a change of a converter's fault state (R24). -/
def faultEvents (time converter reading : Nat) (before after : Bool) : List EventRec :=
  if before = after then []
  else [.plain time (if after then .converterFaultBegin else .converterFaultEnd)
    (converter * 65536 + min reading maxReading)]

theorem State.noteFault_eq (s : State) (converter reading : Nat) (before after : Bool) :
    s.noteFault converter reading before after =
      s.noteAll (faultEvents s.time.counter converter reading before after) := by
  rw [State.noteFault, faultEvents]
  split <;> rfl

/-- The record of a check, by the result and the state before it (R24). -/
theorem faultEvents_checkOf (time converter reading : Nat) (before lock : Bool) :
    (faultEvents time converter reading before
      (faultAfter before (checkOf lock reading))).map QueueItem.event =
    if lock = false ∨ before = !decide (11940 ≤ reading ∧ reading ≤ 12060) then []
    else [.event (.plain time (if before then .converterFaultEnd else .converterFaultBegin)
      (converter * 65536 + min reading 25000))] := by
  rw [faultAfter_checkOf, faultEvents]
  cases lock with
  | false => simp
  | true =>
    cases before <;> by_cases h : 11940 ≤ reading ∧ reading ≤ 12060 <;> simp [h, maxReading]

/-! ### Line breaks -/

section Breaks

variable {s : State}

/-- The line-break state that a second leaves to an input (R22). -/
def State.breakAt (s : State) (i : Nat) : Bool :=
  breakAfter (s.scan.broken.getD i false) (s.sec.cfg.channelOfInput i).isSome
    (s.scan.accs.getD i .empty)

/-- The record of a line break that begins (R22). -/
def State.breakEvent (s : State) (i : Nat) : Option EventRec :=
  (s.sec.cfg.channelOfInput i).bind fun c =>
    if s.scan.broken.getD i false = false ∧ (s.scan.accs.getD i .empty).lineBreak = true then
      some {
        time := s.time.counter, kind := .lineBreakBegin
        stack := some (s.sec.cfg.channel c).stack, channel := some c
        argument := BitVec.ofNat 32 i }
    else none

/-- The line-break states with the inputs below a number brought to the end of the second. -/
def State.brokenBelow (s : State) (n : Nat) : List Bool :=
  s.scan.broken.mapIdx fun i b => if i < n then s.breakAt i else b

theorem breakAfter_begins_iff (before : Bool) (a : SecondAcc) :
    (before = false ∧ breakAfter before true a = true) ↔
      (before = false ∧ a.lineBreak = true) := by
  refine and_congr_right fun h => ?_
  cases hbreak : a.lineBreak with
  | true => simp [breakAfter, hbreak]
  | false => simp [breakAfter, hbreak, h]

/-- The scan unit with one input's line-break state brought to the end of the second. -/
theorem State.updateBreak_eq (s : State) (i : Nat) : s.updateBreak i =
    (s.atWork { s.scan with broken := s.scan.broken.set i (s.breakAt i) } s.sec).noteAll
      (s.breakEvent i).toList := by
  cases hc : s.sec.cfg.channelOfInput i with
  | none =>
    have hsame : s.scan.broken.set i (s.breakAt i) = s.scan.broken := by
      rw [State.breakAt, hc]
      apply List.ext_getElem?
      intro j
      rw [List.getElem?_set']
      split
      next h =>
        subst h
        cases hb : s.scan.broken[i]? <;>
          simp [breakAfter, List.getD_eq_getElem?_getD, hb]
      next => rfl
    rw [State.updateBreak, State.breakEvent, hsame, hc]
    rfl
  | some c =>
    have hbegins := breakAfter_begins_iff (s.scan.broken.getD i false) (s.scan.accs.getD i .empty)
    simp only [State.updateBreak, State.breakEvent, State.breakAt, hc, Option.isSome_some,
      Option.bind_some, hbegins]
    split <;> rfl

theorem State.brokenBelow_succ (s : State) (n : Nat) :
    (s.brokenBelow n).set n (s.breakAt n) = s.brokenBelow (n + 1) := by
  apply List.ext_getElem?
  intro j
  rw [List.getElem?_set', State.brokenBelow, State.brokenBelow, List.getElem?_mapIdx,
    List.getElem?_mapIdx]
  by_cases hj : n = j
  · subst hj
    cases s.scan.broken[n]? <;> simp
  · have hlt : j < n + 1 ↔ j < n := by omega
    simp only [if_neg hj, hlt]

/-- The inputs' line breaks in ascending order: their states, and the records of those that begin (R22). -/
theorem State.foldl_updateBreak (s : State) (n : Nat) : (List.range n).foldl State.updateBreak s =
    (s.atWork { s.scan with broken := s.brokenBelow n } s.sec).noteAll
      ((List.range n).filterMap s.breakEvent) := by
  induction n with
  | zero =>
    have hnone : s.brokenBelow 0 = s.scan.broken :=
      List.ext_getElem? fun j => by simp [State.brokenBelow]
    rw [hnone]
    rfl
  | succ n ih =>
    let scan : ScanUnit := { s.scan with broken := s.brokenBelow n }
    obtain ⟨recorder, attention, hnoted⟩ :=
      (s.atWork scan s.sec).noteAll_noted ((List.range n).filterMap s.breakEvent)
    let t : State := (s.atWork scan s.sec).noteAll ((List.range n).filterMap s.breakEvent)
    have hfound : (s.brokenBelow n).getD n false = s.scan.broken.getD n false := by
      simp only [State.brokenBelow, List.getD_eq_getElem?_getD, List.getElem?_mapIdx,
        Nat.lt_irrefl, if_false, Option.map_id']
    have hscan : t.scan = scan := by rw [show t = _ from hnoted]; rfl
    have hsec : t.sec = s.sec := by rw [show t = _ from hnoted]; rfl
    have htime : t.time = s.time := by rw [show t = _ from hnoted]; rfl
    have hafter : t.breakAt n = s.breakAt n := by
      rw [State.breakAt, hscan, hsec, hfound]
      rfl
    have hevent : t.breakEvent n = s.breakEvent n := by
      rw [State.breakEvent, hscan, hsec, htime, hfound]
      rfl
    have hwork : t.atWork { t.scan with broken := t.scan.broken.set n (t.breakAt n) } t.sec =
        (s.atWork { s.scan with broken := s.brokenBelow (n + 1) } s.sec).noteAll
          ((List.range n).filterMap s.breakEvent) := by
      rw [hafter, hscan, hsec, State.atWork_noteAll, ← State.brokenBelow_succ]
      rfl
    rw [List.range_succ, List.foldl_append, ih, List.foldl_cons, List.foldl_nil,
      State.updateBreak_eq, hwork, hevent, State.noteAll_append, List.filterMap_append]
    congr 2

end Breaks

end Sys2Proof.Machine
end

section
/-! First verdicts and the sample set of a second (R30, R32 to R34). -/

namespace Sys2Proof.Machine

/-- The values of a submission go stale where neither line is latched and nothing recent was submitted (R32). -/
theorem linkVerdict_stale_iff (latches : BitVec 16) (e : ChannelEntry) (slot : Option ValueSlot)
    (t : Nat) : linkVerdict latches e slot t = .stale ↔
      latched latches e.maintLine = false ∧ latched latches e.faultLine = false ∧
        ∀ v, slot = some v → v.arrival + 2 < t := by
  unfold linkVerdict
  cases latched latches e.maintLine with
  | true => simp
  | false =>
    cases latched latches e.faultLine with
    | true => simp
    | false =>
      cases slot with
      | none => simp
      | some v =>
        by_cases hold : v.arrival + 2 < t
        · simp [hold]
        · cases hmark : v.maintenance <;> simp [hold, hmark]

section Samples

variable (s : State) (a b : Check) (c : Nat)

/-- The verdict of a LINK channel of the second in progress (R32). -/
def State.linkVerdictOf (s : State) (c : Nat) : Verdict :=
  linkVerdict s.scan.latches (s.sec.cfg.channel c) (s.scan.slots.getD c none) s.time.counter

theorem State.sampleOf_channel : (s.sampleOf a b c).channel = c := by
  rw [State.sampleOf]
  split <;> rfl

theorem State.sampleSet_channels :
    (s.sampleSet a b).samples.map Sample.channel = s.sec.cfg.inUse := by
  have hchannel : Sample.channel ∘ s.sampleOf a b = id := funext (s.sampleOf_channel a b)
  rw [State.sampleSet, List.map_map, hchannel, List.map_id]

/-- Every sample of the set is that of its own channel. -/
theorem State.mem_sampleSet {s : State} {a b : Check} {x : Sample}
    (h : x ∈ (s.sampleSet a b).samples) : x = s.sampleOf a b x.channel := by
  obtain ⟨c, -, rfl⟩ := List.mem_map.1 h
  rw [State.sampleOf_channel]

variable {s a b c}

theorem State.sampleOf_constant {v : Int} (h : (s.sec.cfg.channel c).source = .constant v) :
    s.sampleOf a b c =
      { channel := c, verdict := .good, value := some v, conversions := none } := by
  rw [State.sampleOf, h]

theorem State.sampleOf_link (h : (s.sec.cfg.channel c).source = .link) : s.sampleOf a b c =
    { channel := c, verdict := s.linkVerdictOf c
      value := if (s.linkVerdictOf c).valid then (s.scan.slots.getD c none).map ValueSlot.value
        else none
      conversions := none } := by
  rw [State.sampleOf, h]
  rfl

theorem State.sampleOf_analog {i : Nat} {acc : SecondAcc}
    (h : (s.sec.cfg.channel c).source = .analog i) (hacc : s.scan.accs[i]? = some acc) :
    s.sampleOf a b c =
      { channel := c
        verdict := analogVerdict s.scan.latches (s.sec.cfg.channel c) (checkFor a b i) acc
        value := if (analogVerdict s.scan.latches (s.sec.cfg.channel c) (checkFor a b i) acc).valid
          then some ((roundHalfUp acc.sum acc.n : Nat) : Int) else none
        conversions := some acc.n } := by
  rw [State.sampleOf, h]
  simp only [List.getD_eq_getElem?_getD, hacc, Option.getD_some]

/-- An ANALOG channel's verdict carries a value where it is GOOD or SATURATED (R30). -/
theorem analogVerdict_valid_iff (latches : BitVec 16) (e : ChannelEntry) (check : Check)
    (acc : SecondAcc) : (analogVerdict latches e check acc).valid = true ↔
      analogVerdict latches e check acc = .good ∨ analogVerdict latches e check acc = .saturated := by
  cases analogVerdict latches e check acc <;> simp [Verdict.valid]

/-- The check of an input's converter failed (R23). -/
theorem checkFor_failed_iff (lock : Bool) (ra rb i : Nat) :
    checkFor (checkOf lock ra) (checkOf lock rb) i = .failed ↔ lock = true ∧
      decide (11940 ≤ (if i ≤ 15 then ra else rb) ∧ (if i ≤ 15 then ra else rb) ≤ 12060) = false := by
  rw [checkFor, ← checkOf_failed_iff]
  split <;> rfl

/-- The verdict of an ANALOG channel by the reading of its own converter (R23, R30). -/
theorem analogVerdict_checkFor (latches : BitVec 16) (e : ChannelEntry) (lock : Bool)
    (ra rb i : Nat) (acc : SecondAcc) :
    analogVerdict latches e (checkFor (checkOf lock ra) (checkOf lock rb) i) acc =
      if latched latches e.maintLine then .maintenance
      else if latched latches e.faultLine then .analyserFault
      else if lock = true ∧ decide (11940 ≤ (if i ≤ 15 then ra else rb) ∧
        (if i ≤ 15 then ra else rb) ≤ 12060) = false then .converterFault
      else if acc.lineBreak then .lineBreak
      else if acc.n < 5 then .short
      else if acc.saturated then .saturated else .good := by
  simp only [analogVerdict, checkFor_failed_iff]

/-- A LINK channel with nothing latched and a recent submission has its value, or MAINTENANCE (R32). -/
theorem State.linkVerdictOf_recent {v : ValueSlot}
    (hmaint : latched s.scan.latches (s.sec.cfg.channel c).maintLine = false)
    (hfault : latched s.scan.latches (s.sec.cfg.channel c).faultLine = false)
    (hslot : s.scan.slots.getD c none = some v) (hrecent : s.time.counter ≤ v.arrival + 2) :
    s.linkVerdictOf c = if v.maintenance then .maintenance else .good := by
  unfold State.linkVerdictOf linkVerdict
  simp only [hmaint, hfault, hslot, Bool.false_eq_true, if_false, if_neg (Nat.not_lt.mpr hrecent)]

theorem State.linkVerdictOf_maintenance
    (hmaint : latched s.scan.latches (s.sec.cfg.channel c).maintLine = true) :
    s.linkVerdictOf c = .maintenance := by
  unfold State.linkVerdictOf linkVerdict
  exact if_pos hmaint

theorem State.linkVerdictOf_fault
    (hmaint : latched s.scan.latches (s.sec.cfg.channel c).maintLine = false)
    (hfault : latched s.scan.latches (s.sec.cfg.channel c).faultLine = true) :
    s.linkVerdictOf c = .analyserFault := by
  unfold State.linkVerdictOf linkVerdict
  rw [hmaint, if_neg Bool.false_ne_true, if_pos hfault]

/-- The sample of an ANALOG channel (R30). -/
theorem State.sample_of_analog {lock : Bool} {ra rb i : Nat} {acc : SecondAcc} {y : Sample}
    (hy : y ∈ (s.sampleSet (checkOf lock ra) (checkOf lock rb)).samples)
    (hsource : (s.sec.cfg.channel y.channel).source = .analog i)
    (hacc : s.scan.accs[i]? = some acc) :
    y.verdict = (if latched s.scan.latches (s.sec.cfg.channel y.channel).maintLine then
        .maintenance
      else if latched s.scan.latches (s.sec.cfg.channel y.channel).faultLine then .analyserFault
      else if lock = true ∧ decide (11940 ≤ (if i ≤ 15 then ra else rb) ∧
        (if i ≤ 15 then ra else rb) ≤ 12060) = false then .converterFault
      else if acc.lineBreak then .lineBreak
      else if acc.n < 5 then .short
      else if acc.saturated then .saturated else .good) ∧
    y.conversions = some acc.n ∧
    y.value = (if y.verdict = .good ∨ y.verdict = .saturated then
      some ((roundHalfUp acc.sum acc.n : Nat) : Int) else none) := by
  have hsample := (State.mem_sampleSet hy).trans (State.sampleOf_analog hsource hacc)
  have hverdict : y.verdict = _ := congrArg Sample.verdict hsample
  refine ⟨hverdict.trans (analogVerdict_checkFor _ _ _ _ _ _ _),
    congrArg Sample.conversions hsample,
    (congrArg Sample.value hsample).trans (if_congr ?_ rfl rfl)⟩
  rw [hverdict]
  exact analogVerdict_valid_iff _ _ _ _

/-- The sample of a LINK channel (R32). -/
theorem State.sample_of_link {y : Sample} (hy : y ∈ (s.sampleSet a b).samples)
    (hsource : (s.sec.cfg.channel y.channel).source = .link) :
    y.conversions = none ∧ y.verdict = s.linkVerdictOf y.channel ∧
      y.value = if (s.linkVerdictOf y.channel).valid then
        (s.scan.slots.getD y.channel none).map ValueSlot.value else none := by
  have hsample := (State.mem_sampleSet hy).trans (State.sampleOf_link hsource)
  exact ⟨congrArg Sample.conversions hsample, congrArg Sample.verdict hsample,
    congrArg Sample.value hsample⟩

/-- The stale marks of the second, channel by channel (R32). -/
theorem State.staleNow_getElem? (hc : c < 32) : s.staleNow[c]? = some
    (if (s.sec.cfg.channel c).inUse = true ∧ (s.sec.cfg.channel c).source = .link then
      some (s.linkVerdictOf c == .stale) else none) := by
  rw [State.staleNow, List.getElem?_map, List.getElem?_range hc]
  rfl

/-- The same marks, by any test of the channels whose verdict is STALE. -/
theorem State.staleNow_of {stale : Nat → Bool} (h : ∀ c, stale c = true ↔
      (s.sec.cfg.channel c).inUse = true ∧ (s.sec.cfg.channel c).source = .link ∧
        s.linkVerdictOf c = .stale) (c : Nat) (hc : c < 32) : s.staleNow[c]? = some
    (if (s.sec.cfg.channel c).inUse = true ∧ (s.sec.cfg.channel c).source = .link then
      some (stale c) else none) := by
  rw [State.staleNow_getElem? hc]
  refine congrArg some (if_ctx_congr Iff.rfl (fun hlink => congrArg some ?_) fun _ => rfl)
  rw [Bool.eq_iff_iff, beq_iff_eq, h]
  exact ⟨fun hgone => ⟨hlink.1, hlink.2, hgone⟩, fun hall => hall.2.2⟩

/-- SIGNALS_STALE is raised where a channel goes stale that was not (R32). -/
theorem State.staleBegins_of {stale : Nat → Bool} (h : ∀ c, stale c = true ↔
      (s.sec.cfg.channel c).inUse = true ∧ (s.sec.cfg.channel c).source = .link ∧
        s.linkVerdictOf c = .stale) (before : List (Option Bool)) :
    staleBegins before s.staleNow = true ↔
      ∃ c ∈ List.range 32, stale c = true ∧ before.getD c none = some false := by
  simp only [staleBegins, List.any_eq_true, Bool.and_eq_true, beq_iff_eq]
  refine exists_congr fun c => and_congr_right fun hc => and_congr_left fun _ => ?_
  rw [List.getD_eq_getElem?_getD, State.staleNow_of h c (List.mem_range.1 hc), Option.getD_some]
  split
  next hlink => exact Option.some_inj
  next hlink => simp only [reduceCtorEq, h, false_iff]; exact fun hall => hlink ⟨hall.1, hall.2.1⟩

end Samples

end Sys2Proof.Machine
end

section
/-! The end of the self-check period (R22 to R24, R30 to R34), and O55. -/

namespace Sys2Proof.Machine

section SelfCheck

variable {s : State} {lock : Bool} {ra rb : Nat}

/-- The records of a second's self-check in their order (R22, R24). -/
def State.checkEvents (s : State) (lock : Bool) (ra rb : Nat) : List EventRec :=
  faultEvents s.time.counter 0 ra s.scan.faultyA (faultAfter s.scan.faultyA (checkOf lock ra)) ++
    faultEvents s.time.counter 1 rb s.scan.faultyB (faultAfter s.scan.faultyB (checkOf lock rb)) ++
    (List.range 32).filterMap s.breakEvent

/-- The scan unit with the fault states and line breaks that the checks leave (R22, R24). -/
def State.checkedScan (s : State) (lock : Bool) (ra rb : Nat) : ScanUnit :=
  { s.scan with
    faultyA := faultAfter s.scan.faultyA (checkOf lock ra)
    faultyB := faultAfter s.scan.faultyB (checkOf lock rb)
    broken := s.brokenBelow 32 }

/-- The second in progress, what its self-check found being remembered. -/
def State.checkedSecond (s : State) : SecondWork :=
  { s.sec with before := { s.sec.before with scan := some s.scanFound } }

/-- The part between its checks and its sample set. -/
theorem State.checks_eq (s : State) (lock : Bool) (ra rb : Nat) :
    (s.rememberScan.updateFaults ra rb (checkOf lock ra) (checkOf lock rb)).updateBreaks =
      (s.atWork (s.checkedScan lock ra rb) s.checkedSecond).noteAll (s.checkEvents lock ra rb) := by
  let scan : ScanUnit := { s.scan with
    faultyA := faultAfter s.scan.faultyA (checkOf lock ra)
    faultyB := faultAfter s.scan.faultyB (checkOf lock rb) }
  let first := faultEvents s.time.counter 0 ra s.scan.faultyA
    (faultAfter s.scan.faultyA (checkOf lock ra))
  let second := faultEvents s.time.counter 1 rb s.scan.faultyB
    (faultAfter s.scan.faultyB (checkOf lock rb))
  let t : State := s.atWork scan s.checkedSecond
  have htime : (t.noteAll first).time.counter = s.time.counter := by
    obtain ⟨recorder, attention, hnoted⟩ := t.noteAll_noted first
    rw [hnoted]
    rfl
  have hfaults : s.rememberScan.updateFaults ra rb (checkOf lock ra) (checkOf lock rb) =
      t.noteAll (first ++ second) := by
    rw [← State.noteAll_append]
    refine (State.noteFault_eq _ _ _ _ _).trans ?_
    rw [State.noteFault_eq]
    show (t.noteAll first).noteAll (faultEvents (t.noteAll first).time.counter _ _ _ _) = _
    rw [htime]
    rfl
  obtain ⟨recorder, attention, hnoted⟩ := t.noteAll_noted (first ++ second)
  rw [hfaults, State.updateBreaks, State.foldl_updateBreak, State.atWork_noteAll,
    State.noteAll_append, hnoted]
  rfl

/-- A sample set formed and handed on (R34). -/
theorem State.formSamples_eq (hrun : s.running = true) (a b : Check) : s.formSamples a b = { s with
    sec := { s.sec with sampleFormed := true, nextSlot := 10 }
    scan := { s.scan with linkStale := s.staleNow }
    norm := { s.norm with samples := s.norm.samples ++ [s.sampleSet a b] }
    attention := if staleBegins s.scan.linkStale s.staleNow = true then
        s.attention.raiseAll flagSignalsStale
      else s.attention } := by
  rw [State.formSamples]
  split
  · exact State.raiseAll_flagged (s := { s with
      sec := { s.sec with sampleFormed := true, nextSlot := 10 }
      scan := { s.scan with linkStale := s.staleNow }
      norm := { s.norm with samples := s.norm.samples ++ [s.sampleSet a b] } }) hrun _
  · rfl

/-- All that a self-check leaves, the records and their flag apart. -/
theorem State.endSelfCheck_eq (hrun : s.running = true) : ∃ (recorder : Recorder)
    (attention : AttentionUnit),
    (s.atWork (s.checkedScan lock ra rb) s.checkedSecond).noteAll (s.checkEvents lock ra rb) =
      { s.atWork (s.checkedScan lock ra rb) s.checkedSecond with
        recorder := recorder, attention := attention } ∧
    s.endSelfCheck lock ra rb = { s with
      sec := { s.checkedSecond with sampleFormed := true, nextSlot := 10 }
      scan := { s.checkedScan lock ra rb with linkStale := s.staleNow }
      norm := { s.norm with samples := s.norm.samples ++
        [s.sampleSet (checkOf lock ra) (checkOf lock rb)] }
      recorder := recorder
      attention := if staleBegins s.scan.linkStale s.staleNow = true then
          attention.raiseAll flagSignalsStale
        else attention } := by
  obtain ⟨recorder, attention, hnoted⟩ :=
    (s.atWork (s.checkedScan lock ra rb) s.checkedSecond).noteAll_noted (s.checkEvents lock ra rb)
  refine ⟨recorder, attention, hnoted, ?_⟩
  rw [State.endSelfCheck, State.checks_eq, hnoted]
  exact State.formSamples_eq (s := { s.atWork (s.checkedScan lock ra rb) s.checkedSecond with
    recorder := recorder, attention := attention }) hrun _ _

/-! ### The records -/

theorem faultEvents_length (time converter reading : Nat) (before after : Bool) :
    (faultEvents time converter reading before after).length ≤ 1 := by
  rw [faultEvents]
  split
  · exact Nat.zero_le _
  · exact Nat.le_refl _

theorem State.checkEvents_length (s : State) (lock : Bool) (ra rb : Nat) :
    (s.checkEvents lock ra rb).length ≤ 34 := by
  have hbreaks : ((List.range 32).filterMap s.breakEvent).length ≤ 32 := by
    simpa using List.length_filterMap_le s.breakEvent (List.range 32)
  have hfirst := faultEvents_length s.time.counter 0 ra s.scan.faultyA
    (faultAfter s.scan.faultyA (checkOf lock ra))
  have hsecond := faultEvents_length s.time.counter 1 rb s.scan.faultyB
    (faultAfter s.scan.faultyB (checkOf lock rb))
  simp only [State.checkEvents, List.length_append]
  omega

theorem faultEvents_uncounted {time converter reading : Nat} {before after : Bool} {e : EventRec}
    (h : e ∈ faultEvents time converter reading before after) :
    e.kind ≠ .timeStep ∧ e.kind ≠ .restart := by
  rw [faultEvents] at h
  split at h
  · exact absurd h List.not_mem_nil
  · rw [List.mem_singleton.1 h]
    cases after <;> exact ⟨EventKind.noConfusion, EventKind.noConfusion⟩

theorem State.breakEvent_uncounted {i : Nat} {e : EventRec} (h : s.breakEvent i = some e) :
    e.kind ≠ .timeStep ∧ e.kind ≠ .restart := by
  obtain ⟨c, -, hbegins⟩ := Option.bind_eq_some_iff.1 h
  split at hbegins
  · rw [← Option.some.inj hbegins]
    exact ⟨EventKind.noConfusion, EventKind.noConfusion⟩
  · cases hbegins

/-- None of the records is one that R128 counts. -/
theorem State.checkEvents_uncounted {e : EventRec} (h : e ∈ s.checkEvents lock ra rb) :
    e.kind ≠ .timeStep ∧ e.kind ≠ .restart := by
  rcases List.mem_append.1 h with h | h
  · exact (List.mem_append.1 h).elim faultEvents_uncounted faultEvents_uncounted
  · obtain ⟨i, -, hi⟩ := List.mem_filterMap.1 h
    exact State.breakEvent_uncounted hi

/-- The records of line breaks as they join the queue. -/
theorem State.breakEvents_map (s : State) : ((List.range 32).filterMap s.breakEvent).map .event =
    (List.range 32).filterMap fun i => (s.sec.cfg.channelOfInput i).bind fun c =>
      if s.scan.broken.getD i false = false ∧ (s.scan.accs.getD i .empty).lineBreak = true then
        some (QueueItem.event {
          time := s.time.counter, kind := .lineBreakBegin
          stack := some (s.sec.cfg.channel c).stack, channel := some c
          argument := BitVec.ofNat 32 i }) else none := by
  rw [List.map_filterMap]
  congr 1
  funext i
  rw [State.breakEvent, Option.map_bind]
  congr 1
  funext c
  exact apply_ite (Option.map QueueItem.event) _ _ _

/-- The line-break state of an input at the end of the second (R22). -/
theorem State.brokenBelow_getElem? {i : Nat} {acc : SecondAcc} {br : Bool} (hi : i < 32)
    (hacc : s.scan.accs[i]? = some acc) (hbr : s.scan.broken[i]? = some br) :
    (s.brokenBelow 32)[i]? = some (if (s.sec.cfg.channelOfInput i).isSome then
      (if acc.lineBreak then true else if 1 ≤ acc.n then false else br) else br) := by
  rw [State.brokenBelow, List.getElem?_mapIdx, hbr, Option.map_some, if_pos hi, State.breakAt,
    List.getD_eq_getElem?_getD, List.getD_eq_getElem?_getD, hacc, hbr]
  rfl

/-- The records of a second's checks as they join the queue (R22, R24). -/
theorem State.checkEvents_map (s : State) (lock : Bool) (ra rb : Nat) {ok : Nat → Bool}
    {noted : Nat → Nat → Bool → List QueueItem} (hok : ok = fun r => decide (11940 ≤ r ∧ r ≤ 12060))
    (hnoted : noted = fun converter reading before =>
      if lock = false ∨ before = !ok reading then []
      else [.event (.plain s.time.counter
        (if before then .converterFaultEnd else .converterFaultBegin)
        (converter * 65536 + min reading 25000))]) :
    (s.checkEvents lock ra rb).map QueueItem.event =
      noted 0 ra s.scan.faultyA ++ noted 1 rb s.scan.faultyB ++
        ((List.range 32).filterMap s.breakEvent).map .event := by
  subst hok hnoted
  rw [State.checkEvents, List.map_append, List.map_append, faultEvents_checkOf, faultEvents_checkOf]

/-- What a self-check adds to the queue and to the pending flags, where there is room. -/
theorem State.endSelfCheck_room (hrun : s.running = true) (hroom : s.roomFor 34) :
    (s.endSelfCheck lock ra rb).recorder.queue =
      s.recorder.queue ++ (s.checkEvents lock ra rb).map .event ∧
    ∀ l, ((s.endSelfCheck lock ra rb).attention.get l).pending = (s.attention.get l).pending |||
      (if s.checkEvents lock ra rb = [] then 0 else 0x0080) |||
      (if staleBegins s.scan.linkStale s.staleNow = true then 0x0040 else 0) := by
  obtain ⟨recorder, attention, hnoted, hend⟩ :=
    State.endSelfCheck_eq (lock := lock) (ra := ra) (rb := rb) hrun
  obtain ⟨hqueue, hpending⟩ := State.noteAll_room _ (fun e => State.checkEvents_uncounted)
    (s.atWork (s.checkedScan lock ra rb) s.checkedSecond) hrun
    (State.roomFor_le hroom (s.checkEvents_length lock ra rb))
  rw [hnoted] at hqueue hpending
  rw [hend]
  refine ⟨hqueue, fun l => Eq.trans ?_ (congrArg (· ||| _) (hpending l))⟩
  split
  · exact AttentionUnit.raiseAll_pending _ _ _
  · exact BitVec.or_zero.symm

theorem exec_selfCheckEnd {t : State} (hrun : s.running = true) (hprocessed : s.sec.processed = true)
    (hformed : s.sec.sampleFormed = false) (ra rb : Nat)
    (ht : t = { s with time := { s.time with phase := max s.time.phase 960 } }) :
    exec (.selfCheckEnd ra rb) s = .next
      (if s.sec.held.isSome then t.deferCheck ra rb
      else (t.endSelfCheck s.sec.lockHeld ra rb).settle) := by
  have hscan : s.scanning = true := by simp [State.scanning, hrun, hprocessed, hformed]
  rw [ht, ← s.reachPhase_eq (show 960 ≤ 999 by omega)]
  exact congrArg _ (if_pos hscan)

end SelfCheck

/-- Settles O55: the checks, the breaks and the sample set in their order, then channel by channel. -/
theorem selfCheckEndsTheScan : Obligations.SelfCheckEndsTheScan := by
  refine ⟨fun s t ra rb hrun hprocessed hformed ht => ?_, fun s ra rb ok noted breaks stale hrun
    hprocessed hformed hheld hok hnoted hbreaks hstale _ => ?_⟩
  · rw [exec_selfCheckEnd hrun hprocessed hformed ra rb ht]
    refine ⟨fun hheld => ?_, fun hheld => ?_⟩
    · rw [if_neg (by rw [hheld]; exact Bool.false_ne_true)]
    · rw [if_pos (Option.isSome_iff_ne_none.2 hheld), ht]
      rfl
  let t : State := { s with time := { s.time with phase := max s.time.phase 960 } }
  let lock : Bool := s.sec.lockHeld
  have hstaleOf : ∀ c, stale c = true ↔ (s.sec.cfg.channel c).inUse = true ∧
      (s.sec.cfg.channel c).source = .link ∧ s.linkVerdictOf c = .stale := by
    intro c
    rw [hstale, decide_eq_true_eq, State.linkVerdictOf, linkVerdict_stale_iff]
  have hevents : (t.checkEvents lock ra rb).map QueueItem.event =
      noted 0 ra s.scan.faultyA ++ noted 1 rb s.scan.faultyB ++ breaks := by
    rw [hbreaks, ← s.breakEvents_map]
    exact t.checkEvents_map lock ra rb hok hnoted
  have hroomed := fun hroom => State.endSelfCheck_room (s := t) (lock := lock) (ra := ra) (rb := rb)
    hrun hroom
  obtain ⟨recorder, attention, -, hend⟩ :=
    State.endSelfCheck_eq (s := t) (lock := lock) (ra := ra) (rb := rb) hrun
  subst hok
  refine ⟨t.endSelfCheck lock ra rb, s.sampleSet (checkOf lock ra) (checkOf lock rb), ?_, ?_⟩
  · rw [exec_selfCheckEnd hrun hprocessed hformed ra rb rfl,
      if_neg (by rw [hheld]; exact Bool.false_ne_true)]
  rw [hend] at hroomed ⊢
  refine ⟨faultAfter_checkOf _ _ _, faultAfter_checkOf _ _ _,
    fun i acc br hi hacc hbr => State.brokenBelow_getElem? (s := t) hi hacc hbr,
    fun hroom => ?_, State.staleNow_of hstaleOf, rfl, rfl, rfl, rfl, rfl, rfl, rfl, rfl, rfl,
    s.sampleSet_channels _ _, fun y hy v hsource => ?_,
    fun y hy i acc hsource hacc => State.sample_of_analog hy hsource hacc,
    fun y hy hsource => ?_, rfl, rfl, rfl, rfl, rfl, rfl, rfl⟩
  · obtain ⟨hqueue, hpending⟩ := hroomed hroom
    refine ⟨?_, fun l => (hpending l).trans ?_⟩
    · rw [hqueue, hevents]
      simp only [List.append_assoc]
      rfl
    · have hnone : t.checkEvents lock ra rb = [] ↔
          noted 0 ra s.scan.faultyA ++ noted 1 rb s.scan.faultyB ++ breaks = [] := by
        rw [← hevents, List.map_eq_nil_iff]
      exact congrArg₂ _ (congrArg _ (if_congr hnone rfl rfl))
        (if_congr (State.staleBegins_of hstaleOf _) rfl rfl)
  · rw [State.mem_sampleSet hy, State.sampleOf_constant hsource]
    exact ⟨rfl, rfl, rfl⟩
  · obtain ⟨hconversions, hverdict, hvalue⟩ := State.sample_of_link hy hsource
    rw [hverdict, hvalue]
    refine ⟨hconversions, fun hmaint => ?_, fun hmaint hfault => ?_, fun hgone => ?_,
      fun v hmaint hfault hslot hrecent => ?_⟩
    · rw [State.linkVerdictOf_maintenance hmaint]
      exact ⟨rfl, rfl⟩
    · rw [State.linkVerdictOf_fault hmaint hfault]
      exact ⟨rfl, rfl⟩
    · rw [((hstaleOf _).1 hgone).2.2]
      exact ⟨rfl, rfl⟩
    · rw [State.linkVerdictOf_recent hmaint hfault hslot hrecent, hslot]
      cases v.maintenance <;> exact ⟨rfl, rfl⟩

end Sys2Proof.Machine
end

section
/-! The ports of a recovery that must wait for its clock (R159, R162), and the refutation of O60. -/

namespace Sys2Proof.Machine

section Suspended

variable {s : State}

theorem exec_endOfRecovery_suspends (hpower : s.supply.power = .starting)
    (hmust : s.mustSuspend = true) (cleared : Bool) :
    exec (.endOfRecovery cleared) s = .next s.suspend := by
  show Host.Outcome.next _ = _
  rw [hpower]
  exact congrArg _ (if_pos hmust)

/-- The ports of a recovery that was not resumed are silenced when it waits in SUSPENDED (R162). -/
theorem State.suspend_port (h : s.supply.resumed = false) (l : Link) :
    s.suspend.port l = (s.port l).silenced := by
  have hlinks : s.endLinks = { s with links := {
      plant := s.links.plant.silenced
      operator := s.links.operator.silenced
      inspection := s.links.inspection.silenced
      marks := .none } } := if_neg (by rw [h]; exact Bool.false_ne_true)
  rw [State.suspend, State.endAttention_eq, hlinks]
  cases l <;> rfl

/-- An operation that such a recovery finds in flight ends there: its result becomes RESTART (R169, R172). -/
theorem State.suspend_last (h : s.supply.resumed = false) (l : Link) :
    (s.suspend.port l).last = lastAfter (s.port l).opSnapshot (s.port l).last := by
  rw [State.suspend_port h, LinkPort.silenced_last]

end Suspended

/-- A recovery in RECORDING without a clock, with an operation of the inspection link in flight and no result yet. A
recovery begins with every operation ended (`State.restartLinks`), so no run from reset is expected to come here; but
O60 speaks of every state. -/
def recoveringWithOp : State :=
  { State.reset with
    supply := { State.reset.supply with power := .starting, mode := .recording }
    links := { State.reset.links with
      inspection := { LinkPort.initial with op := some { cmd := .withdraw, waiting := true } } } }

/-- Refutes O60: a recovery that waits in SUSPENDED leaves every port without an operation and, says O60, with the last
result that it had; but where an operation is in flight the port's result becomes RESTART. -/
theorem not_recoveriesEnd : ¬ Obligations.RecoveriesEnd := by
  intro h
  obtain ⟨-, hsuspends, -⟩ := h recoveringWithOp true 0x0200 0 (by decide) nofun (fun _ => rfl)
  obtain ⟨u, hexec, -, -, -, -, -, -, -, -, -, hports⟩ :=
    hsuspends rfl rfl rfl (.inr (.inl rfl))
  have hu : .next recoveringWithOp.suspend = Host.Outcome.next u :=
    (exec_endOfRecovery_suspends rfl rfl true).symm.trans hexec
  obtain ⟨-, -, hlast⟩ := hports .inspection
  have hrestart : (recoveringWithOp.suspend.port .inspection).last =
      some { command := some .withdraw, outcome := .restart, reason := none, index := none,
             counts := [] } := State.suspend_last rfl .inspection
  have hnone : (recoveringWithOp.suspend.port .inspection).last = none := by
    rw [Host.Outcome.next.inj hu]
    exact hlast
  exact absurd (hrestart.symm.trans hnone) nofun

end Sys2Proof.Machine
end

section
/-! The time of record in service (R35, R40 to R43), and O9. -/

namespace Sys2Proof.Machine

/-- Quiet moves never turn the clock back. -/
theorem QuietMove.counter_le {v w : View} (m : QuietMove v w) : v.counter ≤ w.counter := by
  cases m with
  | inner m => cases m <;> exact Nat.le_refl _
  | advance n h => exact h
  | _ => exact Nat.le_refl _

theorem Quiet.counter_le {s t : State} (h : Quiet s t) : s.time.counter ≤ t.time.counter := by
  have hmoves : ∀ {w : View}, Relation.ReflTransGen QuietMove s.view w →
      s.view.counter ≤ w.counter := by
    intro w h
    induction h with
    | refl => exact Nat.le_refl _
    | tail _ m ih => exact ih.trans m.counter_le
  exact hmoves h

theorem State.serve_quiet {c : Command} {l : Link} {args : List Byte} {rule : State → Ruling}
    {s : State} (h : (rule s).leads (Quiet s)) : Quiet s (s.serve c l args rule) := by
  rcases s.serve_cases c l args rule with k | ⟨b, k⟩ | ⟨-, -, -, -, k⟩ <;> rw [k]
  · exact .refl s
  · exact (State.refuse_inner l b s).quiet
  · cases hr : rule s with
    | argument => exact (State.refuse_inner l _ s).quiet
    | sequence => exact (State.refuse_inner l _ s).quiet
    | answered t d n =>
      rw [hr] at h
      exact Quiet.trans (t := t) h (State.reply_inner l _ d t).quiet

/-- In the modes whose offset counts SET TIME's decision is a slew, a forward step or a refusal (R41). -/
theorem State.setTimeRuling_inService {s : State} (hmode : s.supply.mode = .enteringService ∨
    s.supply.mode = .recording ∨ s.supply.mode = .withdrawn) (l : Link) (target : Nat) {ms : Nat}
    (hms : ms ≤ 999) (phase : Nat) :
    s.setTimeRuling l target ms phase = s.offsetRuling l target ms phase := by
  rw [State.setTimeRuling, if_neg (Nat.not_lt.mpr hms)]
  rcases hmode with h | h | h <;> rw [h]

theorem execSetTime_quiet {s : State} (hmode : s.supply.mode = .enteringService ∨
    s.supply.mode = .recording ∨ s.supply.mode = .withdrawn) (l : Link) (args : List Byte)
    (phase : Nat) : Leads s (exec (.setTime l args phase) s) := by
  refine .next (State.serve_quiet ?_)
  by_cases hms : u16 args 4 ≤ 999
  · rw [State.setTimeRuling_inService hmode l _ hms]
    exact s.offsetRuling_leads l _ hms phase
  · rw [State.setTimeRuling, if_pos (Nat.lt_of_not_le hms)]
    trivial

theorem exec_haltEnd_elsewhere {s : State} (h : s.supply.power ≠ .halt) (passes : Bool) :
    exec (.haltEnd passes) s = .next s := by
  show Host.Outcome.next _ = _
  cases hp : s.supply.power with
  | halt => exact absurd hp h
  | _ => rfl

/-- Settles O9: SET TIME only slews or steps forward there, the end of a halt does not concern a running part, and
every other command is quiet in any state. -/
theorem timeOfRecordNeverDecreasesInService : Obligations.TimeOfRecordNeverDecreasesInService := by
  intro i s t hpower hmode hexec
  suffices Quiet s t from this.counter_le
  cases hset : setsClock i with
  | false => exact exec_quiet hset hexec
  | true =>
    cases i with
    | setTime l args phase => exact execSetTime_quiet hmode l args phase t hexec
    | haltEnd passes =>
      rw [exec_haltEnd_elsewhere (by rw [hpower]; exact nofun)] at hexec
      exact Host.Outcome.next.inj hexec ▸ .refl s
    | _ => exact absurd hset nofun

end Sys2Proof.Machine
end

section
/-! The calendar (R36): the day numbers of years and months, the order of dates, and O40. -/

namespace Sys2Proof.Machine

/-! ### Years -/

theorem isLeapYear_iff (y : Nat) :
    isLeapYear y = true ↔ y % 4 = 0 ∧ (y % 100 ≠ 0 ∨ y % 400 = 0) := by
  simp [isLeapYear]

theorem yearLength_bounds (y : Nat) : 365 ≤ yearLength y ∧ yearLength y ≤ 366 := by
  unfold yearLength
  split <;> omega

theorem yearStart_succ (k : Nat) : yearStart (k + 1) = yearStart k + yearLength (2000 + k) := rfl

theorem yearStart_add_le (j k : Nat) : yearStart j + 365 * k ≤ yearStart (j + k) := by
  induction k with
  | zero => exact Nat.le_refl _
  | succ k ih =>
    rw [← Nat.add_assoc j k 1, yearStart_succ, Nat.mul_succ, ← Nat.add_assoc]
    exact Nat.add_le_add ih (yearLength_bounds _).1

theorem yearStart_le {j k : Nat} (h : j ≤ k) : yearStart j ≤ yearStart k := by
  obtain ⟨i, rfl⟩ := Nat.exists_eq_add_of_le h
  have hadd := yearStart_add_le j i
  omega

/-- The day number of 2136-01-01. -/
theorem yearStart_136 : yearStart 136 = 49673 := by decide +kernel

/-- Counting the years forward finds the year that a day lies in (R36). -/
theorem countYears_eq (k : Nat) : ∀ (j fuel r : Nat), k < fuel → r < yearLength (2000 + (j + k)) →
    countYears fuel (2000 + j) (yearStart (j + k) - yearStart j + r) = (2000 + (j + k), r) := by
  induction k with
  | zero =>
    intro j fuel r hfuel hr
    obtain ⟨fuel, rfl⟩ := Nat.exists_eq_succ_of_ne_zero (Nat.ne_of_gt hfuel)
    rw [Nat.add_zero] at hr ⊢
    rw [Nat.sub_self, Nat.zero_add, countYears, if_pos hr]
  | succ k ih =>
    intro j fuel r hfuel hr
    obtain ⟨fuel, rfl⟩ := Nat.exists_eq_succ_of_ne_zero (Nat.ne_of_gt (Nat.zero_lt_of_lt hfuel))
    have hnext : j + 1 + k = j + (k + 1) := by omega
    have hstart := yearStart_succ j
    have hle : yearStart (j + 1) ≤ yearStart (j + (k + 1)) := yearStart_le (by omega)
    have hih := ih (j + 1) fuel r (Nat.lt_of_succ_lt_succ hfuel) (by rw [hnext]; exact hr)
    rw [hnext, ← Nat.add_assoc 2000 j 1] at hih
    rw [countYears, if_neg (by omega), ← hih]
    congr 1
    omega

/-- The year of a day number and the day of that year (R36). -/
theorem yearAndDay_eq {k r : Nat} (hr : r < yearLength (2000 + k)) :
    yearAndDay (yearStart k + r) = (2000 + k, r) := by
  have hcount := countYears_eq k 0 ((yearStart k + r) / 365 + 1) r
    (by have hadd := yearStart_add_le 0 k
        rw [Nat.zero_add] at hadd
        omega) (by rwa [Nat.zero_add])
  rw [Nat.zero_add] at hcount
  exact hcount

/-! ### Months -/

theorem monthLength_bounds (y m : Nat) : 28 ≤ monthLength y m ∧ monthLength y m ≤ 31 := by
  unfold monthLength
  split
  · split <;> omega
  · split <;> omega

theorem daysBeforeMonth_succ (y : Nat) {m : Nat} (h : 1 ≤ m) :
    daysBeforeMonth y (m + 1) = daysBeforeMonth y m + monthLength y m := by
  obtain ⟨k, rfl⟩ := Nat.exists_eq_add_of_le' h
  rfl

theorem daysBeforeMonth_le (y : Nat) {m k : Nat} (hm : 1 ≤ m) (h : m < k) :
    daysBeforeMonth y m + monthLength y m ≤ daysBeforeMonth y k := by
  induction k with
  | zero => omega
  | succ k ih =>
    rw [daysBeforeMonth_succ y (by omega)]
    rcases Nat.lt_succ_iff_lt_or_eq.1 h with h | rfl
    · have hk := ih h
      omega
    · exact Nat.le_refl _

/-- December ends the year. -/
theorem daysBeforeMonth_thirteen (y : Nat) : daysBeforeMonth y 13 = yearLength y := by
  cases h : isLeapYear y <;> simp [daysBeforeMonth, monthLength, yearLength, h]

/-- A date lies in its year. -/
theorem dayOfYear_lt {y m d : Nat} (hm : 1 ≤ m) (hm' : m ≤ 12) (hd : 1 ≤ d)
    (hd' : d ≤ monthLength y m) : daysBeforeMonth y m + (d - 1) < yearLength y := by
  have hle := daysBeforeMonth_le y hm (Nat.lt_succ_of_le hm')
  rw [daysBeforeMonth_thirteen] at hle
  omega

/-! ### Dates -/

/-- A date of the calendar (R36). -/
structure IsDate (y m d : Nat) : Prop where
  year : 2000 ≤ y
  month : 1 ≤ m
  month_le : m ≤ 12
  day : 1 ≤ d
  day_le : d ≤ monthLength y m

/-- The day number of a date, wherever the counter ends. -/
def reckoned (y m d : Nat) : Nat := yearStart (y - 2000) + daysBeforeMonth y m + (d - 1)

section Dates

variable {y m d y' m' d' : Nat}

theorem IsDate.lt_next (h : IsDate y m d) : reckoned y m d < yearStart (y + 1 - 2000) := by
  have hlt := dayOfYear_lt h.month h.month_le h.day h.day_le
  have hyear := h.year
  have hnext : y + 1 - 2000 = (y - 2000) + 1 := by omega
  have hsame : 2000 + (y - 2000) = y := by omega
  rw [hnext, yearStart, hsame, reckoned]
  omega

/-- The counter's range ends with 2136-02-07 (R35). -/
theorem IsDate.reckoned_le_iff (h : IsDate y m d) : reckoned y m d ≤ 49710 ↔
    y < 2136 ∨ (y = 2136 ∧ (m = 1 ∨ (m = 2 ∧ d ≤ 7))) := by
  have hday := h.day
  have hmonth := h.month
  rcases Nat.lt_trichotomy y 2136 with hy | rfl | hy
  · have hlt := h.lt_next
    have hle : yearStart (y + 1 - 2000) ≤ yearStart 136 := yearStart_le (by omega)
    rw [yearStart_136] at hle
    omega
  · have hreckoned : reckoned 2136 m d = 49673 + daysBeforeMonth 2136 m + (d - 1) := by
      rw [reckoned, ← yearStart_136]
    have hlength := monthLength_bounds 2136 1
    have hdayLe := h.day_le
    have hfeb : daysBeforeMonth 2136 2 = 31 := rfl
    rcases Nat.lt_trichotomy m 2 with hm | rfl | hm
    · obtain rfl : m = 1 := by omega
      have hjan : daysBeforeMonth 2136 1 = 0 := rfl
      omega
    · omega
    · have hmarch := daysBeforeMonth_le 2136 (m := 2) (by omega) hm
      have hlengthFeb := (monthLength_bounds 2136 2).1
      omega
  · have hle : yearStart (136 + 1) ≤ yearStart (y - 2000) := yearStart_le (by omega)
    have hnext := yearStart_add_le 136 1
    rw [yearStart_136] at hnext
    unfold reckoned
    omega

theorem dayNumber_eq_some_iff {n : Nat} : dayNumber y m d = some n ↔
    IsDate y m d ∧ reckoned y m d = n ∧ n ≤ 49710 := by
  have hmax : dayOf 4294967295 = 49710 := rfl
  unfold dayNumber
  rw [hmax]
  constructor
  · intro h
    split at h
    · rename_i hdate
      obtain ⟨hy, -, hm, hm', hd, hd'⟩ := hdate
      simp only [Option.ite_none_right_eq_some, Option.some.injEq] at h
      exact ⟨⟨hy, hm, hm', hd, hd'⟩, h.2, h.2 ▸ h.1⟩
    · exact absurd h nofun
  · rintro ⟨h, rfl, hle⟩
    have hrange := h.reckoned_le_iff.1 hle
    rw [if_pos ⟨h.year, by omega, h.month, h.month_le, h.day, h.day_le⟩]
    exact if_pos hle

theorem dayNumber_of_reckoned (h : IsDate y m d) (hle : reckoned y m d ≤ 49710) :
    dayNumber y m d = some (reckoned y m d) :=
  dayNumber_eq_some_iff.2 ⟨h, rfl, hle⟩

/-- A date of the calendar has a day number exactly where the counter reaches it. -/
theorem dayNumber_isSome_iff : (dayNumber y m d).isSome = true ↔
    IsDate y m d ∧ (y < 2136 ∨ (y = 2136 ∧ (m = 1 ∨ (m = 2 ∧ d ≤ 7)))) := by
  rw [Option.isSome_iff_exists]
  constructor
  · rintro ⟨n, h⟩
    obtain ⟨hdate, rfl, hle⟩ := dayNumber_eq_some_iff.1 h
    exact ⟨hdate, hdate.reckoned_le_iff.1 hle⟩
  · rintro ⟨hdate, hrange⟩
    exact ⟨_, dayNumber_of_reckoned hdate (hdate.reckoned_le_iff.2 hrange)⟩

/-! ### The next date -/

/-- A day later within the month. -/
theorem IsDate.nextDay (h : IsDate y m d) (hd : d < monthLength y m) :
    IsDate y m (d + 1) ∧ reckoned y m (d + 1) = reckoned y m d + 1 := by
  have hday := h.day
  refine ⟨⟨h.year, h.month, h.month_le, by omega, hd⟩, ?_⟩
  unfold reckoned
  omega

/-- The first of the next month. -/
theorem IsDate.nextMonth (h : IsDate y m d) (hd : d = monthLength y m) (hm : m < 12) :
    IsDate y (m + 1) 1 ∧ reckoned y (m + 1) 1 = reckoned y m d + 1 := by
  have hlength := (monthLength_bounds y (m + 1)).1
  have hday := h.day
  refine ⟨⟨h.year, by omega, hm, by omega, by omega⟩, ?_⟩
  unfold reckoned
  rw [daysBeforeMonth_succ y h.month]
  omega

/-- 1 January of the next year. -/
theorem IsDate.nextYear (h : IsDate y m d) (hd : d = monthLength y m) (hm : m = 12) :
    IsDate (y + 1) 1 1 ∧ reckoned (y + 1) 1 1 = reckoned y m d + 1 := by
  have hlength := (monthLength_bounds (y + 1) 1).1
  have hyear := h.year
  have hday := h.day
  refine ⟨⟨by omega, by omega, by omega, by omega, by omega⟩, ?_⟩
  have hdecember : daysBeforeMonth y 12 + monthLength y 12 = yearLength y :=
    daysBeforeMonth_thirteen y
  have hjanuary : daysBeforeMonth (y + 1) 1 = 0 := rfl
  have hnext : y + 1 - 2000 = (y - 2000) + 1 := by omega
  have hsame : 2000 + (y - 2000) = y := by omega
  subst hm
  unfold reckoned
  rw [hjanuary, hnext, yearStart, hsame]
  omega

/-- Every day number has its date, each from the date before. -/
theorem exists_dayNumber (n : Nat) : n ≤ 49710 → ∃ y m d, dayNumber y m d = some n := by
  induction n with
  | zero => exact fun _ => ⟨2000, 1, 1, rfl⟩
  | succ n ih =>
    intro hn
    obtain ⟨y, m, d, h⟩ := ih (by omega)
    obtain ⟨hdate, hreckoned, -⟩ := dayNumber_eq_some_iff.1 h
    have hnext : ∀ {y' m' d' : Nat}, IsDate y' m' d' ∧ reckoned y' m' d' = reckoned y m d + 1 →
        ∃ y m d, dayNumber y m d = some (n + 1) :=
      fun ⟨hdate', heq⟩ => ⟨_, _, _, dayNumber_eq_some_iff.2 ⟨hdate', by omega, hn⟩⟩
    rcases Nat.lt_or_eq_of_le hdate.day_le with hd | hd
    · exact hnext (hdate.nextDay hd)
    · rcases Nat.lt_or_eq_of_le hdate.month_le with hm | hm
      · exact hnext (hdate.nextMonth hd hm)
      · exact hnext (hdate.nextYear hd hm)

/-! ### The order of dates -/

/-- An earlier date has a smaller number. -/
theorem reckoned_lt (h : IsDate y m d) (h' : IsDate y' m' d')
    (hlt : y < y' ∨ (y = y' ∧ (m < m' ∨ (m = m' ∧ d < d')))) :
    reckoned y m d < reckoned y' m' d' := by
  rcases hlt with hy | ⟨rfl, hm | ⟨rfl, hd⟩⟩
  · calc reckoned y m d < yearStart (y + 1 - 2000) := h.lt_next
      _ ≤ yearStart (y' - 2000) := yearStart_le (by omega)
      _ ≤ reckoned y' m' d' := by rw [reckoned, Nat.add_assoc]; exact Nat.le_add_right _ _
  · have hle := daysBeforeMonth_le y h.month hm
    have hday := h.day
    have hdayLe := h.day_le
    unfold reckoned
    omega
  · have hday := h.day
    unfold reckoned
    omega

theorem reckoned_lt_iff (h : IsDate y m d) (h' : IsDate y' m' d') :
    reckoned y m d < reckoned y' m' d' ↔ y < y' ∨ (y = y' ∧ (m < m' ∨ (m = m' ∧ d < d'))) := by
  refine ⟨fun hlt => ?_, reckoned_lt h h'⟩
  by_contra hnot
  by_cases heq : y = y' ∧ m = m' ∧ d = d'
  · obtain ⟨rfl, rfl, rfl⟩ := heq
    exact Nat.lt_irrefl _ hlt
  · exact Nat.lt_asymm hlt (reckoned_lt h' h (by omega))

/-! ### The year of a date -/

theorem IsDate.yearAndDay (h : IsDate y m d) :
    yearAndDay (reckoned y m d) = (y, daysBeforeMonth y m + (d - 1)) := by
  have hyear := h.year
  have hsame : 2000 + (y - 2000) = y := by omega
  rw [reckoned, Nat.add_assoc,
    yearAndDay_eq (by rw [hsame]; exact dayOfYear_lt h.month h.month_le h.day h.day_le), hsame]

theorem IsDate.first_iff (h : IsDate y m d) :
    isFirstOfYear (reckoned y m d) = true ↔ m = 1 ∧ d = 1 := by
  have hday := h.day
  rw [isFirstOfYear, h.yearAndDay, beq_iff_eq]
  rcases Nat.lt_or_eq_of_le h.month with hm | rfl
  · have hle := daysBeforeMonth_le y (Nat.le_refl 1) hm
    have hlength := (monthLength_bounds y 1).1
    omega
  · have hjanuary : daysBeforeMonth y 1 = 0 := rfl
    omega

theorem IsDate.last_iff (h : IsDate y m d) :
    isLastOfYear (reckoned y m d) = true ↔ m = 12 ∧ d = 31 := by
  have hday := h.day
  have hdayLe := h.day_le
  have hdecember : daysBeforeMonth y 12 + monthLength y 12 = yearLength y :=
    daysBeforeMonth_thirteen y
  have hlength : monthLength y 12 = 31 := rfl
  rw [isLastOfYear, h.yearAndDay, beq_iff_eq]
  show daysBeforeMonth y m + (d - 1) + 1 = yearLength y ↔ _
  rcases Nat.lt_or_eq_of_le h.month_le with hm | rfl
  · have hle := daysBeforeMonth_le y h.month hm
    omega
  · omega

end Dates

/-! ### Intervals and days -/

theorem intervalStart_bounds (t : Nat) : 1800 * (intervalStart t / 1800) = intervalStart t ∧
    intervalStart t ≤ t ∧ t < intervalStart t + 1800 := by
  unfold intervalStart
  omega

/-- An interval lies within one day. -/
theorem dayOf_intervalStart (t : Nat) : dayOf (intervalStart t) = dayOf t := by
  unfold dayOf intervalStart
  omega

/-! ### The obligation -/

/-- Settles O40: dates are counted day by day, and the rest follows from where years and months begin. -/
theorem datesAreReckoned : Obligations.DatesAreReckoned := by
  refine ⟨?_, exists_dayNumber, ?_, ?_, fun t => ?_⟩
  · rintro len hlen
    have hmonth : ∀ y m, len y m = monthLength y m := fun y m => by
      simp only [hlen, monthLength, isLeapYear_iff]
    refine ⟨rfl, fun y m d => ?_, fun y m d n h hn => ?_⟩
    · rw [dayNumber_isSome_iff, hmonth]
      exact ⟨fun ⟨h, hrange⟩ => ⟨h.year, h.month, h.month_le, h.day, h.day_le, hrange⟩,
        fun ⟨hy, hm, hm', hd, hd', hrange⟩ => ⟨⟨hy, hm, hm', hd, hd'⟩, hrange⟩⟩
    · obtain ⟨hdate, rfl, -⟩ := dayNumber_eq_some_iff.1 h
      rw [hmonth]
      exact ⟨fun hd => dayNumber_eq_some_iff.2
          ⟨(hdate.nextDay hd).1, (hdate.nextDay hd).2, hn⟩,
        fun hd hm => dayNumber_eq_some_iff.2
          ⟨(hdate.nextMonth hd hm).1, (hdate.nextMonth hd hm).2, hn⟩,
        fun hd hm => dayNumber_eq_some_iff.2
          ⟨(hdate.nextYear hd hm).1, (hdate.nextYear hd hm).2, hn⟩⟩
  · intro y m d n h
    obtain ⟨hdate, rfl, -⟩ := dayNumber_eq_some_iff.1 h
    exact ⟨congrArg Prod.fst hdate.yearAndDay, hdate.first_iff, hdate.last_iff⟩
  · intro y m d n y' m' d' n' h h'
    obtain ⟨hdate, rfl, -⟩ := dayNumber_eq_some_iff.1 h
    obtain ⟨hdate', rfl, -⟩ := dayNumber_eq_some_iff.1 h'
    exact reckoned_lt_iff hdate hdate'
  · obtain ⟨hmultiple, hle, hlt⟩ := intervalStart_bounds t
    exact ⟨hmultiple, hle, hlt, dayOf_intervalStart t, rfl⟩

end Sys2Proof.Machine
end

section
/-! SET TIME (R41 to R45): the second that it skips, its recovery floor, and O49. -/

namespace Sys2Proof.Machine

/-! ### The second that is skipped -/

section Skip

variable (s : State)

theorem State.sampleHanded_iff :
    s.sampleHanded = true ↔ s.sec.sampleFormed = true ∧ s.sec.checkWaits = none := by
  simp [State.sampleHanded]

theorem State.marksHanded_iff :
    s.marksHanded = true ↔ s.sec.sampled = true ∧ s.sec.sampleWaits = none := by
  simp [State.marksHanded]

theorem State.scanBefore_eq : s.scanBefore = { s.scan with
    faultyA := (s.sec.before.scan.map ScanBefore.faultyA).getD s.scan.faultyA
    faultyB := (s.sec.before.scan.map ScanBefore.faultyB).getD s.scan.faultyB
    broken := (s.sec.before.scan.map ScanBefore.broken).getD s.scan.broken
    linkStale := (s.sec.before.scan.map ScanBefore.linkStale).getD s.scan.linkStale } := by
  rw [State.scanBefore]
  cases s.sec.before.scan <;> rfl

theorem State.liveBefore_eq : s.liveBefore = { s.norm with
    liveChannels := (s.sec.before.live.map LiveBefore.channels).getD s.norm.liveChannels
    liveStacks := (s.sec.before.live.map LiveBefore.marks).getD s.norm.liveStacks } := by
  rw [State.liveBefore]
  cases s.sec.before.live <;> rfl

end Skip

/-! ### The recovery floor -/

section Floor

variable {s : State}

/-- The number that a read gives where it finds its record, and 0 where it finds none. -/
theorem ReadResult.getD_eq {α : Type} {x : ReadResult α} {f : α → Nat} {n : Nat}
    (hfound : ∀ r, x = .record r → n = f r) (hnone : (∀ r, x ≠ .record r) → n = 0) :
    (x.record?.map f).getD 0 = n := by
  cases x with
  | record r => exact (hfound r rfl).symm
  | other q => exact (hnone nofun).symm
  | empty => exact (hnone nofun).symm

theorem State.recoveryFloor_of_held {p : Snapshot} (hmark : s.store.mark = true)
    (hsnap : s.store.snapshot = some p) : s.recoveryFloor = p.second := by
  rw [State.recoveryFloor, hmark, if_pos rfl, hsnap]

theorem State.recoveryFloor_of_lost (h : s.store.mark = false ∨ s.store.snapshot = none) :
    s.recoveryFloor =
      max (((s.store.event.read .event s.store.event.ptr.newest).record?.map EventRec.time).getD 0)
        (((s.store.interval.read .interval s.store.interval.ptr.newest).record?.map
          fun r => r.start + 1800).getD 0) := by
  have hnone : (if s.store.mark = true then s.store.snapshot else none) = none := by
    rcases h with h | h <;> simp [h]
  rw [State.recoveryFloor, hnone]

end Floor

/-! ### The decision -/

section Rulings

variable {s : State} {l : Link} {target ms phase : Nat}

theorem State.setTimeRuling_suspended (hms : ms ≤ 999) (hmode : s.supply.mode = .suspended) :
    s.setTimeRuling l target ms phase =
      if l = .inspection then
        if target < s.recoveryFloor then .argument
        else s.accept l (s.resumeRecovery target ms) none
      else .sequence := by
  rw [State.setTimeRuling, if_neg (Nat.not_lt.mpr hms), hmode]

theorem State.setTimeRuling_commissioning (hms : ms ≤ 999)
    (hmode : s.supply.mode = .commissioning) :
    s.setTimeRuling l target ms phase = s.accept l (s.setClock target ms).settle none := by
  rw [State.setTimeRuling, if_neg (Nat.not_lt.mpr hms), hmode]

/-- In the modes in between it is the offset that decides (R41). -/
theorem State.setTimeRuling_offset (hms : ms ≤ 999) (hsuspended : s.supply.mode ≠ .suspended)
    (hcommissioning : s.supply.mode ≠ .commissioning) :
    s.setTimeRuling l target ms phase = s.offsetRuling l target ms phase := by
  cases hmode : s.supply.mode with
  | suspended => exact absurd hmode hsuspended
  | commissioning => exact absurd hmode hcommissioning
  | enteringService => exact State.setTimeRuling_inService (.inl hmode) l target hms phase
  | recording => exact State.setTimeRuling_inService (.inr (.inl hmode)) l target hms phase
  | withdrawn => exact State.setTimeRuling_inService (.inr (.inr hmode)) l target hms phase

theorem State.offsetRuling_back (h : s.offset target ms phase < -2000) :
    s.offsetRuling l target ms phase = .argument := by
  rw [State.offsetRuling, if_neg (by omega), if_pos h]

theorem State.offsetRuling_operator (h : 2000 < s.offset target ms phase) (hl : l ≠ .inspection) :
    s.offsetRuling l target ms phase = .argument := by
  rw [State.offsetRuling, if_neg (by omega), if_neg (by omega), if_neg hl]

theorem State.offsetRuling_slew (h : -2000 ≤ s.offset target ms phase)
    (h' : s.offset target ms phase ≤ 2000) :
    s.offsetRuling l target ms phase =
      s.accept l (s.slew (s.offset target ms phase)) none := if_pos ⟨h, h'⟩

end Rulings

section Frames

variable {s u : State} {l : Link} {args : List Byte} {phase : Nat}

theorem exec_setTime_accepted (hreaches : s.reaches .setTime l args = true)
    (hrule : s.setTimeRuling l (u32 args 0) (u16 args 4) phase = s.accept l u none) :
    exec (.setTime l args phase) s =
      .next (u.withReply l ((u.port l).replying (noticeByte l s.links.marks) none)) :=
  congrArg _ (State.serve_accepted (by decide) hreaches hrule)

theorem exec_setTime_argument (hreaches : s.reaches .setTime l args = true)
    (hrule : s.setTimeRuling l (u32 args 0) (u16 args 4) phase = .argument) :
    exec (.setTime l args phase) s = .next (s.refusedWith l 0x20) :=
  congrArg _ (State.serve_argument (by decide) hreaches hrule)

theorem exec_setTime_sequence (hreaches : s.reaches .setTime l args = true)
    (hrule : s.setTimeRuling l (u32 args 0) (u16 args 4) phase = .sequence) :
    exec (.setTime l args phase) s = .next (s.refusedWith l 0x40) :=
  congrArg _ (State.serve_sequence (by decide) hreaches hrule)

end Frames

/-! ### A recovery that goes on -/

section Resume

variable {s t : State}

/-- Giving a grant back looks at, and changes, the arbiter and the ports alone. -/
theorem State.returnGrant_congr (harbiter : t.arbiter = s.arbiter) (hlinks : t.links = s.links) :
    t.returnGrant = { t with
      arbiter := s.returnGrant.arbiter
      links := s.returnGrant.links } := by
  cases hgrant : s.arbiter.grant with
  | none =>
    rw [State.returnGrant, State.returnGrant, harbiter, hgrant]
    simp only [← harbiter, ← hlinks]
  | some g =>
    rw [State.returnGrant, State.returnGrant, harbiter, hgrant]
    cases hclaim : g.claim with
    | readout l =>
      by_cases hstale : g.stale = true
      · simp only [hclaim, if_pos hstale, State.dropGrant, harbiter, hlinks]
      · simp only [hclaim, if_neg hstale, State.dropGrant, State.modPort, harbiter, hlinks]
    | op l => simp only [hclaim, State.dropGrant, State.setWaiting, State.modPort, harbiter, hlinks]
    | _ => simp only [hclaim, State.dropGrant, harbiter, hlinks]

/-- A TIME_STEP record at the end of the write queue, and the count of steps with it (R128). -/
def State.stepNoted (time old : Nat) (s : State) : State :=
  { s with recorder := { s.recorder with
      queue := s.recorder.queue ++ [.event (.plain time .timeStep old)]
      steps := min (s.recorder.steps + 1) 65535 } }

theorem State.note_timeStep_room (hroom : s.roomFor 1) (time old : Nat) :
    s.note .timeStep time old = s.stepNoted time old := by
  rw [State.note, State.writeEvent, State.offer_room hroom]
  rfl

/-- A SET TIME that resumes a recovery (R41, R159). -/
theorem State.resumeRecovery_room (hrun : s.running = true) (hroom : s.roomFor 1)
    (target ms : Nat) : s.resumeRecovery target ms = { s.returnGrant with
      time := { s.time with
        counter := target, phase := ms, pendingSlew := 0, slewStep := 0, pulseEdge := none
        clockValid := true, setMark := true }
      recorder := { s.recorder with
        queue := s.recorder.queue ++ [.event (.plain target .timeStep s.recoveryFloor)]
        steps := min (s.recorder.steps + 1) 65535 }
      attention := s.attention.raiseAll 0x0100
      supply := { s.supply with
        power := .starting, mode := s.supply.beneath, resumed := true } } := by
  have hbefore := State.returnGrant_congr (s := s) (t := s) rfl rfl
  have hafter := State.returnGrant_congr (s := s)
    (t := ((s.putTime target ms).validate.stepNoted target s.recoveryFloor).flagged flagTime) rfl rfl
  rw [State.resumeRecovery, State.note_timeStep_room (s := (s.putTime target ms).validate) hroom,
    State.raiseAll_flagged (s := ((s.putTime target ms).validate).stepNoted _ _) hrun,
    State.startAgain, hafter, hbefore]
  rfl

end Resume

/-! ### Sets and steps -/

section Steps

variable {s z : State} {old ms target : Nat}

/-- Only an edge can bring a transfer meanwhile: of any other boundary that waits just the change-over is made. -/
theorem State.meetMeanwhile_of_ne_edge {b : HeldBoundary} (h : b ≠ .edge) :
    s.meetMeanwhile b = s.finishChangeOver :=
  State.meetMeanwhile_of_other (by rw [State.transferMeanwhile, decide_eq_false h]; rfl)

theorem State.meet_of_waiting {b : HeldBoundary} (hwait : s.boundaryWaits = true) (h : b ≠ .edge) :
    s.meet b = s.finishChangeOver.beginSecond.hold b := by
  rw [State.meet, if_pos hwait, State.meetMeanwhile_of_ne_edge h]

/-- A set in COMMISSIONING makes the change-over at once (R13, R42). -/
theorem State.meet_set : s.meet .set = if s.boundaryWaits = true then
    s.finishChangeOver.beginSecond.hold .set else s.finishChangeOver.beginSecond := by
  by_cases hwait : s.boundaryWaits = true
  · rw [State.meet_of_waiting hwait HeldBoundary.noConfusion, if_pos hwait]
  · rw [State.meet_of_free (Bool.not_eq_true _ ▸ hwait), if_neg hwait]
    rfl

/-- Whether a boundary waits is seen from the arbiter and the operations in flight. -/
theorem State.boundaryWaits_congr (harbiter : z.arbiter = s.arbiter) (hlinks : z.links = s.links) :
    z.boundaryWaits = s.boundaryWaits := by
  simp only [State.boundaryWaits, State.committed, State.opCmd, State.port, harbiter, hlinks]

/-- A step within the open interval, or in a mode with none (R43). -/
theorem State.stepRecording_within (hroom : s.roomFor 1) (hwithin : s.supply.mode = .recording →
    s.openInterval old = intervalStart s.time.counter) :
    s.stepRecording old ms = { s with recorder := { s.recorder with
      accSets := if s.supply.mode = .recording then
          markSet (intervalStart s.time.counter) true false s.recorder.accSets
        else s.recorder.accSets
      queue := s.recorder.queue ++ [.event (.plain s.time.counter .timeStep old)]
      steps := min (s.recorder.steps + 1) 65535 } } := by
  by_cases hmode : s.supply.mode = .recording
  · rw [State.stepRecording, if_pos hmode, if_pos (hwithin hmode), if_pos hmode]
    exact State.note_timeStep_room (s := s.truncate _) hroom _ _
  · rw [State.stepRecording, if_neg hmode, State.note_timeStep_room hroom, if_neg hmode]
    rfl

/-- The part at the target of a step: the second in progress is skipped, and TIME is raised. -/
def State.steppedTo (target ms : Nat) (s : State) : State :=
  (s.skipSecond.putTime target ms).flagged flagTime

/-- The part at the target of a set, where the clock becomes valid too (R37, R42). -/
def State.setTo (target ms : Nat) (s : State) : State :=
  (s.skipSecond.putTime target ms).validate.flagged flagTime

theorem State.setClock_meets (hrun : s.running = true) :
    s.setClock target ms = (s.passHeld.setTo target ms).meet .set := by
  have hrunning : (s.passHeld.skipSecond.putTime target ms).validate.running = true :=
    (congrArg (· == Power.running) s.passHeld_power).trans hrun
  rw [State.setClock, State.raiseAll_flagged hrunning]
  rfl

theorem State.forwardStep_meets (hrun : s.running = true) :
    s.forwardStep target ms = (s.passHeld.steppedTo target ms).meet (.step s.time.counter ms) := by
  have hrunning : (s.passHeld.skipSecond.putTime target ms).running = true :=
    (congrArg (· == Power.running) s.passHeld_power).trans hrun
  rw [State.forwardStep, State.raiseAll_flagged hrunning]
  rfl

end Steps

/-- Settles O49: the first row that applies decides; a set and a step make the change-over, and their boundary is
crossed or waits. -/
theorem setTimeIsDecided : Obligations.SetTimeIsDecided := by
  refine ⟨?_, ?_, ?_⟩
  · rintro s p k b t l args phase target ms offset clock sec hreaches rfl rfl hp rfl hb hoffset
      hclock hsec
    have hrun : s.running = true := State.running_of_reaches (by decide) hreaches
    have hoffset : s.offset (u32 args 0) (u16 args 4) phase = offset := hoffset.symm
    have hwaits : ∀ z : State, z.arbiter = p.arbiter → z.links = p.links →
        z.boundaryWaits = p.boundaryWaits := fun z => State.boundaryWaits_congr
    obtain ⟨scan, units, config, hsynth, hactive, hover⟩ := p.skipSecond.finishChangeOver_shape
    rw [hover p.skipSecond rfl rfl rfl] at hb
    have hlocked : decide (scan.synth = .locked) = decide (p.scan.synth = .locked) := by
      rw [hsynth, State.skipSecond_synth]
    have htables : config.active = p.config.active := hactive
    refine ⟨fun hlarge => ?_, fun hsmall hmode => ⟨?_, ?_, ?_⟩, fun hsmall hmode ht => ?_,
      fun hsmall hsuspended hcommissioning => ?_⟩
    · exact exec_setTime_argument hreaches (if_pos hlarge)
    · rintro rfl
      exact exec_setTime_sequence hreaches
        ((State.setTimeRuling_suspended hsmall hmode).trans (if_neg nofun))
    · rintro rfl hfloor
      exact exec_setTime_argument hreaches ((State.setTimeRuling_suspended hsmall hmode).trans
        ((if_pos rfl).trans (if_pos hfloor)))
    · rintro rfl hfloor hroom ht
      rw [exec_setTime_accepted hreaches ((State.setTimeRuling_suspended hsmall hmode).trans
        ((if_pos rfl).trans (if_neg (Nat.not_lt.mpr hfloor)))),
        State.resumeRecovery_room hrun hroom, ht]
      rfl
    · rw [exec_setTime_accepted hreaches (State.setTimeRuling_commissioning hsmall hmode),
        State.setClock_meets hrun, ← hp, State.meet_set, hover (p.setTo _ _) rfl rfl rfl,
        hwaits (p.setTo _ _) rfl rfl, ht, hb, hsec, hclock, ← hlocked, ← htables]
      cases p.boundaryWaits <;> rfl
    · have hrule := State.setTimeRuling_offset (l := l) (target := u32 args 0) (phase := phase)
        hsmall hsuspended hcommissioning
      refine ⟨fun hback => ?_, fun hfar hl => ?_, fun hlow hhigh ht => ?_, ?_, ?_⟩
      · exact exec_setTime_argument hreaches
          (hrule.trans (State.offsetRuling_back (hoffset.symm ▸ hback)))
      · exact exec_setTime_argument hreaches
          (hrule.trans (State.offsetRuling_operator (hoffset.symm ▸ hfar) (hl ▸ nofun)))
      · rw [exec_setTime_accepted hreaches (hrule.trans (State.offsetRuling_slew
          (hoffset.symm ▸ hlow) (hoffset.symm ▸ hhigh))), hoffset, ht]
        rfl
      · rintro hfar rfl hfree hroom hwithin ht
        have hstep := State.stepRecording_within (old := s.time.counter) (ms := u16 args 4)
          (s := { p.steppedTo (u32 args 0) (u16 args 4) with
            scan := scan, stackUnits := units, config := config }) hroom hwithin
        rw [exec_setTime_accepted hreaches (State.setTimeRuling_forward hsmall hcommissioning
            hsuspended (hoffset.symm ▸ hfar)), State.forwardStep_meets hrun,
          ← hp, State.meet_of_free ((hwaits (p.steppedTo _ _) rfl rfl).trans hfree), State.cross,
          hover (p.steppedTo _ _) rfl rfl rfl, hstep, ht, hb, hsec, hclock, ← hlocked, ← htables]
        rfl
      · rintro hfar rfl hwait ht
        rw [exec_setTime_accepted hreaches (State.setTimeRuling_forward hsmall hcommissioning
            hsuspended (hoffset.symm ▸ hfar)), State.forwardStep_meets hrun,
          ← hp, State.meet_of_waiting ((hwaits (p.steppedTo _ _) rfl rfl).trans hwait)
            HeldBoundary.noConfusion,
          hover (p.steppedTo _ _) rfl rfl rfl, ht, hb, hsec, hclock, ← hlocked, ← htables]
        rfl
  · rintro s found rfl
    have hsamples := if_congr (s.sampleHanded_iff) (rfl : s.norm.samples.dropLast = _)
      (rfl : s.norm.samples = _)
    have hmarks := if_congr (s.marksHanded_iff) (rfl : s.norm.stackSets.dropLast = _)
      (rfl : s.norm.stackSets = _)
    rw [State.skipSecond, State.forgetSecond, State.scanBefore_eq, State.liveBefore_eq,
      State.dropSecond, hsamples, hmarks, State.stacksBefore, State.runningBefore, State.setsBefore]
    cases s.sec.before.units <;> cases s.sec.before.live <;> cases s.sec.before.sums <;> rfl
  · intro s e i hevent hnoEvent hinterval hnoInterval
    refine ⟨fun _ => State.recoveryFloor_of_held, fun hlost => ?_⟩
    rw [State.recoveryFloor_of_lost hlost, ReadResult.getD_eq hevent hnoEvent,
      ReadResult.getD_eq hinterval hnoInterval]

end Sys2Proof.Machine
end

section
/-! The reference discipline (R38 to R40), and O52. -/

namespace Sys2Proof.Machine

/-- The time base is replaced. -/
def State.clocked (clock : TimeBase) (s : State) : State := { s with time := clock }

section Pulses

variable {s : State} {p e : Nat} {offset slew : Int}

theorem State.disciplined_of_power
    (h : s.supply.power = .running ∨ s.supply.power = .snapshotting) : s.disciplined = true := by
  rw [State.disciplined]
  rcases h with h | h <;> rw [h]

theorem State.not_starting_of_power
    (h : s.supply.power = .running ∨ s.supply.power = .snapshotting) :
    s.supply.power ≠ .starting := by
  rcases h with h | h <;> rw [h] <;> exact nofun

/-- The time base changes, and an event record that raises no count and TIME say so: outside STARTING, with room for
the record. -/
theorem State.clocked_recorded (hpower : s.supply.power ≠ .starting) (hroom : s.roomFor 1)
    {clock : TimeBase} {r : EventRec} (hstep : r.kind ≠ .timeStep) (hrestart : r.kind ≠ .restart) :
    ((s.clocked clock).writeEvent r).raiseAll flagTime = { s with
      time := clock
      recorder := { s.recorder with queue := s.recorder.queue ++ [.event r] }
      attention := s.attention.raiseAll 0x0100 } := by
  rw [State.writeEvent_room (s := s.clocked clock) hroom r hstep hrestart]
  exact State.raiseAll_of_not_starting (s := (s.clocked clock).queued _) hpower flagTime

/-- A pulse within the second in progress is taken at its own millisecond (R38). -/
theorem State.pulseNow_within (hreached : s.time.phase ≤ p)
    (hlength : (p : Int) ≤ 1000 - s.time.slewStep) : s.pulseNow p = p := by
  rw [State.pulseNow]
  omega

/-- The edge that owns a pulse, its offset, and the pending slew that it leaves (R38). -/
theorem TimeBase.pulse_and_slew {t : TimeBase}
    (h : p < 500 ∧ e = t.counter ∧ offset = -(p : Int) ∧ slew = offset - t.slewStep ∨
      500 ≤ p ∧ e = t.counter + 1 ∧ offset = max 0 (min 500 (1000 - t.slewStep - p)) ∧
        slew = offset) :
    t.pulse p = (e, offset) ∧ t.slewAfter p = slew := by
  rcases h with ⟨hp, rfl, rfl, rfl⟩ | ⟨hp, rfl, rfl, rfl⟩
  · simp only [TimeBase.slewAfter, TimeBase.pulse, if_pos hp, and_self]
  · simp only [TimeBase.slewAfter, TimeBase.pulse, if_neg (Nat.not_lt.mpr hp), and_self]

theorem exec_trefPulse (hpower : s.supply.power = .running ∨ s.supply.power = .snapshotting)
    (hnow : s.pulseNow p = p) :
    exec (.trefPulse p) s = .next ((s.reachPhase p).takePulse p).settle := by
  show Host.Outcome.next _ = _
  rw [if_pos (State.disciplined_of_power hpower), hnow]

theorem State.takePulse_bad (hpulse : s.time.pulse p = (e, offset))
    (hedge : s.time.pulseEdge = some e) : s.takePulse p = s.badPulse := by
  rw [State.takePulse, hpulse, if_pos hedge]

/-- The first pulse of a window (R38). -/
theorem State.takePulse_first (hpulse : s.time.pulse p = (e, offset))
    (hedge : s.time.pulseEdge ≠ some e) (hmax : e ≤ 4294967295) :
    s.takePulse p = s.referencePulse p := by
  rw [State.takePulse, hpulse, if_neg hedge]
  exact if_neg (Nat.not_lt.mpr hmax)

theorem State.referencePulse_tracking (hpulse : s.time.pulse p = (e, offset))
    (hslew : s.time.slewAfter p = slew) (href : s.time.reference = .tracking) :
    s.referencePulse p = { s with time := { s.time with
      pulseEdge := some e, missed := 0, pendingSlew := slew } } := by
  rw [State.referencePulse, href, hpulse, hslew]

/-- A pulse that regains the reference (R39). -/
theorem State.referencePulse_regains (hpower : s.supply.power ≠ .starting)
    (hpulse : s.time.pulse p = (e, offset)) (hslew : s.time.slewAfter p = slew)
    (href : s.time.reference = .noReference) (hroom : s.roomFor 1) :
    s.referencePulse p = { s with
      time := { s.time with
        pulseEdge := some e, missed := 0, badPulses := 0
        reference := .tracking, pendingSlew := slew }
      recorder := { s.recorder with queue := s.recorder.queue ++ [.event {
        time := e, kind := .referenceRegained, stack := none, channel := none
        argument := BitVec.ofInt 32 offset }] }
      attention := s.attention.raiseAll 0x0100 } := by
  rw [State.referencePulse, href, hpulse, hslew]
  refine State.clocked_recorded hpower hroom ?_ ?_ <;> exact nofun

end Pulses

section Windows

variable {s : State}

theorem exec_referenceWindowClose_taken
    (hpower : s.supply.power = .running ∨ s.supply.power = .snapshotting)
    (hedge : s.time.pulseEdge = some s.time.counter) :
    exec .referenceWindowClose s = .next (s.reachPhase 500).settle := by
  show Host.Outcome.next _ = _
  rw [if_pos (State.disciplined_of_power hpower), if_pos hedge]

theorem exec_referenceWindowClose_missed
    (hpower : s.supply.power = .running ∨ s.supply.power = .snapshotting)
    (hedge : s.time.pulseEdge ≠ some s.time.counter) :
    exec .referenceWindowClose s = .next (s.reachPhase 500).missPulse.settle := by
  show Host.Outcome.next _ = _
  rw [if_pos (State.disciplined_of_power hpower), if_neg hedge]

theorem State.missPulse_noReference (h : s.time.reference = .noReference) : s.missPulse = s := by
  rw [State.missPulse, h]

theorem State.missPulse_counts (h : s.time.reference = .tracking) (hmissed : s.time.missed ≤ 1) :
    s.missPulse = { s with time := { s.time with missed := s.time.missed + 1 } } := by
  rw [State.missPulse, h]
  exact if_pos (by omega)

/-- The third window in a row without a pulse loses the reference (R39). -/
theorem State.missPulse_loses (hpower : s.supply.power ≠ .starting)
    (h : s.time.reference = .tracking) (hmissed : s.time.missed = 2) (hroom : s.roomFor 1) :
    s.missPulse = { s with
      time := { s.time with missed := 3, reference := .noReference }
      recorder := { s.recorder with queue := s.recorder.queue ++
        [.event (.plain s.time.counter .referenceLost s.time.badPulses)] }
      attention := s.attention.raiseAll 0x0100 } := by
  rw [State.missPulse, h]
  simp only [if_neg (show ¬ s.time.missed + 1 < 3 by omega)]
  refine State.clocked_recorded hpower hroom ?_ ?_ <;> exact nofun

end Windows

/-- Settles O52: the pulse is its window's first or a further one, and a window without one is counted. -/
theorem referencePulsesSetTheSlew : Obligations.ReferencePulsesSetTheSlew := by
  refine ⟨?_, ?_⟩
  · rintro s t p e phase offset slew hpower hreached hlength rfl hmax hcase
    obtain ⟨hpulse, hslew⟩ := TimeBase.pulse_and_slew hcase
    have hedgeMax : e ≤ 4294967295 := by omega
    rw [exec_trefPulse hpower (State.pulseNow_within hreached hlength)]
    refine ⟨fun hedge ht => ?_, fun hedge href ht => ?_, fun hedge href hroom ht => ?_⟩
    · rw [State.takePulse_bad (s := s.reachPhase p) hpulse hedge, ht]
      rfl
    · rw [State.takePulse_first (s := s.reachPhase p) hpulse hedge hedgeMax,
        State.referencePulse_tracking (s := s.reachPhase p) hpulse hslew href, ht]
      rfl
    · rw [State.takePulse_first (s := s.reachPhase p) hpulse hedge hedgeMax,
        State.referencePulse_regains (s := s.reachPhase p) (State.not_starting_of_power hpower)
          hpulse hslew href hroom, ht]
      rfl
  · rintro s t phase hpower rfl -
    refine ⟨fun htaken ht => ?_, fun hedge href => ⟨fun hmissed ht => ?_, fun hmissed hroom ht => ?_⟩⟩
    · by_cases hedge : s.time.pulseEdge = some s.time.counter
      · rw [exec_referenceWindowClose_taken hpower hedge, ht]
        rfl
      · rw [exec_referenceWindowClose_missed hpower hedge, State.missPulse_noReference
          (s := s.reachPhase 500) (htaken.resolve_left hedge), ht]
        rfl
    · rw [exec_referenceWindowClose_missed hpower hedge,
        State.missPulse_counts (s := s.reachPhase 500) href hmissed, ht]
      rfl
    · rw [exec_referenceWindowClose_missed hpower hedge, State.missPulse_loses
        (s := s.reachPhase 500) (State.not_starting_of_power hpower) href hmissed hroom, ht]
      rfl

end Sys2Proof.Machine
end

section
/-! The provisional day table rebuilt from the interval ring (R161). -/

namespace Sys2Proof.Machine

/-! ### The records that are read back -/

/-- What a rebuild reads: a record numbered within bounds, with no record of a closed day from it to the newest. -/
structure ReadsBack (ring : Ring IntervalRec) (closed : Option Nat) (oldest newest q : Nat)
    (r : IntervalRec) : Prop where
  oldest_le : oldest ≤ q
  le_newest : q ≤ newest
  read : ring.read .interval q = .record r
  opens : ∀ n x, q ≤ n → n ≤ newest → ring.read .interval n = .record x →
    closedBy closed (dayOf x.start) = false

theorem closedBy_eq_false_iff {closed : Option Nat} {day : Nat} :
    closedBy closed day = false ↔ ∀ d, closed = some d → d < day := by
  cases closed <;> simp [closedBy]

theorem ReadResult.record?_eq_some_iff {α : Type} {x : ReadResult α} {v : α} :
    x.record? = some v ↔ x = .record v := by
  cases x <;> simp [ReadResult.record?]

section Reading

variable {ring : Ring IntervalRec} {closed : Option Nat}

/-- A place that holds no record, or one of an open day, is passed on the way down. -/
theorem readsBack_step {n q x : Nat} {r : IntervalRec} (hn : n ≤ q)
    (hopen : ∀ y, ring.read .interval q = .record y → closedBy closed (dayOf y.start) = false) :
    ReadsBack ring closed (q - n) q x r ↔
      x = q ∧ ring.read .interval q = .record r ∨
        ReadsBack ring closed (q - 1 + 1 - n) (q - 1) x r := by
  constructor
  · rintro ⟨hlow, hhigh, hread, hopens⟩
    by_cases hx : x = q
    · exact .inl ⟨hx, hx ▸ hread⟩
    · exact .inr ⟨by omega, by omega, hread, fun m y hm hm' => hopens m y hm (by omega)⟩
  · rintro (⟨rfl, hread⟩ | ⟨hlow, hhigh, hread, hopens⟩)
    · refine ⟨Nat.sub_le .., Nat.le_refl _, hread, fun m y hm hm' hy => hopen y ?_⟩
      rwa [Nat.le_antisymm hm' hm] at hy
    · refine ⟨by omega, by omega, hread, fun m y hm hm' hy => ?_⟩
      by_cases hq : m = q
      · exact hopen y (hq ▸ hy)
      · exact hopens m y hm (by omega) hy

/-- The records that a rebuild reads (R161). -/
theorem mem_readBack {x : Nat} {r : IntervalRec} (n : Nat) : ∀ (q : Nat)
    (acc : List (Nat × IntervalRec)), n ≤ q + 1 →
    ((x, r) ∈ readBack ring closed n q acc ↔
      (x, r) ∈ acc ∨ ReadsBack ring closed (q + 1 - n) q x r) := by
  induction n with
  | zero =>
    intro q acc _
    refine ⟨.inl, fun h => h.resolve_right fun h => ?_⟩
    have hlow := h.oldest_le
    have hhigh := h.le_newest
    omega
  | succ n ih =>
    intro q acc hn
    have hlow : q + 1 - (n + 1) = q - n := by omega
    rw [readBack, hlow]
    cases hread : (ring.read .interval q).record? with
    | none =>
      have hnone : ∀ y, ring.read .interval q ≠ .record y := fun y h => by
        rw [ReadResult.record?_eq_some_iff.2 h] at hread
        exact absurd hread nofun
      show (x, r) ∈ readBack ring closed n (q - 1) acc ↔ _
      rw [ih _ _ (by omega), readsBack_step (by omega) fun y h => absurd h (hnone y)]
      exact or_congr_right ⟨.inr, fun h => h.resolve_left fun h => hnone r h.2⟩
    | some y =>
      have hy := ReadResult.record?_eq_some_iff.1 hread
      by_cases hclosed : closedBy closed (dayOf y.start) = true
      · simp only [if_pos hclosed]
        refine ⟨.inl, fun h => h.resolve_right fun h => ?_⟩
        have hopen := h.opens q y h.le_newest (Nat.le_refl _) hy
        exact Bool.false_ne_true (hopen.symm.trans hclosed)
      · simp only [if_neg hclosed]
        rw [ih _ _ (by omega), readsBack_step (by omega), List.mem_cons, or_comm (b := _ ∈ acc),
          or_assoc]
        · refine or_congr_right (or_congr_left ?_)
          rw [hy, Prod.mk.injEq, ReadResult.record.injEq, eq_comm (a := r)]
        · intro z hz
          rw [hy] at hz
          obtain rfl := ReadResult.record.inj hz
          exact Bool.not_eq_true _ ▸ hclosed

/-- They are read from the newest down, and stand oldest first. -/
theorem pairwise_readBack (n : Nat) : ∀ (q : Nat) (acc : List (Nat × IntervalRec)), n ≤ q + 1 →
    (∀ y ∈ acc, 0 < n → q < y.1) → acc.Pairwise (fun a b => a.1 < b.1) →
    (readBack ring closed n q acc).Pairwise fun a b => a.1 < b.1 := by
  induction n with
  | zero => exact fun _ _ _ _ hacc => hacc
  | succ n ih =>
    intro q acc hn hlt hacc
    have habove : ∀ y ∈ acc, q < y.1 := fun y hy => hlt y hy (Nat.succ_pos _)
    rw [readBack]
    cases (ring.read .interval q).record? with
    | none =>
      exact ih _ _ (by omega) (fun y hy _ => Nat.lt_of_le_of_lt (Nat.sub_le ..) (habove y hy)) hacc
    | some r =>
      by_cases hclosed : closedBy closed (dayOf r.start) = true
      · simp only [if_pos hclosed]
        exact hacc
      · simp only [if_neg hclosed]
        refine ih _ _ (by omega) (fun y hy hpos => ?_) (List.pairwise_cons.2 ⟨habove, hacc⟩)
        rcases List.mem_cons.1 hy with rfl | hy
        · show q - 1 < q
          omega
        · exact Nat.lt_of_le_of_lt (Nat.sub_le ..) (habove y hy)

end Reading

/-! ### The days that they join -/

section Table

variable {t : Tables} {table : List ProvDay}

/-- A day joins in date order. -/
theorem pairwise_days_joinDay (d : Nat) (h : (days table).Pairwise (· < ·)) :
    (days (joinDay d table)).Pairwise (· < ·) := by
  induction table with
  | nil => exact List.pairwise_singleton _ _
  | cons p rest ih =>
    obtain ⟨hp, hrest⟩ := List.pairwise_cons.1 h
    rw [joinDay]
    split
    · next hlt =>
      refine List.pairwise_cons.2 ⟨fun x hx => ?_, h⟩
      rcases List.mem_cons.1 hx with rfl | hx
      · exact hlt
      · exact hlt.trans (hp x hx)
    · split
      · exact h
      · refine List.pairwise_cons.2 ⟨fun x hx => ?_, ih hrest⟩
        rcases (mem_days_joinDay rest d x).1 hx with rfl | hx
        · omega
        · exact hp x hx

theorem days_rebuildWith (p : Nat × IntervalRec) :
    days (rebuildWith t table p) = days (joinDay (dayOf p.2.start) table) :=
  days_modEntry _ _ _ _

theorem pairwise_days_rebuilt (read : List (Nat × IntervalRec)) : ∀ table : List ProvDay,
    (days table).Pairwise (· < ·) → (days (read.foldl (rebuildWith t) table)).Pairwise (· < ·) := by
  induction read with
  | nil => exact fun _ h => h
  | cons p read ih =>
    intro table h
    exact ih _ (by rw [days_rebuildWith]; exact pairwise_days_joinDay _ h)

theorem mem_days_rebuilt (x : Nat) (read : List (Nat × IntervalRec)) : ∀ table : List ProvDay,
    x ∈ days (read.foldl (rebuildWith t) table) ↔
      x ∈ days table ∨ ∃ p ∈ read, dayOf p.2.start = x := by
  induction read with
  | nil => simp
  | cons p read ih =>
    intro table
    rw [List.foldl_cons, ih, days_rebuildWith, mem_days_joinDay, List.exists_mem_cons_iff,
      or_comm (a := x = _), or_assoc, eq_comm (a := x)]

theorem lastDay_eq : lastDay table = (days table).getLast? := List.getLast?_map.symm

/-- The latest day of a table in date order. -/
theorem lastDay_of_max {last : Nat} (h : (days table).Pairwise (· < ·)) (hmem : last ∈ days table)
    (hmax : ∀ x ∈ days table, x ≤ last) : lastDay table = some last := by
  rw [lastDay_eq]
  rcases List.eq_nil_or_concat (days table) with hnil | ⟨before, z, heq⟩
  · rw [hnil] at hmem
    exact absurd hmem List.not_mem_nil
  · rw [List.concat_eq_append] at heq
    rw [heq] at h hmem hmax ⊢
    rw [List.getLast?_concat]
    have hz : z ≤ last := hmax z (by simp)
    rcases List.mem_append.1 hmem with hbefore | hlast
    · have hlt := (List.pairwise_append.1 h).2.2 last hbefore z (by simp)
      omega
    · rw [List.mem_singleton.1 hlast]

/-- Its earliest day. -/
theorem head_day_of_min {first : Nat} (h : (days table).Pairwise (· < ·))
    (hmem : first ∈ days table) (hmin : ∀ x ∈ days table, first ≤ x) :
    (table.head?).map ProvDay.day = some first := by
  cases table with
  | nil => exact absurd hmem List.not_mem_nil
  | cons p rest =>
    have hp := hmin p.day (List.mem_cons_self ..)
    rcases List.mem_cons.1 hmem with rfl | hrest
    · rfl
    · have hlt := (List.pairwise_cons.1 h).1 first hrest
      omega

theorem joinDays_eq_foldl (n : Nat) : ∀ (first : Nat) (table : List ProvDay),
    joinDays first n table =
      (List.range n).foldl (fun t k => joinDay (first + k) t) table := by
  induction n with
  | zero => exact fun _ _ => rfl
  | succ n ih =>
    intro first table
    simp only [joinDays, ih, List.range_succ_eq_map, List.foldl_cons, List.foldl_map, Nat.add_zero,
      Nat.succ_eq_add_one, Nat.add_assoc, Nat.add_comm 1]

theorem tick_eq (b : Bool) (n : Nat) : tick b n = n + b.toNat := by
  cases b <;> rfl

/-- A record read back contributes as at its close, and its annotation and its exceedance are kept with it. -/
theorem DayEntry.recontribute_eq (t : Tables) (q : Nat) (r : IntervalRec) (e : DayEntry) :
    e.recontribute t q r = { e.contribute r (.stored q) with
      annotated := e.annotated + r.annotated.toNat
      map := (e.contribute r (.stored q)).map.modify (intervalOfDay r.start) fun m =>
        { m with exceededAtClose := closedExceeded t r } } := by
  rw [← tick_eq]
  rfl

/-- The records that a rebuild reads. -/
def rebuildReads (ring : Ring IntervalRec) (closed : Option Nat) : List (Nat × IntervalRec) :=
  readBack ring closed (ring.ptr.newest + 1 - ring.ptr.oldest) ring.ptr.newest []

section Rebuilt

variable {ring : Ring IntervalRec} {closed : Option Nat}

theorem mem_rebuildReads {q : Nat} {r : IntervalRec} : (q, r) ∈ rebuildReads ring closed ↔
    ReadsBack ring closed ring.ptr.oldest ring.ptr.newest q r := by
  rw [rebuildReads, mem_readBack _ _ _ (Nat.sub_le ..), or_iff_right List.not_mem_nil]
  exact ⟨fun ⟨hlow, hhigh, hread, hopens⟩ => ⟨by omega, hhigh, hread, hopens⟩,
    fun ⟨hlow, hhigh, hread, hopens⟩ => ⟨by omega, hhigh, hread, hopens⟩⟩

theorem pairwise_rebuildReads :
    (rebuildReads ring closed).Pairwise fun a b => a.1 < b.1 :=
  pairwise_readBack _ _ _ (Nat.sub_le ..) (fun _ h => absurd h List.not_mem_nil) List.Pairwise.nil

theorem rebuildTable_of_lastDay {rebuilt : List ProvDay}
    (hrebuilt : (rebuildReads ring closed).foldl (rebuildWith t) [] = rebuilt) :
    (lastDay rebuilt = none → rebuildTable t ring closed = []) ∧
      ∀ last, lastDay rebuilt = some last → rebuildTable t ring closed =
        recountAnnulled (joinDays (firstRebuilt closed rebuilt)
          (last + 1 - firstRebuilt closed rebuilt) rebuilt) := by
  subst hrebuilt
  rw [rebuildReads, rebuildTable]
  refine ⟨fun h => ?_, fun last h => ?_⟩ <;> simp only [h]

theorem rebuildTable_of_nil (h : rebuildReads ring closed = []) :
    rebuildTable t ring closed = [] :=
  (rebuildTable_of_lastDay (t := t) rfl).1 (by rw [h]; rfl)

/-- The table that its records rebuild (R161). -/
theorem rebuildTable_of_days {read : List (Nat × IntervalRec)} {rebuilt : List ProvDay}
    {first last : Nat} (hread : rebuildReads ring closed = read)
    (hrebuilt : read.foldl (rebuildWith t) [] = rebuilt)
    (hlast : ∃ x ∈ read, dayOf x.2.start = last) (hmax : ∀ x ∈ read, dayOf x.2.start ≤ last)
    (hclosed : ∀ d, closed = some d → first = d + 1)
    (hopen : closed = none → (∃ x ∈ read, dayOf x.2.start = first) ∧
      ∀ x ∈ read, first ≤ dayOf x.2.start) :
    rebuildTable t ring closed = recountAnnulled (joinDays first (last + 1 - first) rebuilt) := by
  have hsorted : (days rebuilt).Pairwise (· < ·) := hrebuilt ▸ pairwise_days_rebuilt read [] .nil
  have hmem : ∀ x, x ∈ days rebuilt ↔ ∃ p ∈ read, dayOf p.2.start = x := fun x => by
    rw [← hrebuilt, mem_days_rebuilt]
    exact or_iff_right List.not_mem_nil
  have hlastDay : lastDay rebuilt = some last := by
    refine lastDay_of_max hsorted ((hmem _).2 hlast) fun x hx => ?_
    obtain ⟨p, hp, rfl⟩ := (hmem x).1 hx
    exact hmax p hp
  have hfirst : firstRebuilt closed rebuilt = first := by
    cases closed with
    | some d => exact (hclosed d rfl).symm
    | none =>
      obtain ⟨hin, hmin⟩ := hopen rfl
      have hhead := head_day_of_min hsorted ((hmem _).2 hin) fun x hx => by
        obtain ⟨p, hp, rfl⟩ := (hmem x).1 hx
        exact hmin p hp
      rw [firstRebuilt, hhead]
      rfl
  rw [(rebuildTable_of_lastDay (hread ▸ hrebuilt)).2 last hlastDay, hfirst]

end Rebuilt

end Table

end Sys2Proof.Machine
end

section
/-! HALT_END: what a recovery begins with, and what it takes up from a snapshot or from the store (R37, R60, R61,
R133, R159 to R161), and O59. -/

namespace Sys2Proof.Machine

/-! ### The beginning -/

section Clock

variable {s : State}

theorem State.decideClock_lost (h : s.supply.backupLost = true) :
    s.decideClock.time.counter = 0 ∧ s.decideClock.time.phase = 0 ∧
      s.decideClock.time.clockValid = false ∧ s.decideClock.time.setMark = false := by
  simp only [State.decideClock, h, if_true, Bool.not_true, Bool.and_false, and_self]

theorem State.decideClock_kept (h : s.supply.backupLost = false) :
    s.decideClock.time.counter = s.time.counter ∧ s.decideClock.time.phase = s.time.phase ∧
      s.decideClock.time.clockValid = s.time.setMark ∧
      s.decideClock.time.setMark = s.time.setMark := by
  simp only [State.decideClock, h, Bool.false_eq_true, if_false, Bool.not_false, Bool.and_true,
    and_self]

/-- The part as it is when a recovery looks for what it holds. -/
def State.woken (passes : Bool) (s : State) : State := (s.selfTest passes).decideClock.clearScan

theorem exec_haltEnd_halt (h : s.supply.power = .halt) (passes : Bool) :
    exec (.haltEnd passes) s = .next ((s.woken passes).takeUp.enterStarting s.governing) := by
  show Host.Outcome.next _ = _
  rw [h]
  rfl

end Clock

/-! ### What is taken up -/

/-- What a recovery leaves as it was when it takes up its state, and what it empties all the same (R115, R144,
R162). -/
structure State.TakesUp (s t : State) : Prop where
  time : t.time = s.time
  scan : t.scan = s.scan
  sec : t.sec = s.sec
  norm : t.norm = s.norm
  supply : t.supply = s.supply
  fault : t.store.fault = s.store.fault
  area : t.store.area = s.store.area
  mark : t.store.mark = s.store.mark
  tally : t.store.tally = s.store.tally
  cell : ∀ r n, t.store.cell r n = s.store.cell r n
  armed : ∀ r, t.store.armed r = true
  handed : t.recorder.handed = []
  work : t.recorder.work = []
  marks : t.links.marks = .none
  arbiter : t.arbiter = State.reset.arbiter
  port : ∀ l, ∃ o, t.port l = (s.port l).restarted o

section TakeUp

variable {s : State}

theorem State.restore_takesUp (p : Snapshot) (ops : List (Option OpSnapshot)) :
    s.TakesUp ((s.restore p).restartLinks ops) :=
  ⟨rfl, rfl, rfl, rfl, rfl, rfl, rfl, rfl, rfl, fun r _ => by cases r <;> rfl,
    fun r => by cases r <;> rfl, rfl, rfl, rfl, rfl, fun l => by cases l <;> exact ⟨_, rfl⟩⟩

theorem State.rebuild_takesUp (ops : List (Option OpSnapshot)) :
    s.TakesUp (s.rebuild.restartLinks ops) :=
  ⟨rfl, rfl, rfl, rfl, rfl, rfl, rfl, rfl, rfl, fun r _ => by cases r <;> rfl,
    fun r => by cases r <;> rfl, rfl, rfl, rfl, rfl, fun l => by cases l <;> exact ⟨_, rfl⟩⟩

theorem State.takeUp_takesUp (s : State) : s.TakesUp s.takeUp := by
  rw [State.takeUp]
  cases s.store.held with
  | none => exact State.rebuild_takesUp _
  | some p => exact State.restore_takesUp p _

theorem LinkPort.restarted_silent (p : LinkPort) (o : Option OpSnapshot) :
    (p.restarted o).recv = .idle ∧ (p.restarted o).op = none ∧ (p.restarted o).readout = none ∧
      (p.restarted o).last.map OpResult.outcome = some .restart :=
  ⟨rfl, p.silenced_op, rfl, rfl⟩

theorem Store.held_of_mark {st : Store} {p : Snapshot} (hmark : st.mark = true)
    (hsnap : st.snapshot = some p) : st.held = some p := by
  rw [Store.held, if_pos hmark, hsnap]

theorem Store.held_of_lost {st : Store} (h : st.mark = false ∨ st.snapshot = none) :
    st.held = none := by
  rw [Store.held]
  rcases h with h | h <;> simp [h]

theorem State.governing_of_held {p : Snapshot} (h : s.store.held = some p) :
    s.governing = p.mode := by
  rw [State.governing, h]

theorem State.governing_of_lost (h : s.store.held = none) : s.governing = s.store.area.mode := by
  rw [State.governing, h]

theorem State.takeUp_woken_of_held {p : Snapshot} (h : s.store.held = some p) (passes : Bool) :
    (s.woken passes).takeUp = ((s.woken passes).restore p).restartLinks p.ops := by
  rw [State.takeUp, show (s.woken passes).store.held = some p from h]

theorem State.takeUp_woken_of_lost (h : s.store.held = none) (passes : Bool) :
    (s.woken passes).takeUp = (s.woken passes).rebuild.restartLinks [] := by
  rw [State.takeUp, show (s.woken passes).store.held = none from h]

theorem State.restored_active (p : Snapshot) (s : State) : (s.restore p).config.active =
    match p.tables with
    | some x => x.1
    | none => s.store.area.tables := by
  cases h : p.tables <;> simp [State.restore, State.restoreConfig, h]

theorem State.restored_stage (p : Snapshot) (s : State) : (s.restore p).config.stage =
    match p.tables with
    | some x => x.2
    | none => s.store.area.stage := by
  cases h : p.tables <;> simp [State.restore, State.restoreConfig, h]

/-- The interval ring as a recovery without a snapshot finds it, its pointers those of the store (R133). -/
def Store.intervalFound (st : Store) : Ring IntervalRec :=
  { st.interval with ptr := st.area.interval, armed := true }

theorem mem_rebuildReads_found {st : Store} {closed : Option Nat} {q : Nat} {r : IntervalRec} :
    (q, r) ∈ rebuildReads st.intervalFound closed ↔ st.area.interval.oldest ≤ q ∧
      q ≤ st.area.interval.newest ∧ st.interval.read .interval q = .record r ∧
      ∀ n x d, q ≤ n → n ≤ st.area.interval.newest → st.interval.read .interval n = .record x →
        closed = some d → d < x.start / 86400 := by
  rw [mem_rebuildReads]
  refine ⟨fun h => ⟨h.oldest_le, h.le_newest, h.read, fun n x d hq hn hx hd =>
      closedBy_eq_false_iff.1 (h.opens n x hq hn hx) d hd⟩,
    fun ⟨hlow, hhigh, hread, hopens⟩ => ⟨hlow, hhigh, hread, fun n x hq hn hx =>
      closedBy_eq_false_iff.2 fun d hd => hopens n x d hq hn hx hd⟩⟩

end TakeUp

/-- Settles O59: what every recovery begins with, then what a snapshot gives back, then what is rebuilt without
one. -/
theorem recoveryTakesUpItsState : Obligations.RecoveryTakesUpItsState := by
  intro s passes
  refine ⟨fun h => exec_haltEnd_elsewhere h passes, fun h => ?_⟩
  have hup := (s.woken passes).takeUp_takesUp
  have htime : ((s.woken passes).takeUp.enterStarting s.governing).time =
      (s.selfTest passes).decideClock.time := hup.time
  refine ⟨_, exec_haltEnd_halt h passes, rfl, congrArg Supply.backupLost hup.supply, rfl, rfl, rfl,
    hup.fault, hup.area, hup.mark, hup.tally, hup.cell, hup.armed,
    fun hlost => htime ▸ State.decideClock_lost (s := s.selfTest passes) hlost,
    fun hkept => htime ▸ State.decideClock_kept (s := s.selfTest passes) hkept,
    congrArg TimeBase.reference hup.time, congrArg TimeBase.missed hup.time,
    congrArg TimeBase.badPulses hup.time, congrArg TimeBase.pendingSlew hup.time, hup.scan,
    congrArg SecondWork.processed hup.sec, congrArg SecondWork.held hup.sec, hup.norm, hup.marks,
    hup.arbiter, hup.handed, hup.work, fun l => ?_, fun p hmark hsnap => ?_, fun hlost => ?_⟩
  · obtain ⟨o, hport⟩ := hup.port l
    have hport : ((s.woken passes).takeUp.enterStarting s.governing).port l =
      ((s.woken passes).port l).restarted o := hport
    rw [hport]
    exact LinkPort.restarted_silent _ o
  · have hheld := Store.held_of_mark hmark hsnap
    rw [State.governing_of_held hheld, State.takeUp_woken_of_held hheld]
    refine ⟨rfl, rfl, rfl, rfl, rfl, rfl, rfl, rfl, rfl, rfl, rfl, rfl, ?_, ?_, ?_⟩
    · rintro r x y (⟨rfl, rfl, rfl⟩ | ⟨rfl, rfl, rfl⟩ | ⟨rfl, rfl, rfl⟩) <;> rfl
    · exact State.restored_active _ _
    · exact State.restored_stage _ _
  · have hheld := Store.held_of_lost hlost
    rw [State.governing_of_lost hheld, State.takeUp_woken_of_lost hheld]
    refine ⟨rfl, rfl, rfl, rfl, rfl, rfl, rfl, rfl, fun k hk => ⟨.initial 2000,
      List.getElem?_replicate_of_lt hk, rfl, rfl, rfl, rfl, rfl, rfl, rfl⟩, rfl, rfl, rfl, rfl, rfl,
      rfl, rfl, fun hmode => if_pos hmode, fun hmode => ?_⟩
    have htable : ((s.woken passes).rebuild.restartLinks []).recorder.table = rebuildTable
        s.store.area.tables s.store.intervalFound s.store.area.protection := if_neg hmode
    refine ⟨rebuildReads s.store.intervalFound s.store.area.protection, pairwise_rebuildReads,
      fun q r => mem_rebuildReads_found, fun hnil => htable.trans (rebuildTable_of_nil hnil), ?_⟩
    intro first last table filled _ hlast hmax hclosed hopen hrebuilt hfilled
    have hfold : (rebuildReads s.store.intervalFound s.store.area.protection).foldl
        (rebuildWith s.store.area.tables) [] = table := by
      rw [hrebuilt]
      congr 1
      funext t x
      rw [rebuildWith]
      congr 1
      funext e
      rw [DayEntry.recontribute_eq]
      rfl
    have hrange : joinDays first (last + 1 - first) table = filled := by
      rw [hfilled, joinDays_eq_foldl]
    refine htable.trans ((rebuildTable_of_days rfl hfold hlast hmax hclosed hopen).trans ?_)
    rw [hrange]
    rfl

end Sys2Proof.Machine
end

section
/-! The debounce of a signal (R53), one stack's second (R49 to R55), and O56. -/

namespace Sys2Proof.Machine

/-! ### The debounce of one signal -/

section Debounce

variable {d timer : Nat} {raw filtered : Bool}

/-- A level that does not differ leaves no time running. -/
theorem debounce_same (h : raw = filtered) : debounce d raw filtered timer = (filtered, 0) := if_pos h

/-- A level that differs waits out the debounce time. -/
theorem debounce_waits (h : raw ≠ filtered) (ht : timer + 1 ≤ d) :
    debounce d raw filtered timer = (filtered, timer + 1) := by
  rw [debounce, if_neg h, if_pos ht]

/-- Then it is the filtered level. -/
theorem debounce_arrives (h : raw ≠ filtered) (ht : d < timer + 1) :
    debounce d raw filtered timer = (raw, 0) := by
  rw [debounce, if_neg h, if_neg (Nat.not_le.2 ht)]

theorem debounce_timer_le (d timer : Nat) (raw filtered : Bool) :
    (debounce d raw filtered timer).2 ≤ d := by
  by_cases h : raw = filtered
  · rw [debounce_same h]
    exact Nat.zero_le d
  · rcases Nat.lt_or_ge d (timer + 1) with ht | ht
    · rw [debounce_arrives h ht]
      exact Nat.zero_le d
    · rw [debounce_waits h ht]
      exact ht

/-- A signal's filtered level and timer after a second of a raw level. -/
def debounceSecond (d : Nat) (raw : Bool) (p : Bool × Nat) : Bool × Nat := debounce d raw p.1 p.2

/-- A level that holds up to second s0 + d has not arrived before it. -/
theorem debounceSecond_iterate_waits (h : raw ≠ filtered) :
    ∀ {n : Nat}, n ≤ d → (debounceSecond d raw)^[n] (filtered, 0) = (filtered, n)
  | 0, _ => rfl
  | n + 1, hn => by
    rw [Function.iterate_succ_apply', debounceSecond_iterate_waits h (Nat.le_of_succ_le hn)]
    exact debounce_waits h hn

/-- It arrives with second s0 + d, and stays while it holds. -/
theorem debounceSecond_iterate_arrives (h : raw ≠ filtered) {n : Nat} (hn : d < n) :
    ((debounceSecond d raw)^[n] (filtered, 0)).1 = raw := by
  induction n, hn using Nat.le_induction with
  | base =>
    rw [Function.iterate_succ_apply', debounceSecond_iterate_waits h (Nat.le_refl d)]
    exact congrArg Prod.fst (debounce_arrives h (Nat.lt_succ_self d))
  | succ n _ ih =>
    rw [Function.iterate_succ_apply', debounceSecond, debounce_same ih.symm]
    exact ih

end Debounce

/-! ### One stack's second -/

section Evaluate

variable {u : StackUnit} {e : StackEntry} {pins : Signals} {t : Nat}

/-- Sampling sets the raw levels and the STALE mark, and nothing else (R49, R51). -/
theorem StackUnit.sample_eq (u : StackUnit) (e : StackEntry) (pins : Signals) (t : Nat) :
    u.sample e pins t =
      { u with raw := (u.sample e pins t).raw, stale := (u.sample e pins t).stale } := by
  rw [StackUnit.sample]
  cases e.source with
  | lines => rfl
  | link => cases u.slot <;> rfl

theorem StackUnit.sample_of_lines (h : e.source = .lines) :
    u.sample e pins t = { u with raw := pins, stale := false } := by
  rw [StackUnit.sample, h]

theorem StackUnit.sample_of_empty (h : e.source = .link) (hslot : u.slot = none) :
    u.sample e pins t = { u with raw := .allOff, stale := true } := by
  rw [StackUnit.sample, h, hslot]

/-- A link slot's signals are STALE from the tenth second after their arrival on (R51, R52). -/
theorem StackUnit.sample_of_slot {x : LinkSlot} (h : e.source = .link) (hslot : u.slot = some x) :
    (u.sample e pins t).raw = x.levels ∧
      ((u.sample e pins t).stale = true ↔ ∀ a, x.arrival = some a → a + 9 < t) := by
  rw [StackUnit.sample, h, hslot]
  cases harrival : x.arrival <;> simp [harrival]

/-- A stack in use after its state has been decided (R54, R55). -/
def StackUnit.decided (v : StackUnit) (e : StackEntry) : StackUnit :=
  { v with
    state := (decideState v.filtered v.state v.runOut e.runOut).1
    runOut := (decideState v.filtered v.state v.runOut e.runOut).2
    wasInUse := true
    wasLink := decide (e.source = .link) }

theorem StackUnit.evaluate_of_inUse (h : e.inUse = true) :
    u.evaluate e pins t = ((u.sample e pins t).filter e.debounce).decided e := if_pos h

/-- A stack out of use is OFF; its levels and timers stay, and its STALE mark where it is a LINK stack. -/
theorem StackUnit.evaluate_of_outOfUse (h : e.inUse = false) : u.evaluate e pins t =
    { u with
      state := .off, runOut := none, wasInUse := false, wasLink := false
      stale := decide (e.source = .link) && u.stale } := by
  rw [StackUnit.evaluate, if_neg (by rw [h]; exact Bool.false_ne_true)]
  cases e.source <;> rfl

theorem StackUnit.filter_raw (u : StackUnit) (d : Nat) :
    (u.filter d).raw = u.raw ∧ (u.filter d).stale = u.stale := by
  rw [StackUnit.filter]
  split <;> exact ⟨rfl, rfl⟩

/-- A stack in use has the levels and the STALE mark that were sampled. -/
theorem StackUnit.evaluate_sampled (h : e.inUse = true) :
    (u.evaluate e pins t).raw = (u.sample e pins t).raw ∧
      (u.evaluate e pins t).stale = (u.sample e pins t).stale := by
  rw [StackUnit.evaluate_of_inUse h]
  exact StackUnit.filter_raw _ _

/-- What a second leaves of a stack's slot, counters and marks before they are counted. -/
theorem StackUnit.evaluate_keeps (u : StackUnit) (e : StackEntry) (pins : Signals) (t : Nat) :
    (u.evaluate e pins t).slot = u.slot ∧ (u.evaluate e pins t).runCounter = u.runCounter ∧
      (u.evaluate e pins t).runMark = u.runMark ∧
      (u.evaluate e pins t).yearCounter = u.yearCounter ∧
      (u.evaluate e pins t).counterYear = u.counterYear ∧
      (u.evaluate e pins t).yearMark = u.yearMark := by
  cases h : e.inUse with
  | false =>
    rw [StackUnit.evaluate_of_outOfUse h]
    exact ⟨rfl, rfl, rfl, rfl, rfl, rfl⟩
  | true =>
    rw [StackUnit.evaluate_of_inUse h, StackUnit.sample_eq, StackUnit.filter]
    split <;> exact ⟨rfl, rfl, rfl, rfl, rfl, rfl⟩

theorem StackUnit.evaluate_wasInUse : (u.evaluate e pins t).wasInUse = e.inUse := by
  cases h : e.inUse with
  | false => rw [StackUnit.evaluate_of_outOfUse h]
  | true => rw [StackUnit.evaluate_of_inUse h, StackUnit.decided]

theorem StackUnit.evaluate_stale_of_lines (h : e.source = .lines) :
    (u.evaluate e pins t).stale = false := by
  cases huse : e.inUse with
  | false =>
    rw [StackUnit.evaluate_of_outOfUse huse, h]
    rfl
  | true => rw [(StackUnit.evaluate_sampled huse).2, StackUnit.sample_of_lines h]

/-- A stack that was in use has its three signals debounced, each by itself, and its state follows from the
filtered levels (R53, R54). -/
theorem StackUnit.evaluate_debounced {v : StackUnit} (h : e.inUse = true) (hwas : u.wasInUse = true)
    (hv : v = u.evaluate e pins t) :
    (v.filtered.fire, v.fireTimer) = debounce e.debounce v.raw.fire u.filtered.fire u.fireTimer ∧
    (v.filtered.feed, v.feedTimer) = debounce e.debounce v.raw.feed u.filtered.feed u.feedTimer ∧
    (v.filtered.abn, v.abnTimer) = debounce e.debounce v.raw.abn u.filtered.abn u.abnTimer ∧
    (v.state, v.runOut) = decideState v.filtered u.state u.runOut e.runOut := by
  rw [hv, StackUnit.evaluate_of_inUse h, StackUnit.sample_eq, StackUnit.filter, if_pos hwas]
  exact ⟨rfl, rfl, rfl, rfl⟩

/-- A stack that enters use takes its signals directly, from OFF and with no run-out (R52). -/
theorem StackUnit.evaluate_entering {v : StackUnit} (h : e.inUse = true) (hwas : u.wasInUse = false)
    (hv : v = u.evaluate e pins t) :
    v.filtered = v.raw ∧ v.fireTimer = 0 ∧ v.feedTimer = 0 ∧ v.abnTimer = 0 ∧
      (v.state, v.runOut) = decideState v.raw .off none e.runOut := by
  rw [hv, StackUnit.evaluate_of_inUse h, StackUnit.sample_eq, StackUnit.filter,
    if_neg (show ¬u.wasInUse = true by rw [hwas]; exact Bool.false_ne_true)]
  exact ⟨rfl, rfl, rfl, rfl, rfl⟩

end Evaluate

/-- Settles O56: the table of R53, its course by induction on the seconds, and the three signals of a stack. -/
theorem signalsAreDebounced : Obligations.SignalsAreDebounced := by
  refine ⟨fun d raw filtered timer => ⟨debounce_same, debounce_waits, debounce_arrives,
      fun _ => debounce_timer_le d timer raw filtered⟩,
    fun d n raw filtered timer hraw htimer => ?_,
    fun u v e pins t hin hwas hv => StackUnit.evaluate_debounced hin hwas hv⟩
  subst htimer
  exact ⟨debounceSecond_iterate_waits hraw, debounceSecond_iterate_arrives hraw⟩

end Sys2Proof.Machine
end

section
/-! What one stack's evaluation finds and leaves: its run-out (R54, R55), its counters and limits (R57, R58), and its
STALE mark (R51). -/

namespace Sys2Proof.Machine

/-! ### The course of a run-out -/

section RunOuts

variable {f : Signals} {before held : StackState} {r : Option RunOut} {time : Nat}

theorem decideState_of_feed (h : f.feed = true) :
    decideState f before r time = (if f.abn then .abnormal else .operating, none) := if_pos h

theorem decideState_of_runOut {p : RunOut} (h : f.feed = false)
    (hcurrent : RunOut.current before r time = some p) : decideState f before r time = p.advance f := by
  rw [decideState, if_neg (by rw [h]; exact Bool.false_ne_true), hcurrent]

/-- With FEED off and no run-out, FIRE decides, and SHUTDOWN stays until it is off (R54). -/
theorem decideState_of_none (h : f.feed = false) (hr : r = none) (hoperating : before ≠ .operating)
    (habnormal : before ≠ .abnormal) : decideState f before r time =
      (if f.fire then (if before = .shutdown then .shutdown else .startup) else .off, none) := by
  have hcurrent : RunOut.current before r time = none := by
    rw [hr]
    cases before with
    | operating => exact absurd rfl hoperating
    | abnormal => exact absurd rfl habnormal
    | _ => rfl
  rw [decideState, if_neg (by rw [h]; exact Bool.false_ne_true), hcurrent]
  cases f.fire <;> rfl

/-- A run-out that holds a state, with the time that is left. -/
def RunOut.holding (held : StackState) (left : Nat) : RunOut :=
  { remaining := left, heldAbnormal := decide (held = .abnormal) }

theorem RunOut.current_begins (h : held = .operating ∨ held = .abnormal) (time : Nat) :
    RunOut.current held none time = some (.holding held time) := by
  rcases h with rfl | rfl <;> rfl

/-- With ABN off a run-out holds its state for one second more. -/
theorem RunOut.advance_holding (h : held = .operating ∨ held = .abnormal) (habn : f.abn = false)
    (left : Nat) : (RunOut.holding held (left + 1)).advance f = (held, some (.holding held left)) := by
  rcases h with rfl | rfl <;> simp [RunOut.advance, RunOut.holding, habn]

theorem RunOut.advance_ends (held : StackState) (f : Signals) :
    (RunOut.holding held 0).advance f = (if f.fire then .shutdown else .off, none) := rfl

/-- A stack's state and run-out after a second of some levels. -/
def decideSecond (f : Signals) (time : Nat) (p : StackState × Option RunOut) :
    StackState × Option RunOut := decideState f p.1 p.2 time

/-- The run-out before any second of it, and after each. -/
theorem runOut_current_iterate (hfeed : f.feed = false) (habn : f.abn = false)
    (h : held = .operating ∨ held = .abnormal) : ∀ {n : Nat}, n ≤ time →
    RunOut.current ((decideSecond f time)^[n] (held, none)).1 ((decideSecond f time)^[n] (held, none)).2
      time = some (.holding held (time - n)) ∧ ((decideSecond f time)^[n] (held, none)).1 = held
  | 0, _ => ⟨RunOut.current_begins h time, rfl⟩
  | n + 1, hn => by
    obtain ⟨hcurrent, -⟩ := runOut_current_iterate hfeed habn h (Nat.le_of_succ_le hn)
    have hleft : time - n = (time - (n + 1)) + 1 := by omega
    rw [Function.iterate_succ_apply', decideSecond, decideState_of_runOut hfeed hcurrent, hleft,
      RunOut.advance_holding h habn]
    exact ⟨rfl, rfl⟩

/-- With the second after its time the run-out is over. -/
theorem runOut_iterate_ends (hfeed : f.feed = false) (habn : f.abn = false)
    (h : held = .operating ∨ held = .abnormal) :
    (decideSecond f time)^[time + 1] (held, none) = (if f.fire then .shutdown else .off, none) := by
  obtain ⟨hcurrent, -⟩ := runOut_current_iterate hfeed habn h (Nat.le_refl time)
  rw [Function.iterate_succ_apply', decideSecond, decideState_of_runOut hfeed hcurrent, Nat.sub_self,
    RunOut.advance_ends]

end RunOuts

/-! ### The counters of a second -/

/-- What a second does to a stack's counters and marks, its state having been decided (R57, R58). -/
theorem StackUnit.countSecond_eq (u : StackUnit) (mode : Mode) (year : Nat) :
    u.countSecond mode year = { u with
      counterYear := year
      runCounter := if mode = .recording ∧ u.state = .abnormal then
        min (u.runCounter + 1) 4294967295 else 0
      runMark := decide (mode = .recording) && decide (u.state = .abnormal) && u.runMark
      yearCounter := (if mode = .recording ∧ u.state = .abnormal then 1 else 0) +
        (if u.counterYear = year then u.yearCounter else 0)
      yearMark := u.yearMark && decide (u.counterYear = year) } := by
  have hyear : (if u.counterYear = year then u else u.newYear year) = { u with
      counterYear := year
      yearCounter := if u.counterYear = year then u.yearCounter else 0
      yearMark := u.yearMark && decide (u.counterYear = year) } := by
    by_cases h : u.counterYear = year
    · subst h
      simp
    · simp [StackUnit.newYear, h]
  rw [StackUnit.countSecond, hyear]
  by_cases hmode : mode = .recording <;> by_cases hstate : u.state = .abnormal <;>
    simp [hmode, hstate, Nat.add_comm 1]

/-! ### What one stack's evaluation finds -/

/-- What the evaluation of a stack finds in a second: the stack and its entry, the levels of its pins, the mode, and
the second. -/
structure StackSecond where
  unit   : StackUnit
  entry  : StackEntry
  pins   : Signals
  mode   : Mode
  second : Nat

namespace StackSecond

/-- The stack with its state decided. -/
def evaluated (g : StackSecond) : StackUnit := g.unit.evaluate g.entry g.pins g.second

/-- The stack with the second counted. -/
def counted (g : StackSecond) : StackUnit :=
  g.evaluated.countSecond g.mode (yearOfDay (dayOf g.second))

/-- The stack after the second. -/
def after (g : StackSecond) : StackUnit := g.unit.next g.entry g.pins g.mode g.second

/-- Whether the run limit is reached and to be recorded (R57). -/
def runReached (g : StackSecond) : Bool := g.counted.runDue g.entry g.mode

/-- Whether the year limit is reached and to be recorded (R58). -/
def yearReached (g : StackSecond) : Bool := g.counted.yearDue g.entry g.mode

/-- Whether the stack has gone STALE (R51). -/
def goesStale (g : StackSecond) : Bool := g.unit.goesStale g.entry g.pins g.second

/-- What a second leaves of a stack: the marks of the limits join what has been decided and counted. -/
theorem after_eq (g : StackSecond) : g.after = { g.evaluated with
    counterYear := g.counted.counterYear
    runCounter := g.counted.runCounter
    runMark := g.counted.runMark || g.runReached
    yearCounter := g.counted.yearCounter
    yearMark := g.counted.yearMark || g.yearReached } := by
  have hcounted : g.counted = { g.evaluated with
      counterYear := g.counted.counterYear
      runCounter := g.counted.runCounter
      runMark := g.counted.runMark
      yearCounter := g.counted.yearCounter
      yearMark := g.counted.yearMark } := by
    rw [counted, StackUnit.countSecond_eq]
  show ({ g.counted with
    runMark := g.counted.runMark || g.runReached
    yearMark := g.counted.yearMark || g.yearReached } : StackUnit) = _
  rw [hcounted]

theorem evaluated_counters (g : StackSecond) : g.evaluated.runCounter = g.unit.runCounter ∧
    g.evaluated.runMark = g.unit.runMark ∧ g.evaluated.yearCounter = g.unit.yearCounter ∧
    g.evaluated.counterYear = g.unit.counterYear ∧ g.evaluated.yearMark = g.unit.yearMark :=
  (g.unit.evaluate_keeps g.entry g.pins g.second).2

/-- The abnormal counters of a stack and the marks of its limits (R57, R58). -/
theorem after_counters (g : StackSecond) {w : StackUnit} {rec : Bool} (hw : w = g.after)
    (hrec : rec = decide (g.mode = .recording)) :
    w.counterYear = yearOfDay (g.second / 86400) ∧
    w.runCounter = (if rec = true ∧ w.state = .abnormal then
      min (g.unit.runCounter + 1) 4294967295 else 0) ∧
    w.yearCounter = (if rec = true ∧ w.state = .abnormal then 1 else 0) +
      (if g.unit.counterYear = w.counterYear then g.unit.yearCounter else 0) ∧
    g.runReached = (rec && decide (g.entry.runLimit ≤ w.runCounter) &&
      !(g.unit.runMark && decide (w.state = .abnormal))) ∧
    w.runMark = (rec && decide (w.state = .abnormal) && g.unit.runMark || g.runReached) ∧
    g.yearReached = (rec && decide (g.entry.yearLimit ≤ w.yearCounter) &&
      !(g.unit.yearMark && decide (g.unit.counterYear = w.counterYear))) ∧
    w.yearMark = ((g.unit.yearMark && decide (g.unit.counterYear = w.counterYear)) ||
      g.yearReached) := by
  obtain ⟨hrun, hrunMark, hyear, hcounterYear, hyearMark⟩ := g.evaluated_counters
  have hcounted := StackUnit.countSecond_eq g.evaluated g.mode (yearOfDay (dayOf g.second))
  rw [hrun, hrunMark, hyear, hcounterYear, hyearMark] at hcounted
  subst hw hrec
  rw [g.after_eq, runReached, yearReached, StackUnit.runDue, StackUnit.yearDue, counted, hcounted]
  by_cases hmode : g.mode = .recording <;> simp [hmode, Bool.and_comm, dayOf]

theorem after_state (g : StackSecond) :
    g.after.state = g.evaluated.state ∧ g.after.stale = g.evaluated.stale := by
  rw [g.after_eq]
  exact ⟨rfl, rfl⟩

theorem after_slot (g : StackSecond) : g.after.slot = g.unit.slot := by
  rw [g.after_eq]
  exact (g.unit.evaluate_keeps g.entry g.pins g.second).1

theorem after_wasInUse (g : StackSecond) : g.after.wasInUse = g.entry.inUse := by
  rw [g.after_eq]
  exact StackUnit.evaluate_wasInUse

/-- A stack out of use is OFF, and keeps its levels, its timers, and the STALE mark of its link slot (R52). -/
theorem after_of_outOfUse (g : StackSecond) {w : StackUnit} (hw : w = g.after) (h : g.entry.inUse = false) :
    w.state = .off ∧ w.runOut = none ∧ w.raw = g.unit.raw ∧ w.filtered = g.unit.filtered ∧
      w.fireTimer = g.unit.fireTimer ∧ w.feedTimer = g.unit.feedTimer ∧
      w.abnTimer = g.unit.abnTimer ∧ (g.entry.source = .link → w.stale = g.unit.stale) := by
  rw [hw, g.after_eq, evaluated, StackUnit.evaluate_of_outOfUse h]
  exact ⟨rfl, rfl, rfl, rfl, rfl, rfl, rfl, fun hlink => by rw [hlink]; rfl⟩

theorem after_stale_of_lines (g : StackSecond) (h : g.entry.source = .lines) : g.after.stale = false :=
  g.after_state.2.trans (StackUnit.evaluate_stale_of_lines h)

/-- A stack in use has the levels and the STALE mark of its pins or of its link slot (R49, R51). -/
theorem after_sampled (g : StackSecond) (h : g.entry.inUse = true) :
    g.after.raw = (g.unit.sample g.entry g.pins g.second).raw ∧
      g.after.stale = (g.unit.sample g.entry g.pins g.second).stale := by
  rw [g.after_eq]
  exact StackUnit.evaluate_sampled h

theorem after_of_lines (g : StackSecond) (h : g.entry.inUse = true) (hlines : g.entry.source = .lines) :
    g.after.raw = g.pins := by
  rw [(g.after_sampled h).1, StackUnit.sample_of_lines hlines]

theorem after_of_empty (g : StackSecond) (h : g.entry.inUse = true) (hlink : g.entry.source = .link)
    (hslot : g.unit.slot = none) : g.after.raw = .allOff ∧ g.after.stale = true := by
  rw [(g.after_sampled h).1, (g.after_sampled h).2, StackUnit.sample_of_empty hlink hslot]
  exact ⟨rfl, rfl⟩

theorem after_of_slot (g : StackSecond) {x : LinkSlot} (h : g.entry.inUse = true)
    (hlink : g.entry.source = .link) (hslot : g.unit.slot = some x) : g.after.raw = x.levels ∧
      (g.after.stale = true ↔ ∀ a, x.arrival = some a → a + 9 < g.second) := by
  rw [(g.after_sampled h).1, (g.after_sampled h).2]
  exact StackUnit.sample_of_slot hlink hslot

theorem after_wasLink (g : StackSecond) (h : g.entry.inUse = true) :
    g.after.wasLink = decide (g.entry.source = .link) := by
  rw [g.after_eq, evaluated, StackUnit.evaluate_of_inUse h]
  rfl

theorem after_debounced (g : StackSecond) {w : StackUnit} (hw : w = g.after) (h : g.entry.inUse = true)
    (hwas : g.unit.wasInUse = true) :
    (w.filtered.fire, w.fireTimer) =
      debounce g.entry.debounce w.raw.fire g.unit.filtered.fire g.unit.fireTimer ∧
    (w.filtered.feed, w.feedTimer) =
      debounce g.entry.debounce w.raw.feed g.unit.filtered.feed g.unit.feedTimer ∧
    (w.filtered.abn, w.abnTimer) =
      debounce g.entry.debounce w.raw.abn g.unit.filtered.abn g.unit.abnTimer ∧
    (w.state, w.runOut) = decideState w.filtered g.unit.state g.unit.runOut g.entry.runOut := by
  rw [hw, g.after_eq]
  exact StackUnit.evaluate_debounced (v := g.evaluated) h hwas rfl

theorem after_entering (g : StackSecond) {w : StackUnit} (hw : w = g.after) (h : g.entry.inUse = true)
    (hwas : g.unit.wasInUse = false) :
    w.filtered = w.raw ∧ w.fireTimer = 0 ∧ w.feedTimer = 0 ∧ w.abnTimer = 0 ∧
      (w.state, w.runOut) = decideState w.raw .off none g.entry.runOut := by
  rw [hw, g.after_eq]
  exact StackUnit.evaluate_entering (v := g.evaluated) h hwas rfl

/-- A stack goes STALE where it is in use on its link slot, was so with fresh signals, and now is STALE (R51). -/
theorem goesStale_iff (g : StackSecond) : g.goesStale = true ↔
    g.entry.inUse = true ∧ g.entry.source = .link ∧ g.unit.wasInUse = true ∧
      g.unit.wasLink = true ∧ g.unit.stale = false ∧ g.after.stale = true := by
  rw [goesStale, StackUnit.goesStale]
  by_cases h : g.entry.inUse = true
  · rw [(g.after_sampled h).2]
    simp only [Bool.and_eq_true, Bool.not_eq_true', decide_eq_true_eq]
    tauto
  · simp [h]

end StackSecond

end Sys2Proof.Machine
end

section
/-! The sampling point (R49 to R58), and O57. -/

namespace Sys2Proof.Machine

/-! ### One stack of the part -/

section Stack

variable {s t u : State}

/-- What the evaluation of a stack finds in the second in progress. -/
def State.stackSecond (s : State) (k : Nat) : StackSecond :=
  { unit := s.stackUnits.getD k (.initial 2000), entry := s.sec.cfg.stack k
    pins := s.pins.getD k .allOff, mode := s.sec.mode, second := s.time.counter }

/-- The record of a limit reached (R57, R58). -/
def limitItem (second : Nat) (kind : EventKind) (k counter : Nat) : QueueItem :=
  .event { time := second, kind := kind, stack := some k, channel := none
           argument := BitVec.ofNat 32 counter }

/-- The record of a run limit, where the stack reaches it (R57). -/
def StackSecond.runRecord (g : StackSecond) (k : Nat) : List QueueItem :=
  if g.runReached then [limitItem g.second .abnormalRunLimit k g.counted.runCounter] else []

/-- The record of a year limit, where the stack reaches it (R58). -/
def StackSecond.yearRecord (g : StackSecond) (k : Nat) : List QueueItem :=
  if g.yearReached then [limitItem g.second .abnormalYearLimit k g.counted.yearCounter] else []

/-- The records of the limits that a stack reaches (R57, R58). -/
def StackSecond.records (g : StackSecond) (k : Nat) : List QueueItem :=
  g.runRecord k ++ g.yearRecord k

theorem StackSecond.runRecord_length (g : StackSecond) (k : Nat) : (g.runRecord k).length ≤ 1 := by
  rw [StackSecond.runRecord]
  cases g.runReached <;> simp

theorem StackSecond.yearRecord_length (g : StackSecond) (k : Nat) : (g.yearRecord k).length ≤ 1 := by
  rw [StackSecond.yearRecord]
  cases g.yearReached <;> simp

theorem StackSecond.records_length (g : StackSecond) (k : Nat) : (g.records k).length ≤ 2 := by
  rw [StackSecond.records, List.length_append]
  exact Nat.add_le_add (g.runRecord_length k) (g.yearRecord_length k)

/-- The flags of limits reached (R57, R58) and of stacks gone STALE (R51). -/
def stackFlags (limit stale : Bool) : FlagSet :=
  (if limit then flagAbnormalLimit else 0) ||| (if stale then flagSignalsStale else 0)

theorem stackFlags_or (limit limit' stale stale' : Bool) :
    stackFlags limit stale ||| stackFlags limit' stale' =
      stackFlags (limit || limit') (stale || stale') := by
  cases limit <;> cases limit' <;> cases stale <;> cases stale' <;> rfl

theorem stackFlags_raised (stale run year : Bool) :
    (if stale then flagSignalsStale else 0) ||| (if run then flagAbnormalLimit else 0) |||
      (if year then flagAbnormalLimit else 0) = stackFlags (run || year) stale := by
  cases stale <;> cases run <;> cases year <;> rfl

/-- Whether a state differs from another by records and flags alone. -/
def State.Noted (s t : State) : Prop := ∃ recorder attention,
  t = { s with recorder := recorder, attention := attention }

theorem State.Noted.trans (h : s.Noted t) (h' : t.Noted u) : s.Noted u := by
  obtain ⟨_, _, rfl⟩ := h
  obtain ⟨recorder, attention, rfl⟩ := h'
  exact ⟨recorder, attention, rfl⟩

theorem State.Noted.ite {b : Bool} (h : s.Noted t) (h' : t.Noted u) :
    s.Noted (if b then u else t) := by
  cases b with
  | false => exact h
  | true => exact h.trans h'

theorem State.noteLimit_noted (kind : EventKind) (k counter : Nat) (s : State) :
    s.Noted (s.noteLimit kind k counter) :=
  .trans (s.writeEvent_noted _) ⟨_, _, State.raiseAll_eq _ _⟩

/-- The evaluation of a stack changes the stack, and beyond it writes records and raises flags alone. -/
theorem State.evaluateStack_noted (s : State) (k : Nat) :
    (s.setStackUnit k (s.stackSecond k).after).Noted (s.evaluateStack k) :=
  ((State.Noted.ite ⟨_, _, rfl⟩ ⟨_, _, State.raiseAll_eq _ _⟩).ite
    (State.noteLimit_noted _ _ _ _)).ite (State.noteLimit_noted _ _ _ _)

/-! ### Where the queue has room -/

theorem State.flagged_flagged (s : State) (f g : FlagSet) :
    (s.flagged f).flagged g = s.flagged (f ||| g) :=
  congrArg (fun a => ({ s with attention := a } : State)) (AttentionUnit.raiseAll_raiseAll _ f g)

theorem Attention.raise_zero (a : Attention) : a.raise 0 = a := by
  show ({ a with pending := a.pending ||| 0#16, seen := a.seen &&& ~~~0#16 } : Attention) = a
  rw [BitVec.or_zero, BitVec.not_zero, BitVec.and_allOnes]

theorem State.flagged_zero (s : State) : s.flagged 0 = s := by
  simp only [State.flagged, AttentionUnit.raiseAll, Attention.raise_zero]

theorem State.queued_nil (s : State) : s.queued [] = s := by
  rw [State.queued, List.append_nil]

theorem State.queued_nil_flagged_zero (s : State) : (s.queued []).flagged 0 = s := by
  rw [s.queued_nil, s.flagged_zero]

theorem State.raiseAll_ite (hrun : s.running = true) (b : Bool) (f : FlagSet) :
    (if b then s.raiseAll f else s) = s.flagged (if b then f else 0) := by
  cases b with
  | false => exact s.flagged_zero.symm
  | true => exact State.raiseAll_flagged hrun f

theorem State.noteLimit_ite (hrun : s.running = true) (hroom : s.roomFor 1) {kind : EventKind}
    (hstep : kind ≠ .timeStep) (hrestart : kind ≠ .restart) (b : Bool) (k counter : Nat) :
    (if b then s.noteLimit kind k counter else s) =
      (s.queued (if b then [limitItem s.time.counter kind k counter] else [])).flagged
        (if b then flagAbnormalLimit else 0) := by
  cases b with
  | false => exact s.queued_nil_flagged_zero.symm
  | true =>
    refine (congrArg (State.raiseAll _) (State.writeEvent_room hroom _ hstep hrestart)).trans ?_
    exact State.raiseAll_flagged (s := s.queued _) hrun _

/-- The part with one stack at the end of the second, its going STALE flagged. -/
def State.stackMarked (s : State) (k : Nat) : State :=
  (s.setStackUnit k (s.stackSecond k).after).flagged
    (if (s.stackSecond k).goesStale then flagSignalsStale else 0)

/-- So, and with the run limit recorded. -/
def State.runNoted (s : State) (k : Nat) : State :=
  ((s.stackMarked k).queued ((s.stackSecond k).runRecord k)).flagged
    (if (s.stackSecond k).runReached then flagAbnormalLimit else 0)

/-- One stack's evaluation up to its year limit. -/
theorem State.evaluateStack_runNoted (hrun : s.running = true) (hroom : s.roomFor 1) (k : Nat) :
    s.evaluateStack k = if (s.stackSecond k).yearReached then
      (s.runNoted k).noteLimit .abnormalYearLimit k (s.stackSecond k).counted.yearCounter
    else s.runNoted k := by
  have hmarked : (if (s.stackSecond k).goesStale then
      (s.setStackUnit k (s.stackSecond k).after).raiseAll flagSignalsStale
    else s.setStackUnit k (s.stackSecond k).after) = s.stackMarked k :=
    State.raiseAll_ite (s := s.setStackUnit k (s.stackSecond k).after) hrun _ _
  have hnoted : (if (s.stackSecond k).runReached then
      (s.stackMarked k).noteLimit .abnormalRunLimit k (s.stackSecond k).counted.runCounter
    else s.stackMarked k) = s.runNoted k :=
    State.noteLimit_ite (s := s.stackMarked k) hrun hroom EventKind.noConfusion
      EventKind.noConfusion _ _ _
  rw [← hnoted, ← hmarked]
  rfl

/-- One stack's evaluation where the queue has room for its records. -/
theorem State.evaluateStack_room (hrun : s.running = true) (hroom : s.roomFor 2) (k : Nat) :
    s.evaluateStack k = ((s.setStackUnit k (s.stackSecond k).after).queued
      ((s.stackSecond k).records k)).flagged
        (stackFlags ((s.stackSecond k).runReached || (s.stackSecond k).yearReached)
          (s.stackSecond k).goesStale) := by
  have hleft : (s.runNoted k).roomFor 1 :=
    (State.roomFor_queued (s.stackMarked k) _ 1).2 (State.roomFor_le (s := s) hroom
      (Nat.add_le_add_right ((s.stackSecond k).runRecord_length k) 1))
  rw [State.evaluateStack_runNoted hrun (State.roomFor_le hroom (by decide)),
    State.noteLimit_ite (s := s.runNoted k) hrun hleft EventKind.noConfusion EventKind.noConfusion,
    ← stackFlags_raised, ← State.flagged_flagged, ← State.flagged_flagged, StackSecond.records,
    ← State.queued_queued]
  rfl

end Stack

/-! ### The stacks in ascending order -/

section Stacks

variable {s : State}

/-- The stacks with those below a number brought to the end of the second. -/
def State.unitsBelow (s : State) (n : Nat) : List StackUnit :=
  s.stackUnits.mapIdx fun k u => if k < n then (s.stackSecond k).after else u

theorem State.unitsBelow_getElem? {k n : Nat} (h : k < n) :
    (s.unitsBelow n)[k]? = (s.stackUnits[k]?).map fun _ => (s.stackSecond k).after := by
  rw [State.unitsBelow, List.getElem?_mapIdx]
  simp only [if_pos h]

theorem State.unitsBelow_getElem?_of_le {k n : Nat} (h : n ≤ k) :
    (s.unitsBelow n)[k]? = s.stackUnits[k]? := by
  rw [State.unitsBelow, List.getElem?_mapIdx]
  simp only [if_neg (Nat.not_lt.2 h), Option.map_id']

theorem State.unitsBelow_succ (s : State) (n : Nat) :
    (s.unitsBelow n).set n (s.stackSecond n).after = s.unitsBelow (n + 1) := by
  apply List.ext_getElem?
  intro k
  rw [List.getElem?_set']
  rcases Nat.lt_trichotomy k n with h | rfl | h
  · rw [if_neg (by omega), State.unitsBelow_getElem? h, State.unitsBelow_getElem? (by omega)]
  · rw [if_pos rfl, State.unitsBelow_getElem?_of_le (Nat.le_refl k),
      State.unitsBelow_getElem? (Nat.lt_succ_self k)]
    rfl
  · rw [if_neg (by omega), State.unitsBelow_getElem?_of_le (by omega),
      State.unitsBelow_getElem?_of_le (by omega)]

/-- The part with the stacks below a number brought to the end of the second. -/
def State.stacksBelow (s : State) (n : Nat) : State := { s with stackUnits := s.unitsBelow n }

theorem State.stacksBelow_zero (s : State) : s.stacksBelow 0 = s := by
  have hunits : s.unitsBelow 0 = s.stackUnits :=
    List.ext_getElem? fun k => State.unitsBelow_getElem?_of_le (Nat.zero_le k)
  rw [State.stacksBelow, hunits]

/-- A stack finds the same whether or not those below it have been evaluated. -/
theorem State.stacksBelow_stackSecond (s : State) (n : Nat) :
    (s.stacksBelow n).stackSecond n = s.stackSecond n := by
  have hunit : (s.unitsBelow n).getD n (.initial 2000) = s.stackUnits.getD n (.initial 2000) := by
    rw [List.getD_eq_getElem?_getD, List.getD_eq_getElem?_getD,
      State.unitsBelow_getElem?_of_le (Nat.le_refl n)]
  rw [State.stackSecond, State.stackSecond, ← hunit]
  rfl

theorem State.stacksBelow_succ (s : State) (n : Nat) :
    (s.stacksBelow n).setStackUnit n (s.stackSecond n).after = s.stacksBelow (n + 1) := by
  rw [State.stacksBelow, State.stacksBelow, ← State.unitsBelow_succ]
  rfl

/-- The evaluation of the stacks changes the stacks, and beyond them writes records and raises flags alone. -/
theorem State.foldl_evaluateStack_noted (s : State) (n : Nat) :
    (s.stacksBelow n).Noted ((List.range n).foldl State.evaluateStack s) := by
  induction n with
  | zero => exact ⟨s.recorder, s.attention, s.stacksBelow_zero.symm⟩
  | succ n ih =>
    obtain ⟨recorder, attention, hnoted⟩ := ih
    obtain ⟨recorder', attention', hlast⟩ :=
      State.evaluateStack_noted ((List.range n).foldl State.evaluateStack s) n
    rw [List.range_succ, List.foldl_append, List.foldl_cons, List.foldl_nil, hlast, hnoted,
      ← State.stacksBelow_succ, ← State.stacksBelow_stackSecond]
    exact ⟨recorder', attention', rfl⟩

/-- The records of the limits that the stacks below a number reach. -/
def State.limitRecords (s : State) (n : Nat) : List QueueItem :=
  (List.range n).flatMap fun k => (s.stackSecond k).records k

theorem State.limitRecords_succ (s : State) (n : Nat) :
    s.limitRecords (n + 1) = s.limitRecords n ++ (s.stackSecond n).records n := by
  rw [State.limitRecords, List.range_succ, List.flatMap_append, List.flatMap_singleton]
  rfl

theorem State.limitRecords_length (s : State) (n : Nat) : (s.limitRecords n).length ≤ 2 * n := by
  induction n with
  | zero => exact Nat.le_refl 0
  | succ n ih =>
    have hlast := (s.stackSecond n).records_length n
    rw [State.limitRecords_succ, List.length_append]
    omega

/-- The flags that the evaluation of the stacks below a number raises. -/
def State.flagsBelow (s : State) (n : Nat) : FlagSet :=
  stackFlags
    ((List.range n).any fun k => (s.stackSecond k).runReached || (s.stackSecond k).yearReached)
    ((List.range n).any fun k => (s.stackSecond k).goesStale)

theorem State.flagsBelow_zero (s : State) : s.flagsBelow 0 = 0 :=
  show stackFlags false false = 0 by decide

theorem State.flagsBelow_succ (s : State) (n : Nat) : s.flagsBelow (n + 1) =
    s.flagsBelow n ||| stackFlags ((s.stackSecond n).runReached || (s.stackSecond n).yearReached)
      (s.stackSecond n).goesStale := by
  simp only [State.flagsBelow, stackFlags_or, List.range_succ, List.any_append, List.any_cons,
    List.any_nil, Bool.or_false]

/-- Where the queue has room the records of the limits join its end, stack by stack. -/
theorem State.foldl_evaluateStack_room (hrun : s.running = true) : ∀ {n : Nat}, s.roomFor (2 * n) →
    (List.range n).foldl State.evaluateStack s =
      ((s.stacksBelow n).queued (s.limitRecords n)).flagged (s.flagsBelow n)
  | 0, _ => by
    rw [s.stacksBelow_zero, s.flagsBelow_zero]
    exact s.queued_nil_flagged_zero.symm
  | n + 1, hroom => by
    have hleft : ((s.stacksBelow n).queued (s.limitRecords n)).roomFor 2 := by
      have hlength := s.limitRecords_length n
      exact (State.roomFor_queued (s.stacksBelow n) _ 2).2
        (State.roomFor_le (s := s) hroom (by omega))
    let t : State := ((s.stacksBelow n).queued (s.limitRecords n)).flagged (s.flagsBelow n)
    have hfound : t.stackSecond n = s.stackSecond n := s.stacksBelow_stackSecond n
    have hlast := State.evaluateStack_room (s := t) hrun hleft n
    rw [List.range_succ, List.foldl_append, foldl_evaluateStack_room hrun
      (State.roomFor_le hroom (by omega)), List.foldl_cons, List.foldl_nil, hlast, hfound,
      State.flagsBelow_succ, ← State.flagged_flagged, State.limitRecords_succ,
      ← State.queued_queued, ← State.stacksBelow_succ]
    rfl

end Stacks

/-! ### The sampling point -/

section Sampling

variable {s : State}

theorem exec_samplingPoint {t : State} {lines : List Signals} (hrun : s.running = true)
    (hprocessed : s.sec.processed = true) (hsampled : s.sec.sampled = false)
    (ht : t = { s with
      time := { s.time with phase := max s.time.phase 960 }
      pins := (List.range 4).map fun k => lines.getD k .allOff }) :
    exec (.samplingPoint lines) s =
      .next (if s.sec.held.isSome then t.deferSample else t.sampleStacks.settle) := by
  have hreach : (s.reachPhase 960).readPins lines = t := by
    rw [s.reachPhase_eq (by decide), ht]
    rfl
  rw [← hreach]
  exact congrArg _ (if_pos ⟨hrun, hprocessed, hsampled⟩)

theorem State.stackSet_mark {k : Nat} {w : StackUnit} (hk : k < 4) (hw : s.stackUnits[k]? = some w) :
    s.stackSet.marks[k]? = some {
      inUse := (s.sec.cfg.stack k).inUse, state := w.state, stale := w.stale } := by
  rw [State.stackSet, List.getElem?_map, List.getElem?_range hk, Option.map_some,
    List.getD_eq_getElem?_getD, hw]
  rfl

/-- The part with its stacks at the end of the second, their set handed on, the records and flags apart. -/
def State.sampledStacks (s : State) : State := (s.rememberStacks.stacksBelow 4).handStackSet

theorem State.sampleStacks_noted (s : State) : s.sampledStacks.Noted s.sampleStacks := by
  obtain ⟨recorder, attention, hnoted⟩ := s.rememberStacks.foldl_evaluateStack_noted 4
  rw [State.sampleStacks, State.evaluateStacks, hnoted]
  exact ⟨recorder, attention, rfl⟩

theorem State.sampleStacks_room (hrun : s.running = true) (hroom : s.roomFor 8) :
    s.sampleStacks = (s.sampledStacks.queued (s.limitRecords 4)).flagged (s.flagsBelow 4) := by
  rw [State.sampleStacks, State.evaluateStacks,
    State.foldl_evaluateStack_room (s := s.rememberStacks) (n := 4) hrun hroom]
  rfl

theorem State.stackSecond_of_listed {k : Nat} {v : StackUnit} (h : s.stackUnits[k]? = some v) :
    (s.stackSecond k).unit = v := by
  show s.stackUnits.getD k _ = v
  rw [List.getD_eq_getElem?_getD, h]
  rfl

theorem State.sampledStacks_getElem? {k : Nat} {v : StackUnit} (hk : k < 4)
    (h : s.stackUnits[k]? = some v) :
    s.sampledStacks.stackUnits[k]? = some (s.stackSecond k).after :=
  (State.unitsBelow_getElem? hk).trans (by rw [State.rememberStacks_stackUnits, h]; rfl)

theorem stackFlags_of {limit stale : Bool} {p q : Prop} [Decidable p] [Decidable q]
    (hlimit : limit = true ↔ p) (hstale : stale = true ↔ q) :
    stackFlags limit stale = (if p then 0x0020 else 0) ||| (if q then 0x0040 else 0) :=
  congrArg₂ _ (if_congr hlimit rfl rfl) (if_congr hstale rfl rfl)

/-- The records of limits and the flags, where the queue has room for two records of each stack. -/
theorem State.sampleStacks_recorded (hrun : s.running = true) (hroom : s.roomFor 8) :
    s.sampleStacks.recorder.queue = s.recorder.queue ++ s.limitRecords 4 ∧
      ∀ l, (s.sampleStacks.attention.get l).pending =
        (s.attention.get l).pending ||| s.flagsBelow 4 := by
  rw [State.sampleStacks_room hrun hroom]
  exact ⟨rfl, AttentionUnit.raiseAll_pending s.attention _⟩

end Sampling

/-- Settles O57: the rows of R54 and the course of a run-out, the sampling point at once or deferred, and then each
stack by what its evaluation finds, with the records, the flags and the set of the second. -/
theorem stacksAreSampled : Obligations.StacksAreSampled := by
  refine ⟨⟨fun f before r time => ⟨decideState_of_feed, decideState_of_none⟩,
      fun f held time n hfeed habn hheld =>
        ⟨fun _ hn => (runOut_current_iterate hfeed habn hheld hn).2,
          runOut_iterate_ends hfeed habn hheld⟩⟩,
    fun s t lines hrun hprocessed hsampled ht => ?_,
    fun s lines v e rec hrun hprocessed hsampled hheld hlen hunits he hrec => ?_⟩
  · rw [exec_samplingPoint hrun hprocessed hsampled ht]
    refine ⟨fun hheld => ?_, fun hheld => ?_⟩
    · rw [if_neg (by rw [hheld]; exact Bool.false_ne_true)]
    · rw [if_pos (Option.isSome_iff_ne_none.2 hheld), ht]
      rfl
  subst he
  let t : State := { s with
    time := { s.time with phase := max s.time.phase 960 }
    pins := (List.range 4).map fun k => lines.getD k .allOff }
  have hpin : ∀ k, k < 4 → t.pins[k]? = some (lines.getD k .allOff) := fun k hk => by
    rw [List.getElem?_map, List.getElem?_range hk]
    rfl
  have hfound : ∀ k, k < 4 → (t.stackSecond k).pins = lines.getD k .allOff := fun k hk => by
    show t.pins.getD k _ = _
    rw [List.getD_eq_getElem?_getD, hpin k hk]
    rfl
  have hunit : ∀ k, k < 4 → (t.stackSecond k).unit = v k := fun k hk =>
    State.stackSecond_of_listed (s := t) (hunits k hk)
  have hlisted : ∀ k, k < 4 → t.sampledStacks.stackUnits[k]? = some (t.stackSecond k).after :=
    fun k hk => State.sampledStacks_getElem? (s := t) hk (hunits k hk)
  have hrecorded := fun hroom => State.sampleStacks_recorded (s := t) hrun hroom
  obtain ⟨recorder, attention, hnoted⟩ := t.sampleStacks_noted
  refine ⟨t.sampleStacks, fun k => (t.stackSecond k).after, fun k => (t.stackSecond k).runReached,
    fun k => (t.stackSecond k).yearReached, ?_, ?_⟩
  · rw [exec_samplingPoint hrun hprocessed hsampled rfl,
      if_neg (by rw [hheld]; exact Bool.false_ne_true)]
  rw [hnoted] at hrecorded ⊢
  refine ⟨?_, hpin, fun k hk => ?_, fun hroom => ?_, ⟨t.sampledStacks.stackSet, rfl, rfl, rfl,
    fun k hk => State.stackSet_mark hk (hlisted k hk)⟩, rfl, rfl, rfl, rfl, rfl, rfl, rfl, rfl⟩
  · exact List.length_mapIdx.trans hlen
  · rw [← hunit k hk, ← hfound k hk]
    let g : StackSecond := t.stackSecond k
    exact ⟨hlisted k hk, g.after_slot, g.after_wasInUse, g.after_of_outOfUse rfl,
      g.after_stale_of_lines, fun hin =>
        ⟨g.after_wasLink hin, g.after_of_lines hin, g.after_of_empty hin,
          fun x => g.after_of_slot hin, g.after_debounced rfl hin, g.after_entering rfl hin⟩,
      g.after_counters rfl hrec⟩
  · obtain ⟨hqueue, hpending⟩ := hrecorded hroom
    refine ⟨hqueue, fun l => (hpending l).trans ?_⟩
    rw [BitVec.or_assoc]
    refine congrArg _ (stackFlags_of ?_ ?_)
    · simp only [List.any_eq_true, Bool.or_eq_true]
    · rw [List.any_eq_true]
      refine exists_congr fun k => and_congr_right fun hk => ?_
      rw [StackSecond.goesStale_iff, hunit k (List.mem_range.1 hk)]
      rfl

end Sys2Proof.Machine
end

section
/-! The normaliser's chain and NORMALISE_SECOND (R63 to R76, R85), and O41. -/

namespace Sys2Proof.Machine

/-! ### Scaling and calibration (R64 to R68) -/

section Calibration

variable {e : ChannelEntry} {p : Sample} {v : Int}

theorem enteringValue_of_analog {i r : Nat} (hsource : e.source = .analog i)
    (hrange : e.range = some r) (m : Int) : enteringValue e m = e.offset +
      roundHalfAway (e.slope * roundHalfAway ((m - 4000) * r) 16000) 10000 := by
  rw [enteringValue, hsource, hrange]
  rfl

theorem enteringValue_of_code (hsource : e.source = .link ∨ ∃ x, e.source = .constant x) (m : Int) :
    enteringValue e m = m := by
  obtain hlink | ⟨x, hconstant⟩ := hsource
  · rw [enteringValue, hlink]
  · rw [enteringValue, hconstant]

/-- The two ways of a value into the clamps: a loop's second mean through S1 and S2, or a code as it is (R64). -/
theorem enteringValue_of_source {value : Option Int}
    (h : (∃ i r m, e.source = .analog i ∧ e.range = some r ∧ value = some m ∧ v = e.offset +
        roundHalfAway (e.slope * roundHalfAway ((m - 4000) * r) 16000) 10000) ∨
      ((e.source = .link ∨ ∃ x, e.source = .constant x) ∧ value = some v)) :
    enteringValue e (value.getD 0) = v := by
  obtain ⟨i, r, m, hanalog, hrange, rfl, rfl⟩ | ⟨hcode, rfl⟩ := h
  · exact enteringValue_of_analog hanalog hrange m
  · exact enteringValue_of_code hcode v

theorem clampValue_eq (v : Int) : clampValue v = (max 0 (min v 5125000)).toNat := by
  rw [clampValue, chainCeiling]
  omega

/-- The verdict of a value after the upper clamp, the first verdict being valid (R66). -/
def ceilingVerdict (first : Verdict) (v : Int) : Verdict :=
  if 5125000 < v then .saturated else first

theorem ceilingVerdict_valid {first : Verdict} (h : first.valid = true) (v : Int) :
    (ceilingVerdict first v).valid = true := by
  rw [ceilingVerdict]
  split
  · rfl
  · exact h

theorem calibrated_of_invalid (h : p.verdict.valid = false) : calibrated e p =
    { verdict := p.verdict, y := none, outOfCal := false, saturated := false } :=
  if_neg (Bool.eq_false_iff.1 h)

theorem calibrated_of_valid (h : p.verdict.valid = true) (hv : enteringValue e (p.value.getD 0) = v) :
    calibrated e p =
      { verdict := ceilingVerdict p.verdict v, y := some (clampValue v)
        outOfCal := decide (e.ceiling ≠ 0 ∧ e.ceiling < clampValue v)
        saturated := decide (ceilingVerdict p.verdict v = .saturated) } := by
  subst hv
  rw [Bool.decide_and]
  simp only [calibrated, h, if_true, aboveCeiling, decide_eq_true_eq]
  rfl

end Calibration

/-! ### The dry basis and the oxygen reference of a pollutant (R69, R70, R72) -/

section Pollutant

variable {e : ChannelEntry} {h o y : Option Nat}

theorem dependencyFails_iff : dependencyFails e h o = true ↔
    e.wet = true ∧ h = none ∨ e.o2Ref.isSome = true ∧ o = none := by
  simp only [dependencyFails, Bool.or_eq_true, Bool.and_eq_true, Option.isNone_iff_eq_none]

theorem dryOf_of_dry (hdry : e.wet = false) : dryOf e y h = y :=
  if_neg (Bool.eq_false_iff.1 hdry)

theorem dryOf_of_wet (hwet : e.wet = true) (v x : Nat) :
    dryOf e (some v) (some x) = some (dryValue v x) := if_pos hwet

theorem dryOf_eq_none (hwet : e.wet = true) : dryOf e y none = none := by
  rw [dryOf, if_pos hwet]
  cases y <;> rfl

theorem dryOf_none : dryOf e none h = none := by
  rw [dryOf]
  split <;> rfl

theorem refOf_none {cap : Nat} : refOf e cap none o = none := by
  rw [refOf]
  split <;> rfl

theorem refOf_of_unreferenced (href : e.o2Ref = none) (cap : Nat) : refOf e cap y o = y := by
  rw [refOf, href]

theorem refOf_of_referenced {r : Nat} (href : e.o2Ref = some r) (cap d x : Nat) :
    refOf e cap (some d) (some x) = some (referenceValue d r cap x) := by
  rw [refOf, href]
  rfl

/-- With a dry value at hand, a pollutant can only lack its oxygen reference. -/
theorem dependencyFails_of_dry {d : Nat} (hdry : dryOf e y h = some d) :
    dependencyFails e h o = (e.o2Ref.isSome && o.isNone) := by
  have hwater : (e.wet && h.isNone) = false := by
    cases hwet : e.wet with
    | false => rfl
    | true =>
      cases h with
      | some x => rfl
      | none =>
        rw [dryOf_eq_none hwet] at hdry
        cases hdry
  rw [dependencyFails, hwater, Bool.false_or]

end Pollutant

/-! ### A channel's fields of the normalised set (R68, R72 to R74) -/

section Fields

variable {set : SampleSet} {p : Sample}

/-- A peripheral channel stops at S2 (R68). -/
theorem SampleSet.normalise_of_peripheral {e : ChannelEntry} {c : Calibrated}
    (he : e = set.cfg.channel p.channel) (hc : calibrated e p = c) (hkind : e.kind.peripheral = true) :
    set.normalise p =
      { stack := e.stack, kind := e.kind, verdict := c.verdict, y := c.y, yDry := c.y, yRef := c.y
        outOfCal := c.outOfCal, saturated := c.saturated, conversions := p.conversions } := by
  subst he hc
  exact if_pos hkind

theorem SampleSet.normalise_of_pollutant {e : ChannelEntry} {k : StackEntry} {c : Calibrated}
    {h o : Option Nat} (he : e = set.cfg.channel p.channel) (hk : k = set.cfg.stack e.stack)
    (hh : h = set.reference k.h2oChan) (ho : o = set.reference k.o2Chan) (hc : calibrated e p = c)
    (hkind : e.kind.peripheral = false) : set.normalise p =
      { stack := e.stack, kind := e.kind
        verdict := if c.verdict.valid && dependencyFails e h o then .dependency else c.verdict
        y := c.y, yDry := dryOf e c.y h
        yRef := if c.verdict.valid && dependencyFails e h o then none
          else refOf e k.o2Cap (dryOf e c.y h) o
        outOfCal := c.outOfCal, saturated := c.saturated, conversions := p.conversions } := by
  subst he hk hh ho hc
  exact if_neg (Bool.eq_false_iff.1 hkind)

/-- The fields that a reference it needs does not change (R72, R73). -/
theorem SampleSet.normalise_calibrated {e : ChannelEntry} {c : Calibrated}
    (he : e = set.cfg.channel p.channel) (hc : calibrated e p = c) :
    (set.normalise p).stack = e.stack ∧ (set.normalise p).kind = e.kind ∧
      (set.normalise p).conversions = p.conversions ∧ (set.normalise p).y = c.y ∧
      (set.normalise p).outOfCal = c.outOfCal ∧ (set.normalise p).saturated = c.saturated := by
  cases hkind : e.kind.peripheral with
  | true =>
    rw [SampleSet.normalise_of_peripheral he hc hkind]
    exact ⟨rfl, rfl, rfl, rfl, rfl, rfl⟩
  | false =>
    rw [SampleSet.normalise_of_pollutant he rfl rfl rfl hc hkind]
    exact ⟨rfl, rfl, rfl, rfl, rfl, rfl⟩

/-- A sample with an invalid first verdict keeps it and has no reference value (R73). -/
theorem SampleSet.normalise_of_invalid (h : p.verdict.valid = false) :
    (set.normalise p).verdict = p.verdict ∧ (set.normalise p).yRef = none := by
  have hc := calibrated_of_invalid (e := set.cfg.channel p.channel) h
  cases hkind : (set.cfg.channel p.channel).kind.peripheral with
  | true =>
    rw [SampleSet.normalise_of_peripheral rfl hc hkind]
    exact ⟨rfl, rfl⟩
  | false =>
    rw [SampleSet.normalise_of_pollutant rfl rfl rfl rfl hc hkind, h, dryOf_none, refOf_none]
    exact ⟨rfl, rfl⟩

theorem SampleSet.channel_of_sampleOf {c : Nat} (h : set.sampleOf c = some p) : p.channel = c :=
  of_decide_eq_true (List.find?_some (p := fun q : Sample => decide (q.channel = c)) h)

/-- A reference channel gives the y of its own entry, where its final verdict is valid (R63, R69, R70). -/
theorem SampleSet.reference_of_sampled {c : Nat} (hp : set.sampleOf c = some p)
    (hkind : (set.cfg.channel c).kind.peripheral = true) : set.reference (some c) =
      if (set.normalise p).verdict.valid then (set.normalise p).y else none := by
  rw [← SampleSet.channel_of_sampleOf hp] at hkind
  rw [SampleSet.reference, Option.bind_some, hp, SampleSet.normalise_of_peripheral rfl rfl hkind]

end Fields

section ValidPollutant

variable {set : SampleSet} {p : Sample} {e : ChannelEntry} {k : StackEntry} {c : Calibrated}
  {h o : Option Nat} {y : Nat} (he : e = set.cfg.channel p.channel) (hk : k = set.cfg.stack e.stack)
  (hh : h = set.reference k.h2oChan) (ho : o = set.reference k.o2Chan) (hc : calibrated e p = c)
  (hkind : e.kind.peripheral = false) (hvalid : c.verdict.valid = true) (hy : c.y = some y)

include he hk hh ho hc hkind

include hy in
theorem SampleSet.normalise_yDry : (set.normalise p).yDry = dryOf e (some y) h := by
  rw [SampleSet.normalise_of_pollutant he hk hh ho hc hkind, hy]

include hvalid in
/-- A reference that it needs is invalid (R72). -/
theorem SampleSet.normalise_of_dependency (hmissing : e.wet = true ∧ h = none ∨
    e.o2Ref.isSome = true ∧ o = none) :
    (set.normalise p).verdict = .dependency ∧ (set.normalise p).yRef = none := by
  rw [SampleSet.normalise_of_pollutant he hk hh ho hc hkind, hvalid,
    dependencyFails_iff.2 hmissing]
  exact ⟨rfl, rfl⟩

include hy in
/-- A dry value, and the oxygen value where it needs one, are at hand (R70). -/
theorem SampleSet.normalise_of_yDry {d : Nat} (hd : (set.normalise p).yDry = some d)
    (hoxygen : (e.o2Ref.isSome && o.isNone) = false) :
    (set.normalise p).verdict = c.verdict ∧ (set.normalise p).yRef = refOf e k.o2Cap (some d) o := by
  have hdry : dryOf e (some y) h = some d :=
    (SampleSet.normalise_yDry he hk hh ho hc hkind hy).symm.trans hd
  rw [SampleSet.normalise_of_pollutant he hk hh ho hc hkind, hy, hdry,
    dependencyFails_of_dry hdry, hoxygen, Bool.and_false]
  exact ⟨rfl, rfl⟩

end ValidPollutant

/-! ### The normalised set and the running averages (R74, R85) -/

theorem normalSet_channel (set : SampleSet) (marks : StackSet) {c : Nat} (hc : c < 32) :
    (normalSet set marks).channels[c]? = some {
      second := set.second, value := (set.sampleOf c).map set.normalise } := by
  rw [normalSet, List.getElem?_map, List.getElem?_range hc]
  rfl

theorem normalSet_mark (set : SampleSet) {marks : StackSet} {k : Nat} {m : StackMark} (hk : k < 4)
    (hm : marks.marks[k]? = some m) :
    (normalSet set marks).marks[k]? = some { second := set.second, mark := m } := by
  rw [normalSet, List.getElem?_map, List.getElem?_range hk, Option.map_some,
    List.getD_eq_getElem?_getD, hm]
  rfl

theorem normalSet_lengths (set : SampleSet) (marks : StackSet) :
    (normalSet set marks).channels.length = 32 ∧ (normalSet set marks).marks.length = 4 := by
  simp only [normalSet, List.length_map, List.length_range, and_self]

/-- A channel's running average is the mean of its accumulator in the set of the second's interval. -/
theorem runningAverages_getElem? {a : AccSet} {x : Accumulator} {second c : Nat}
    (hstart : a.start = intervalStart second) (hc : c < 32)
    (hx : a.accs.find? (fun x => decide (x.channel = c)) = some x) :
    (runningAverages [a] second)[c]? = some (meanOf x.sumReg x.validReg) := by
  have hfind : [a].find? (fun a => decide (a.start = intervalStart second)) = some a :=
    List.find?_cons_of_pos (decide_eq_true hstart)
  rw [runningAverages, hfind, List.getElem?_map, List.getElem?_range hc, Option.map_some, hx]
  rfl

theorem addSecond_singleton {a : AccSet} {n : NormSet} (h : a.start = intervalStart n.second) :
    addSecond [a] n = [a.add n] := by
  rw [addSecond, List.map_singleton, if_pos h]

/-! ### NORMALISE_SECOND (R63, R76) -/

section Step

variable {s : State} {p : SampleSet} {ps : List SampleSet} {q : StackSet} {qs : List StackSet}

/-- The sets of the second in progress are next where it has handed both and none waits behind them. -/
theorem State.presentIsNext_iff (hsamples : s.norm.samples = p :: ps) : s.presentIsNext = true ↔
    s.sec.sampleFormed = true ∧ s.sec.checkWaits = none ∧ s.sec.sampled = true ∧
      s.sec.sampleWaits = none ∧ ps = [] := by
  simp only [State.presentIsNext, State.sampleHanded, State.marksHanded, hsamples, List.length_cons,
    Nat.add_eq_right, List.length_eq_zero_iff, Bool.and_eq_true, Option.isNone_iff_eq_none,
    decide_eq_true_eq, and_assoc]

theorem State.rememberLive_eq (hsamples : s.norm.samples = p :: ps) : s.rememberLive = s.remember
    (if s.sec.sampleFormed = true ∧ s.sec.checkWaits = none ∧ s.sec.sampled = true ∧
        s.sec.sampleWaits = none ∧ ps = [] then { s.sec.before with live := some s.liveFound }
      else s.sec.before) :=
  congrArg s.remember (if_congr (State.presentIsNext_iff hsamples) rfl rfl)

/-- The running averages that show with a second of a mode (R85, R151). -/
def State.averagesWith (s : State) (mode : Mode) (n : NormSet) : List (Option Nat) :=
  if mode = .recording then
    runningAverages ((s.recorder.handed ++ [n]).foldl addSecond s.recorder.accSets) n.second
  else List.replicate 32 none

theorem State.averagesWith_of_ne {mode : Mode} (h : mode ≠ .recording) (n : NormSet) :
    s.averagesWith mode n = List.replicate 32 none := if_neg h

/-- The first second handed, its interval's set the only one held. -/
theorem State.averagesWith_getElem? {n : NormSet} {a : AccSet} {x : Accumulator} {c : Nat}
    (hhanded : s.recorder.handed = []) (hsets : s.recorder.accSets = [a])
    (hstart : a.start = intervalStart n.second) (hc : c < 32)
    (hx : (a.add n).accs.find? (fun x => decide (x.channel = c)) = some x) :
    (s.averagesWith .recording n)[c]? = some (meanOf x.sumReg x.validReg) := by
  rw [State.averagesWith, if_pos rfl, hhanded, hsets, List.nil_append, List.foldl_cons,
    List.foldl_nil, addSecond_singleton hstart]
  exact runningAverages_getElem? (a := a.add n) hstart hc hx

theorem State.handSecond_eq (s : State) (mode : Mode) (n : NormSet) : s.handSecond mode n = { s with
    recorder := { s.recorder with
      handed := if mode = .recording then s.recorder.handed ++ [n] else s.recorder.handed
      running := s.averagesWith mode n } } := by
  by_cases h : mode = .recording
  · rw [State.handSecond, if_pos h, if_pos h, State.averagesWith, if_pos h]
  · rw [State.handSecond, if_neg h, if_neg h, State.averagesWith_of_ne h]

/-- A second normalised: shown in the live value buffer, and handed on where it began in RECORDING. -/
theorem State.normaliseSecond_eq {b : SecondBefore} (hsamples : s.norm.samples = p :: ps)
    (hmarks : s.norm.stackSets = q :: qs) (hb : s.rememberLive = s.remember b) :
    s.normaliseSecond p q = { s with
      sec := { s.sec with before := b }
      norm := {
        samples := ps, stackSets := qs, liveChannels := (normalSet p q).channels.map some
        liveStacks := (normalSet p q).marks.map some }
      recorder := { s.recorder with
        handed := if p.mode = .recording then s.recorder.handed ++ [normalSet p q]
          else s.recorder.handed
        running := s.averagesWith p.mode (normalSet p q) } } := by
  rw [State.normaliseSecond, State.handSecond_eq, hb]
  simp only [State.remember, State.showSecond, hsamples, hmarks, List.tail_cons]
  rfl

theorem exec_normaliseSecond (hrun : s.running = true) (hsamples : s.norm.samples = p :: ps)
    (hmarks : s.norm.stackSets = q :: qs) : exec .normaliseSecond s =
      .next (if p.second = q.second then s.normaliseSecond p q else s) := by
  show execNormaliseSecond s = _
  rw [execNormaliseSecond, hrun, hsamples, hmarks]

end Step

/-- Settles O41: a sample's fields by its kind and the references that it needs, and the step by the state that it
leaves, whose set is the normalised set of the two at hand. -/
theorem secondsAreNormalised : Obligations.SecondsAreNormalised := by
  refine ⟨fun set p e k n h o he hk hn hh ho => ?_, fun s p ps q qs b hb hrun hsamples hmarks => ?_⟩
  · subst hn
    obtain ⟨hstack, hkind, hconversions, -, -, -⟩ := SampleSet.normalise_calibrated he rfl
    refine ⟨fun c q => SampleSet.reference_of_sampled, hstack, hkind, hconversions,
      fun hinvalid => ?_, fun v y w hvalid hsource hy hw => ?_⟩
    · obtain ⟨hverdict, href⟩ := SampleSet.normalise_of_invalid (set := set) hinvalid
      obtain ⟨-, -, -, hny, hcal, hsat⟩ :=
        SampleSet.normalise_calibrated he (calibrated_of_invalid hinvalid)
      exact ⟨hverdict, hny, href, hcal, hsat⟩
    · have hc := calibrated_of_valid hvalid (enteringValue_of_source hsource)
      have hverdict : ceilingVerdict p.verdict v = w := hw.symm
      have hwvalid : w.valid = true := hverdict ▸ ceilingVerdict_valid hvalid v
      rw [hverdict, clampValue_eq, ← hy] at hc
      obtain ⟨-, -, -, hny, hcal, hsat⟩ := SampleSet.normalise_calibrated he hc
      refine ⟨hny, hcal, hsat, fun hperipheral => ?_, fun hpollutant => ?_⟩
      · rw [SampleSet.normalise_of_peripheral he hc hperipheral]
        exact ⟨rfl, rfl, rfl⟩
      have hdry := SampleSet.normalise_yDry he hk hh ho hc hpollutant rfl
      refine ⟨SampleSet.normalise_of_dependency he hk hh ho hc hpollutant hwvalid,
        fun hwet hwater => hdry.trans (by rw [hwater, dryOf_eq_none hwet]),
        fun hunwet => hdry.trans (dryOf_of_dry hunwet),
        fun x hwet hwater => hdry.trans (by rw [hwater, dryOf_of_wet hwet]; rfl),
        fun d hd => ⟨fun href => ?_, fun r x href hoxygen => ?_⟩⟩
      · rw [← refOf_of_unreferenced href k.o2Cap (y := some d) (o := o)]
        exact SampleSet.normalise_of_yDry he hk hh ho hc hpollutant rfl hd (by rw [href]; rfl)
      · have hfields := SampleSet.normalise_of_yDry he hk hh ho hc hpollutant rfl hd
          (by rw [hoxygen]; exact Bool.and_false _)
        rwa [hoxygen, refOf_of_referenced href] at hfields
  · have hexec := exec_normaliseSecond hrun hsamples hmarks
    refine ⟨fun hapart => hexec.trans (by rw [if_neg hapart]), fun hpaired =>
      ⟨normalSet p q, s.averagesWith p.mode (normalSet p q), ?_, rfl, (normalSet_lengths p q).1,
        (normalSet_lengths p q).2, fun c => normalSet_channel p q, fun k m => normalSet_mark p,
        fun hmode => State.averagesWith_of_ne hmode _,
        fun a hmode hhanded hsets hstart c x hc hx => ?_⟩⟩
    · have hlive : s.rememberLive = s.remember b := by
        rw [State.rememberLive_eq hsamples, hb]
        rfl
      rw [hexec, if_pos hpaired, State.normaliseSecond_eq hsamples hmarks hlive]
    · rw [hmode]
      exact State.averagesWith_getElem? hhanded hsets hstart hc hx

end Sys2Proof.Machine
end

section
/-! The bound on the write queue and on the queues of the snapshots (R98, R158), O5, and the part's invariants as it
leaves the factory, O4. -/

namespace Sys2Proof.Machine

/-- What `State.QueueBounded` says of the view of a state. -/
def View.QueueBounded (v : View) : Prop :=
  v.queue.length ≤ 96 ∧ (∀ p, v.snap = some p → p.queue.length ≤ 96) ∧
    ∀ p, v.taking = some p → p.queue.length ≤ 96

theorem State.queueBounded_view (s : State) : s.view.QueueBounded ↔ s.QueueBounded := Iff.rfl

/-- Within a power phase the queue grows by an offer to one that has room, and no snapshot is taken. -/
theorem InnerMove.queueBounded {v w : View} (h : InnerMove v w) (hv : v.QueueBounded) :
    w.QueueBounded := by
  obtain ⟨hqueue, hsnap, htaking⟩ := hv
  cases h with
  | offer x hroom =>
    refine ⟨?_, hsnap, htaking⟩
    rw [List.length_append, List.length_singleton]
    exact hroom
  | dequeue =>
    refine ⟨?_, hsnap, htaking⟩
    rw [List.length_tail]
    exact (Nat.sub_le _ _).trans hqueue
  | emptyQueue => exact ⟨Nat.zero_le _, hsnap, htaking⟩
  | forget => exact ⟨hqueue, (fun _ hp => nomatch hp), htaking⟩
  | _ => exact ⟨hqueue, hsnap, htaking⟩

/-- A snapshot holds the queue as it stands, and a recovery takes the held one up. -/
theorem QuietMove.queueBounded {v w : View} (h : QuietMove v w) (hv : v.QueueBounded) :
    w.QueueBounded := by
  obtain ⟨hqueue, hsnap, htaking⟩ := hv
  cases h with
  | inner h => exact h.queueBounded ⟨hqueue, hsnap, htaking⟩
  | halt => exact ⟨hqueue, hsnap, (fun _ hp => nomatch hp)⟩
  | take p hmode hsuspended hsame =>
    refine ⟨hqueue, hsnap, fun q hq => ?_⟩
    rw [← Option.some.inj hq, hsame]
    exact hqueue
  | keep => exact ⟨hqueue, htaking, htaking⟩
  | restore p hheld => exact ⟨hsnap p hheld, hsnap, htaking⟩
  | _ => exact ⟨hqueue, hsnap, htaking⟩

theorem Move.queueBounded {v w : View} (h : Move v w) (hv : v.QueueBounded) : w.QueueBounded := by
  obtain ⟨hqueue, hsnap, htaking⟩ := hv
  cases h with
  | quiet h => exact h.queueBounded ⟨hqueue, hsnap, htaking⟩
  | start mode hmode => exact ⟨hqueue, hsnap, (fun _ hp => nomatch hp)⟩
  | _ => exact ⟨hqueue, hsnap, htaking⟩

/-- What every move of a view keeps, a whole command keeps. -/
theorem Outer.keeps {P : View → Prop} (hmove : ∀ v w, Move v w → P v → P w) {s t : State}
    (h : Outer s t) (hs : P s.view) : P t.view := by
  have key : ∀ v w, Relation.ReflTransGen Move v w → P v → P w := by
    intro v w h hv
    induction h with
    | refl => exact hv
    | tail _ hlast ih => exact hmove _ _ hlast ih
  exact key _ _ h hs

/-- A step does what its command can do to the part, the command having left the queue; an idle part stays. -/
theorem step_outer {s t : State} (h : step s = .next t) :
    ∃ rest, Outer { s with pending := rest } t := by
  cases hp : s.pending with
  | nil =>
    simp only [step, hp] at h
    refine ⟨[], ?_⟩
    rw [← Host.Outcome.next.inj h, ← hp]
    exact (Inner.refl s).outer
  | cons i rest =>
    simp only [step, hp] at h
    exact ⟨rest, exec_outer h⟩

/-- Settles O5: every move that a command can make of a state's view keeps the bound. -/
theorem writeQueueNeverExceeds96 : Obligations.WriteQueueNeverExceeds96 := by
  intro s t hs h
  obtain ⟨rest, hmoves⟩ := step_outer h
  exact t.queueBounded_view.1 (hmoves.keeps (fun _ _ => Move.queueBounded) hs)

/-- Settles O4: the queues and rings are empty, no snapshot is held, and no stored mode is SUSPENDED. -/
theorem resetMeetsTheInvariants : Obligations.ResetMeetsTheInvariants := by
  refine ⟨⟨Nat.zero_le _, (fun _ hp => nomatch hp), (fun _ hp => nomatch hp)⟩, reset_cellsWf, ?_,
    ⟨?_, by decide⟩, by decide, by decide, (fun _ hp => nomatch hp), (fun _ hp => nomatch hp),
    by decide, by decide⟩
  · intro l
    cases l <;> decide
  · intro l
    cases l <;> decide

end Sys2Proof.Machine
end

section
/-! Records offered to the queue (R98, R99), the recorder's grants (R15, R134, R135, R138, R142), and O29. -/

namespace Sys2Proof.Machine

/-! ### A record offered to a full queue -/

/-- Outside STARTING a record offered to a queue that is full is counted, and raises STORE (R99). -/
theorem State.offer_full {s : State} (hfull : s.recorder.queue.length = queueCapacity)
    (hpower : s.supply.power ≠ .starting) (x : QueueItem) : s.offer x =
      { s with
        recorder := { s.recorder with notStored := saturate16 s.recorder.notStored 1 }
        attention := s.attention.raiseAll flagStore } := by
  have hclosed : ¬ s.queueOpen = true := by simp [State.queueOpen, hfull]
  rw [State.offer, if_neg hclosed, State.raiseAll_running (by exact hpower)]

/-! ### Room in a ring -/

section Grants

variable {s : State} {g : Grant} {r : RingName} {item : QueueItem} {rest : List QueueItem}

theorem Pointers.full_iff (p : Pointers) (r : RingName) :
    p.full r = true ↔ p.oldest ≠ 0 ∧ p.newest + 1 - p.oldest = r.capacity := by
  simp [Pointers.full]

theorem State.makeRoom_ring (hring : item.ring = some r) : s.makeRoom item =
    if (s.store.pointers r).full r then s.overwrite r else s := by
  rw [State.makeRoom, hring]

/-- A store whose ring has lost its oldest record. -/
def Store.overwritten (st : Store) (r : RingName) : Store :=
  (st.setPointers r (st.pointers r).overwrite).dropAt r (r.position (st.pointers r).oldest)

theorem Store.overwritten_pointers (st : Store) (r : RingName) :
    (st.overwritten r).pointers r = (st.pointers r).overwrite := by
  cases r <;> rfl

/-- An oldest record that is collected, or no longer there, is dropped in silence (R135). -/
theorem State.overwrite_collected
    (h : (s.store.pointers r).oldest ≤ (s.store.pointers r).collected ∨
      s.store.numberAt r (r.position (s.store.pointers r).oldest) ≠
        some (s.store.pointers r).oldest) :
    s.overwrite r = { s with store := s.store.overwritten r } := by
  refine if_neg ?_
  rintro ⟨hlater, hthere⟩
  exact h.elim (Nat.not_le_of_lt hlater) fun hgone => hgone hthere

/-- One that is not yet collected is counted, and raises COLLECTION_DUE (R135). -/
theorem State.overwrite_uncollected (hrun : s.running = true)
    (hlater : (s.store.pointers r).collected < (s.store.pointers r).oldest)
    (hthere : s.store.numberAt r (r.position (s.store.pointers r).oldest) =
      some (s.store.pointers r).oldest) :
    s.overwrite r = { s with
      store := s.store.overwritten r
      recorder := { s.recorder with overwritten := saturate16 s.recorder.overwritten 1 }
      attention := s.attention.raiseAll flagCollectionDue } :=
  (if_pos ⟨hlater, hthere⟩).trans (State.raiseAll_of_running (by exact hrun) _)

/-! ### The recorder's writes begin -/

/-- A ring record's write carries the pointers that follow it (R134). -/
theorem State.programQueued_ring (hring : item.ring = some r) : s.programQueued item =
    s.programmed (s.nextArea.setPointers r (s.store.pointers r).written) := by
  cases item <;> simp only [QueueItem.ring, Option.some.injEq, reduceCtorEq] at hring <;>
    subst hring <;> exact s.programArea_eq _

theorem exec_transferWriteGrant (h : s.grants g .transfer) :
    exec .transferWriteGrant s = .next ((s.programmed { s.nextArea with
      tables := s.config.active, stage := s.config.stage }).withBegun g) := by
  show execTransferWriteGrant s = _
  rw [execTransferWriteGrant, (s.grantOf_eq_some _ _).2 h]
  show Host.Outcome.next (s.programTransfer.startGrant g) = _
  rw [State.programTransfer, State.programArea_eq]
  rfl

theorem exec_protectionWordGrant (h : s.grants g .protection) :
    exec .protectionWordGrant s = .next ((s.programmed { s.nextArea with
      protection := s.store.closedThrough }).withBegun g) := by
  show execProtectionWordGrant s = _
  rw [execProtectionWordGrant, (s.grantOf_eq_some _ _).2 h]
  show Host.Outcome.next (s.programProtection.startGrant g) = _
  rw [State.programProtection, State.programArea_eq]
  rfl

theorem exec_queueWriteGrant (h : s.grants g .queue) (hqueue : s.recorder.queue = item :: rest) :
    exec .queueWriteGrant s = .next (((s.makeRoom item).programQueued item).startGrant g) := by
  show execQueueWriteGrant s = _
  rw [execQueueWriteGrant, (s.grantOf_eq_some _ _).2 h]
  show Host.Outcome.next (s.beginQueueWrite g) = _
  rw [State.beginQueueWrite, hqueue]

/-- A queue write into a ring, from the state in which the ring has room (R134, R138). -/
theorem exec_queueWriteGrant_ring {t : State} (h : s.grants g .queue)
    (hqueue : s.recorder.queue = item :: rest) (hring : item.ring = some r)
    (hroom : s.makeRoom item = t) : exec .queueWriteGrant s =
      .next ((t.programmed (t.nextArea.setPointers r (t.store.pointers r).written)).withBegun g) := by
  rw [exec_queueWriteGrant h hqueue, hroom, State.programQueued_ring hring]
  rfl

theorem State.makeRoom_of_full (hring : item.ring = some r)
    (hfull : (s.store.pointers r).oldest ≠ 0 ∧
      (s.store.pointers r).newest + 1 - (s.store.pointers r).oldest = r.capacity) :
    s.makeRoom item = s.overwrite r := by
  rw [State.makeRoom_ring hring, if_pos ((Pointers.full_iff _ _).2 hfull)]

end Grants

/-- Settles O29: an offer by the queue's room, and each grant's write from the state in which its ring has room. -/
theorem recordsAreOfferedAndTheirWritesBegin : Obligations.RecordsAreOfferedAndTheirWritesBegin := by
  refine ⟨fun s x => ⟨fun hopen => State.offer_open hopen x,
    fun hfull hpower => State.offer_full hfull hpower x⟩, ?_⟩
  rintro s t g r p p' writes rfl
  refine ⟨exec_transferWriteGrant, exec_protectionWordGrant, fun hg =>
    ⟨fun i c rest hqueue => exec_queueWriteGrant hg hqueue, ?_⟩⟩
  rintro item rest hqueue hring rfl
  refine ⟨fun hroom => ?_, ?_⟩
  · have hnotFull : ¬ (s.store.pointers r).full r = true := by
      rw [Pointers.full_iff]
      exact fun h => hroom.elim h.1 fun hless => hless h.2
    exact exec_queueWriteGrant_ring hg hqueue hring
      ((State.makeRoom_ring hring).trans (if_neg hnotFull))
  · rintro holdest hcapacity rfl rfl
    have hfull := State.makeRoom_of_full (s := s) hring ⟨holdest, hcapacity⟩
    have hpointers := s.store.overwritten_pointers r
    refine ⟨fun hcollected => ?_, fun hlater hthere => ?_⟩
    · rw [exec_queueWriteGrant_ring hg hqueue hring
        (hfull.trans (State.overwrite_collected hcollected)), hpointers]
      rfl
    · rw [exec_queueWriteGrant_ring hg hqueue hring
        (hfull.trans (State.overwrite_uncollected hg.1 hlater hthere)), hpointers]
      rfl

end Sys2Proof.Machine
end

section
/-! Queue writes that verify (R105, R134, R136, R138, R149), and O30. -/

namespace Sys2Proof.Machine

/-! ### One ring of the store -/

section Rings

variable (st : Store) {r r' : RingName}

theorem Store.setPointers_same (r : RingName) (p : Pointers) :
    (st.setPointers r p).pointers r = p := by
  cases r <;> rfl

theorem Store.setPointers_other (h : r' ≠ r) (p : Pointers) :
    (st.setPointers r p).pointers r' = st.pointers r' := by
  revert h
  cases r <;> cases r' <;> simp [Store.setPointers, Store.pointers]

theorem Store.setPointers_cell (r : RingName) (p : Pointers) (r' : RingName) (n : Nat) :
    (st.setPointers r p).cell r' n = st.cell r' n := by
  cases r <;> cases r' <;> rfl

theorem Store.setArmed_same (r : RingName) (b : Bool) : (st.setArmed r b).armed r = b := by
  cases r <;> rfl

theorem Store.setArmed_self (r : RingName) : st.setArmed r (st.armed r) = st := by
  cases r <;> rfl

theorem Store.setArmed_pointers (r : RingName) (b : Bool) (r' : RingName) :
    (st.setArmed r b).pointers r' = st.pointers r' := by
  cases r <;> cases r' <;> rfl

theorem Store.setArmed_cell (r : RingName) (b : Bool) (r' : RingName) (n : Nat) :
    (st.setArmed r b).cell r' n = st.cell r' n := by
  cases r <;> cases r' <;> rfl

/-- A ring's pointers and its mark are none of the rest of the store. -/
theorem Store.setPointers_setArmed_rest (r : RingName) (p : Pointers) (b : Bool) :
    ((st.setPointers r p).setArmed r b).area = st.area ∧
      ((st.setPointers r p).setArmed r b).areaSpare = st.areaSpare ∧
      ((st.setPointers r p).setArmed r b).intervalSpare = st.intervalSpare ∧
      st.sameButRings ((st.setPointers r p).setArmed r b) := by
  cases r <;> exact ⟨rfl, rfl, rfl, rfl, rfl, rfl, rfl, rfl, rfl⟩

end Rings

/-! ### A record written to its ring -/

/-- The images of the configuration area in each other's place (R148). -/
def Store.swapped (st : Store) : Store := { st with area := st.areaSpare, areaSpare := st.area }

theorem Store.swapped_cell (st : Store) (r : RingName) (n : Nat) :
    st.swapped.cell r n = st.cell r n := by
  cases r <;> rfl

theorem Store.swapped_pointers (st : Store) (r : RingName) :
    st.swapped.pointers r = st.pointers r := by
  cases r <;> rfl

theorem Store.swapped_armed (st : Store) (r : RingName) : st.swapped.armed r = st.armed r := by
  cases r <;> rfl

/-- A store in which a record has been written to its ring (R134, R136, R148). -/
def Store.recorded (st : Store) (r : RingName) (item : QueueItem) : Store :=
  (((st.putRecord item).setPointers r (st.pointers r).written).setArmed r
    (decide (headroomMark ≤ (st.pointers r).written.headroom r))).swapped

section Recorded

variable (st : Store) {item : QueueItem} {r : RingName}

theorem Store.recorded_cell (r : RingName) (item : QueueItem) (r' : RingName) (n : Nat) :
    (st.recorded r item).cell r' n = (st.putRecord item).cell r' n := by
  rw [Store.recorded, Store.swapped_cell, Store.setArmed_cell, Store.setPointers_cell]

theorem Store.recorded_pointers_same (r : RingName) (item : QueueItem) :
    (st.recorded r item).pointers r = (st.pointers r).written := by
  rw [Store.recorded, Store.swapped_pointers, Store.setArmed_pointers, Store.setPointers_same]

theorem Store.recorded_pointers_other (hring : item.ring = some r) {r' : RingName} (h : r' ≠ r) :
    (st.recorded r item).pointers r' = st.pointers r' := by
  obtain ⟨-, -, hkept, -⟩ := st.putRecord_ring hring
  rw [Store.recorded, Store.swapped_pointers, Store.setArmed_pointers,
    Store.setPointers_other _ h, (hkept r').1]

theorem Store.recorded_armed (r : RingName) (item : QueueItem) : (st.recorded r item).armed r =
    decide (headroomMark ≤ (st.pointers r).written.headroom r) := by
  rw [Store.recorded, Store.swapped_armed, Store.setArmed_same]

/-- The images of the area have changed places; nothing but rings and images is new. -/
theorem Store.recorded_rest (hring : item.ring = some r) :
    (st.recorded r item).area = st.areaSpare ∧ (st.recorded r item).areaSpare = st.area ∧
      (st.recorded r item).intervalSpare = st.intervalSpare ∧
      st.sameButRings (st.recorded r item) := by
  obtain ⟨-, -, -, harea, hareaSpare, hspare, hsame⟩ := st.putRecord_ring hring
  obtain ⟨harea', hareaSpare', hspare', hsame'⟩ := (st.putRecord item).setPointers_setArmed_rest r
    (st.pointers r).written (decide (headroomMark ≤ (st.pointers r).written.headroom r))
  obtain ⟨h1, h2, h3, h4, h5, h6⟩ := hsame
  obtain ⟨k1, k2, k3, k4, k5, k6⟩ := hsame'
  exact ⟨hareaSpare'.trans hareaSpare, harea'.trans harea, hspare'.trans hspare, k1.trans h1,
    k2.trans h2, k3.trans h3, k4.trans h4, k5.trans h5, k6.trans h6⟩

end Recorded

/-! ### The write that verifies -/

section Written

variable {s : State} {g : Grant} {item : QueueItem} {rest : List QueueItem} {r : RingName}

theorem exec_queueVerified (hp : s.programs g .queue) (hqueue : s.recorder.queue = item :: rest) :
    exec (.writeAttemptComplete .verified) s = .next ((s.written item).granted none).settle := by
  obtain ⟨hrun, hgrant, hclaim, hbegun⟩ := hp
  rw [exec_writeAttemptComplete hrun hgrant hbegun, State.attemptEnds, State.writeVerified, hclaim]
  simp only [hqueue]
  rfl

/-- The headroom after a ring write: its flag is raised where it has just fallen below the mark, and armed again where
it has not (R136). -/
theorem State.checkHeadroom_eq (hrun : s.running = true) (r : RingName) : s.checkHeadroom r =
    { s with
      store := s.store.setArmed r (decide (headroomMark ≤ (s.store.pointers r).headroom r))
      attention := if (s.store.pointers r).headroom r < headroomMark ∧ s.store.armed r = true then
        s.attention.raiseAll flagCollectionDue else s.attention } := by
  rw [State.checkHeadroom, Store.low]
  by_cases hlow : (s.store.pointers r).headroom r < headroomMark
  · rw [if_pos (decide_eq_true hlow), decide_eq_false (Nat.not_le_of_lt hlow)]
    cases harmed : s.store.armed r with
    | true =>
      rw [if_pos rfl, if_pos ⟨hlow, rfl⟩]
      exact State.raiseAll_of_running (by exact hrun) _
    | false =>
      have hself := s.store.setArmed_self r
      rw [harmed] at hself
      rw [if_neg Bool.false_ne_true, if_neg fun h => Bool.false_ne_true h.2, hself]
  · rw [if_neg (by simp [hlow]), decide_eq_true (Nat.not_lt.mp hlow), if_neg fun h => hlow h.1]

/-- The record of the queue's head put in its ring, its number handed back and the pointers moved on. -/
def State.recordPut (r : RingName) (item : QueueItem) (s : State) : State :=
  ({ s with store := s.store.putRecord item }.dequeue.advanceRing r).handBack item
    (s.store.pointers r).following

/-- The written record is in its ring, and an interval record's slot has its number (R105, R134, R138). -/
theorem State.written_ring (hrun : s.running = true) (hring : item.ring = some r) :
    s.written item = { s with
      recorder := (s.dequeue.handBack item (s.store.pointers r).following).recorder
      store := s.store.recorded r item
      attention := if (s.store.pointers r).written.headroom r < headroomMark ∧
          s.store.armed r = true then
        s.attention.raiseAll flagCollectionDue else s.attention } := by
  have hput : s.written item = (s.recordPut r item).checkHeadroom r := by
    rw [State.written, hring]
    rfl
  have hrunPut : (s.recordPut r item).running = true := by
    cases item <;> exact hrun
  rw [hput, State.checkHeadroom_eq hrunPut]
  cases item <;> simp only [QueueItem.ring, Option.some.injEq, reduceCtorEq] at hring <;>
    subst hring <;> rfl

end Written

/-- Settles O30: what the written record leaves of its ring, of the other rings and of the rest of the part. -/
theorem queuedRecordsAreWritten : Obligations.QueuedRecordsAreWritten := by
  constructor
  · rintro s g item rest r q p hp - hqueue hring rfl rfl
    obtain ⟨hcell, hothers, -⟩ := s.store.putRecord_ring hring
    obtain ⟨harea, hareaSpare, hspare, hsame⟩ := s.store.recorded_rest hring
    have htail : s.recorder.queue.tail = rest := by rw [hqueue]; rfl
    refine ⟨_, exec_queueVerified hp hqueue, ?_⟩
    rw [State.written_ring hp.1 hring]
    refine ⟨⟨rfl, rfl, rfl, rfl, rfl, rfl, rfl, rfl, rfl⟩, rfl, rfl, rfl, hsame, ?_, ?_, ?_, ?_,
      s.store.recorded_pointers_same r item, fun r' h => s.store.recorded_pointers_other hring h,
      harea, hareaSpare, hspare, s.store.recorded_armed r item, rfl⟩
    · rintro x rfl
      cases hring
      rw [← htail]
      rfl
    · intro hother
      rw [← htail]
      cases item with
      | interval x => exact absurd rfl (hother x)
      | _ => rfl
    · exact (s.store.recorded_cell r item r _).trans hcell
    · exact fun r' n h => (s.store.recorded_cell r item r' n).trans (hothers r' n h)
  · rintro s t g i c old rest hp hqueue hold rfl
    have htail : s.recorder.queue.tail = rest := by rw [hqueue]; rfl
    have hformer : s.store.tally.getD i (.blank .unused none) = old := by
      rw [List.getD_eq_getElem?_getD, hold, Option.getD_some]
    rw [exec_queueVerified hp hqueue, ← htail, ← hformer]
    rfl

end Sys2Proof.Machine
end

section
/-! How a closed interval is judged (R87 to R92, R96), and O43. -/

namespace Sys2Proof.Machine

/-! ### Averages, classes and validity (R87 to R89) -/

theorem meanOf_eq_some {sum count v : Nat} :
    meanOf sum count = some v ↔ count ≠ 0 ∧ v = roundHalfUp sum count := by
  rw [meanOf]
  split
  · next h => simp [h]
  · next h => simp [h, eq_comm]

section Judged

variable (x : Accumulator)

theorem Accumulator.intervalClass_eq_notOperating :
    x.intervalClass = .notOperating ↔ x.secsOp + x.secsAbn = 0 := by
  rw [Accumulator.intervalClass]
  split
  · next h => exact iff_of_true rfl h
  · next h =>
    refine iff_of_false ?_ h
    split <;> exact nofun

/-- One abnormal second makes an interval that was in operation ABNORMAL. -/
theorem Accumulator.intervalClass_of_operating (h : x.secsOp + x.secsAbn ≠ 0) :
    x.intervalClass = if 1 ≤ x.secsAbn then .abnormal else .operating := if_neg h

theorem Accumulator.validity_of_idle (h : x.secsOp + x.secsAbn = 0) : x.validity = .none := if_pos h

/-- Two thirds of the regulated seconds decide. -/
theorem Accumulator.validity_of_operating (h : x.secsOp + x.secsAbn ≠ 0) : x.validity =
    if (x.secsOp + x.secsAbn) * 2 ≤ x.validReg * 3 then .valid else .invalid := if_neg h

theorem Accumulator.validity_eq_valid (h : x.secsOp + x.secsAbn ≠ 0) :
    x.validity = .valid ↔ (x.secsOp + x.secsAbn) * 2 ≤ x.validReg * 3 := by
  rw [x.validity_of_operating h]
  split <;> simp [*]

theorem Accumulator.validity_eq_invalid (h : x.secsOp + x.secsAbn ≠ 0) :
    x.validity = .invalid ↔ x.validReg * 3 < (x.secsOp + x.secsAbn) * 2 := by
  rw [x.validity_of_operating h, ← Nat.not_le]
  split <;> simp [*]

end Judged

theorem exceeds_iff (c : IntervalClass) (v : Validity) (limit validated : Option Nat) :
    exceeds c v limit validated = true ↔ c = .operating ∧ v = .valid ∧
      ∃ l x, limit = some l ∧ validated = some x ∧ l < x := by
  unfold exceeds
  rw [Bool.and_eq_true, Bool.and_eq_true, decide_eq_true_eq, decide_eq_true_eq, and_assoc]
  cases limit with
  | none => simp
  | some l => cases validated <;> simp

/-! ### The load (R92) -/

section Loads

variable (a : AccSet)

theorem AccSet.flowAverage_eq_some {stack w : Nat} : a.flowAverage stack = some w ↔
    ∃ f y, (a.cfg.stack stack).flowChan = some f ∧
      a.accs.find? (fun y => decide (y.channel = f)) = some y ∧ y.validity = .valid ∧
      meanOf y.sumReg y.validReg = some w := by
  rw [AccSet.flowAverage]
  cases (a.cfg.stack stack).flowChan with
  | none => simp
  | some f => simp [Option.bind_eq_some_iff]

theorem AccSet.load_eq_some (x : Accumulator) {m : Nat} : a.load x = some m ↔
    ((a.cfg.channel x.channel).kind.peripheral = false ∧ x.validity = .valid) ∧
      ∃ dry w, meanOf x.sumDry x.validReg = some dry ∧
        a.flowAverage (a.cfg.channel x.channel).stack = some w ∧
        m = roundHalfUp (dry * w * (x.secsOp + x.secsAbn))
          (loadDivisor (a.cfg.channel x.channel).kind) := by
  rw [AccSet.load]
  split
  · next h =>
    rw [and_iff_right h]
    cases meanOf x.sumDry x.validReg with
    | none => simp
    | some dry =>
      cases a.flowAverage (a.cfg.channel x.channel).stack <;> simp [eq_comm]
  · next h => simp [h]

theorem IntervalRec.loadGap_iff (r : IntervalRec) : r.loadGap = true ↔
    r.kind.peripheral = false ∧ r.origClass ≠ .notOperating ∧ r.load = none := by
  simp [IntervalRec.loadGap, and_assoc]

end Loads

/-- Settles O43: the judged fields by the lemmas above, every other field as the record copies it. -/
theorem intervalsAreJudged : Obligations.IntervalsAreJudged := by
  rintro a x e r ci rfl rfl hci
  have hconfidence : ci = (a.cfg.channel x.channel).confidence := hci.trans rfl
  refine ⟨rfl, rfl, rfl, rfl, rfl, rfl, rfl, rfl, rfl, rfl, rfl, rfl, rfl, rfl, rfl, rfl, rfl, rfl,
    rfl, rfl, fun hidle => ⟨x.intervalClass_eq_notOperating.2 hidle, x.validity_of_idle hidle⟩,
    fun hregulated => ⟨fun habnormal => ?_, fun hnormal => ?_,
      x.validity_eq_valid hregulated, x.validity_eq_invalid hregulated⟩, rfl, rfl, ?_,
    exceeds_iff _ _ _ _, fun m => ?_, ?_⟩
  · exact (x.intervalClass_of_operating hregulated).trans (if_pos habnormal)
  · exact (x.intervalClass_of_operating hregulated).trans (if_neg (by omega))
  · exact hconfidence ▸ rfl
  · show a.load x = some m ↔ _
    rw [AccSet.load_eq_some, and_assoc]
    refine and_congr_right fun _ => and_congr_right fun _ => ?_
    constructor
    · rintro ⟨dry, w, hdry, hflow, rfl⟩
      obtain ⟨hcount, rfl⟩ := meanOf_eq_some.1 hdry
      obtain ⟨f, y, hchannel, hfind, hvalid, hmean⟩ := a.flowAverage_eq_some.1 hflow
      exact ⟨hcount, f, y, hchannel, hfind, hvalid, w, hmean, rfl⟩
    · rintro ⟨hcount, f, y, hchannel, hfind, hvalid, w, hmean, rfl⟩
      exact ⟨_, w, meanOf_eq_some.2 ⟨hcount, rfl⟩,
        a.flowAverage_eq_some.2 ⟨f, y, hchannel, hfind, hvalid, hmean⟩, rfl⟩
  · rw [IntervalRec.loadGap_iff]
    exact and_congr_right fun _ => and_congr_left fun _ =>
      not_congr x.intervalClass_eq_notOperating

end Sys2Proof.Machine
end

section
/-! What a record adds to its day entry (R101, R105), and O44. -/

namespace Sys2Proof.Machine

theorem tick_of_iff {b : Bool} {p : Prop} [Decidable p] (h : b = true ↔ p) (n : Nat) :
    tick b n = n + if p then 1 else 0 := by
  by_cases hp : p
  · rw [if_pos hp]
    exact if_pos (h.2 hp)
  · rw [if_neg hp]
    exact if_neg (mt h.1 hp)

theorem tick_decide (p : Prop) [Decidable p] (n : Nat) :
    tick (decide p) n = n + if p then 1 else 0 := tick_of_iff decide_eq_true_iff n

theorem countsValid_iff (c : IntervalClass) (v : Validity) :
    countsValid c v = true ↔ c = .operating ∧ v = .valid := by
  simp [countsValid]

theorem countsInvalid_iff (c : IntervalClass) (v : Validity) :
    countsInvalid c v = true ↔ c = .operating ∧ v = .invalid := by
  simp [countsInvalid]

section Contribution

variable {r : IntervalRec}

/-- A valid OPERATING interval enters the day's average and maximum. -/
theorem DayEntry.contribute_valid (h : countsValid r.finalClass r.finalValid = true) (st : MapState)
    (e : DayEntry) : (e.contribute r st).nValid = e.nValid + 1 ∧
      (e.contribute r st).sumValidated = e.sumValidated + r.validated.getD 0 ∧
      (e.contribute r st).maximum = raiseMax e.maximum (r.validated.getD 0) r.start :=
  ⟨if_pos h, if_pos h, if_pos h⟩

/-- Any other leaves them. -/
theorem DayEntry.contribute_other (h : ¬ countsValid r.finalClass r.finalValid = true)
    (st : MapState) (e : DayEntry) : (e.contribute r st).nValid = e.nValid ∧
      (e.contribute r st).sumValidated = e.sumValidated ∧
      (e.contribute r st).maximum = e.maximum :=
  ⟨if_neg h, if_neg h, if_neg h⟩

/-- The record's own slot is filled, and every other stays (R105). -/
theorem DayEntry.contribute_map (r : IntervalRec) (st : MapState) {e : DayEntry} {i : Nat}
    {m : MapSlot} (h : e.map[i]? = some m) : (e.contribute r st).map[i]? =
      some (if i = intervalOfDay r.start then .filled r st else m) := by
  show (e.map.set (intervalOfDay r.start) (.filled r st))[i]? = _
  by_cases hi : i = intervalOfDay r.start
  · subst hi
    rw [if_pos rfl, List.getElem?_set_self (List.getElem?_eq_some_iff.1 h).1]
  · rw [if_neg hi, List.getElem?_set_ne (Ne.symm hi), h]

end Contribution

/-- Settles O44: the counts as they tick, the maximum and the sums by whether the interval counts. -/
theorem recordsContributeToTheirDay : Obligations.RecordsContributeToTheirDay := by
  rintro r e d st valid rfl hvalid
  have hcounts : countsValid r.finalClass r.finalValid = true ↔ valid :=
    (countsValid_iff _ _).trans hvalid.symm
  have hadds (h : valid) := DayEntry.contribute_valid (hcounts.2 h) st e
  refine ⟨rfl, rfl, fun h => ⟨(hadds h).1, (hadds h).2.1⟩,
    fun h => DayEntry.contribute_other (mt hcounts.1 h) st e,
    tick_of_iff (countsInvalid_iff _ _) _, tick_decide _ _, tick_decide _ _, fun h hnone => ?_,
    fun m t h hsome => ?_, tick_of_iff Iff.rfl _, rfl, tick_of_iff Iff.rfl _, ?_, rfl, rfl,
    rfl, rfl, fun i m hm => DayEntry.contribute_map r st hm⟩
  · rw [(hadds h).2.2, hnone]
    rfl
  · rw [(hadds h).2.2, hsome, raiseMax, apply_ite some]
  · rw [add_ite]
    rfl

end Sys2Proof.Machine
end

section
/-! A second added to its interval (R82 to R84), the interval that it completes (R86, R97), and O42. -/

namespace Sys2Proof.Machine

/-! ### One accumulator (R83, R84) -/

theorem Verdict.valid_iff (v : Verdict) : v.valid = true ↔ v = .good ∨ v = .saturated := by
  cases v <;> simp [Verdict.valid]

theorem StackState.regulated_iff (k : StackState) :
    k.regulated = true ↔ k = .operating ∨ k = .abnormal := by
  cases k <;> simp [StackState.regulated]

section Added

variable (x : Accumulator) {v : NormValue} {k : StackState}

/-- A valid value of a regulated second enters the interval's own sums. -/
theorem Accumulator.add_counted (hregulated : k.regulated = true) (hvalid : v.verdict.valid = true) :
    (x.add v k).validReg = x.validReg + 1 ∧ (x.add v k).sumReg = x.sumReg + v.yRef.getD 0 ∧
      (x.add v k).sumDry = x.sumDry + v.yDry.getD 0 := by
  have h : (k.regulated && v.verdict.valid) = true := by rw [hregulated, hvalid]; rfl
  exact ⟨if_pos h, if_pos h, if_pos h⟩

theorem Accumulator.add_uncounted (h : ¬ k.regulated = true ∨ ¬ v.verdict.valid = true) :
    (x.add v k).validReg = x.validReg ∧ (x.add v k).sumReg = x.sumReg ∧
      (x.add v k).sumDry = x.sumDry := by
  have hnot : ¬ (k.regulated && v.verdict.valid) = true := by
    rw [Bool.and_eq_true, not_and_or]
    exact h
  exact ⟨if_neg hnot, if_neg hnot, if_neg hnot⟩

/-- Every valid value enters the sums of all seconds (R84). -/
theorem Accumulator.add_valid (h : v.verdict.valid = true) (k : StackState) :
    (x.add v k).validAll = x.validAll + 1 ∧ (x.add v k).sumAll = x.sumAll + v.yRef.getD 0 :=
  ⟨if_pos h, if_pos h⟩

theorem Accumulator.add_invalid (h : ¬ v.verdict.valid = true) (k : StackState) :
    (x.add v k).validAll = x.validAll ∧ (x.add v k).sumAll = x.sumAll := ⟨if_neg h, if_neg h⟩

/-- Maintenance counts where the second is regulated. -/
theorem Accumulator.add_secsMaint (v : NormValue) (k : StackState) : (x.add v k).secsMaint =
    x.secsMaint + if k.regulated = true ∧ v.verdict = .maintenance then 1 else 0 :=
  tick_of_iff (by rw [Bool.and_eq_true, decide_eq_true_eq]) _

end Added

/-! ### The second that is taken (R82, R85) -/

section Taken

variable {s : State} {n : NormSet} {rest : List NormSet}

/-- The first handed second taken, with the set that it joins remembered. -/
def State.secondTaken (n : NormSet) (s : State) : State :=
  let t := s.rememberSums n.second (intervalStart n.second)
  { t with recorder := { t.recorder with handed := t.recorder.handed.tail } }

/-- The running averages replaced. -/
def State.putRunning (r : List (Option Nat)) (s : State) : State :=
  { s with recorder := { s.recorder with running := r } }

/-- Where the live value buffer shows another second the running averages stay. -/
theorem State.setRunning_eq (n : NormSet) (sets : List AccSet) (s : State) :
    ∃ r, s.setRunning n sets = s.putRunning r ∧
      ((s.norm.liveChannels.getD 0 none).map NormChannel.second ≠ some n.second →
        r = s.recorder.running) := by
  by_cases h : s.shows n.second = true
  · exact ⟨_, if_pos h, fun hother => absurd (of_decide_eq_true h) hother⟩
  · exact ⟨s.recorder.running, if_neg h, fun _ => rfl⟩

theorem exec_accumulateSecond (hrun : s.running = true) (hhanded : s.recorder.handed = n :: rest) :
    exec .accumulateSecond s = .next (s.accumulateSecond n) := by
  show execAccumulateSecond s = _
  rw [execAccumulateSecond, hrun, hhanded]

/-- What follows the addition, where no work waits behind it. -/
theorem State.accumulateSecond_of_idle {t : State} (ht : (s.secondTaken n).addHanded n = t)
    (hwork : t.recorder.work = []) : ∃ r, s.accumulateSecond n = (t.putRunning r).settle ∧
      ((t.norm.liveChannels.getD 0 none).map NormChannel.second ≠ some n.second →
        r = t.recorder.running) := by
  obtain ⟨r, hset, hr⟩ := t.setRunning_eq n (addSecond s.recorder.accSets n)
  refine ⟨r, ?_, hr⟩
  have hidle : (t.putRunning r).runWork = t.putRunning r := State.runWork_of_nil hwork
  rw [← hidle, ← hset, ← ht]
  rfl

/-- The set of an interval closes: it is gone, and its records join the queue and their day (R86, R97). -/
theorem State.closeSet_room {start : Nat} {a : AccSet}
    (h : s.recorder.accSets.find? (fun x => decide (x.start = start)) = some a)
    (hrun : s.running = true) (hroom : s.roomFor a.records.length) : s.closeSet start =
      ((s.putSets (s.recorder.accSets.filter fun b => decide (b.start ≠ start))).handedOn
        a.records).flagged (closeFlags a.records) := by
  rw [State.closeSet]
  simp only [h]
  exact (State.handOnAll_room (s := s.putSets (s.recorder.accSets.filter fun b =>
    decide (b.start ≠ start))) hroom).trans (State.raiseAll_flagged (by exact hrun) _)

theorem State.addHanded_last (h : n.second % 1800 = 1799) : s.addHanded n =
    (s.putSets (addSecond s.recorder.accSets n)).closeSet (intervalStart n.second) := if_pos h

end Taken

/-- Settles O42: the accumulator field by field, then the second within its interval and the last of it. -/
theorem secondsAreAccumulated : Obligations.SecondsAreAccumulated := by
  constructor
  · rintro x y v k good regulated rfl hgood hregulated
    have hv : v.verdict.valid = true ↔ good := (Verdict.valid_iff _).trans hgood.symm
    have hk : k.regulated = true ↔ regulated := (StackState.regulated_iff _).trans hregulated.symm
    refine ⟨rfl, rfl, rfl, rfl, tick_decide _ _, tick_decide _ _,
      fun hreg hg => x.add_counted (hk.2 hreg) (hv.2 hg),
      fun h => x.add_uncounted (h.imp (mt hk.1) (mt hv.1)), fun hreg hm => ?_, fun h => ?_,
      tick_of_iff Iff.rfl _, tick_of_iff Iff.rfl _, fun hg => x.add_valid (hv.2 hg) k,
      fun hg => x.add_invalid (mt hv.1 hg) k⟩
    · rw [x.add_secsMaint, if_pos ⟨hk.2 hreg, hm⟩]
    · rw [x.add_secsMaint, if_neg, Nat.add_zero]
      rintro ⟨hreg, hm⟩
      exact h.elim (fun hn => hn (hk.1 hreg)) fun hn => hn hm
  · rintro s n rest sets b rfl hrun hhanded hwork hsets
    have htail : s.recorder.handed.tail = rest := by rw [hhanded]; rfl
    have hadded : sets = addSecond s.recorder.accSets n := hsets
    subst hadded
    refine ⟨fun hwithin => ?_, fun a rs hlast hfind hrs hroom => ?_⟩
    · obtain ⟨r, hnext, hr⟩ := State.accumulateSecond_of_idle
        (State.addHanded_between (s := s.secondTaken n) hwithin) hwork
      refine ⟨r, ?_, hr⟩
      rw [exec_accumulateSecond hrun hhanded, hnext, ← htail]
      rfl
    · subst hrs
      have hstart : a.start = intervalStart n.second := by
        simpa [intervalStart] using List.find?_some hfind
      have hclose := State.closeSet_room
        (s := (s.secondTaken n).putSets (addSecond s.recorder.accSets n)) hfind hrun hroom
      obtain ⟨r, hnext, -⟩ := State.accumulateSecond_of_idle
        ((State.addHanded_last (s := s.secondTaken n) hlast).trans hclose) hwork
      refine ⟨_, (exec_accumulateSecond hrun hhanded).trans (congrArg _ hnext), rfl, rfl, rfl, rfl,
        rfl, rfl, rfl, rfl, rfl, rfl, rfl, htail, ?_, rfl, rfl, hwork, rfl, ?_⟩
      · rw [hstart]
        rfl
      · show s.attention.raiseAll (closeFlags a.records) = _
        rw [closeFlags]
        rfl

end Sys2Proof.Machine
end

section
/-! What the recorder's work leaves of the ports, the store and the pending flags (R97, R112, R130), and what each piece
of it offers to the queue. -/

namespace Sys2Proof.Machine

/-! ### Flags that stay pending -/

/-- Every flag that is pending stays so. -/
def State.Raises (s t : State) : Prop :=
  ∀ l, ∃ f, (t.attention.get l).pending = (s.attention.get l).pending ||| f

namespace State.Raises

variable {s t u : State}

theorem of_same (h : t.attention = s.attention) : s.Raises t := fun l =>
  ⟨0#16, by rw [h, BitVec.or_zero]⟩

theorem trans (h : s.Raises t) (k : t.Raises u) : s.Raises u := by
  intro l
  obtain ⟨f, hf⟩ := h l
  obtain ⟨g, hg⟩ := k l
  exact ⟨f ||| g, by rw [hg, hf, BitVec.or_assoc]⟩

theorem keeps (h : s.Raises t) {l : Link} {f : FlagSet}
    (hs : (s.attention.get l).pending &&& f = f) : (t.attention.get l).pending &&& f = f := by
  obtain ⟨g, hg⟩ := h l
  rw [hg]
  exact BitVec.or_and_of_left g hs

end State.Raises

/-- A state that differs by the recorder's holdings and by flags raised: the ports and the store stay, and the tally has
as many slots. -/
structure State.Steady (s t : State) : Prop where
  links : t.links = s.links
  store : t.store = s.store
  slots : t.recorder.tally.length = s.recorder.tally.length
  raises : s.Raises t

namespace State.Steady

variable {s t u : State}

/-- New holdings of the recorder. -/
theorem of_recorder {r : Recorder} (h : r.tally.length = s.recorder.tally.length) :
    s.Steady { s with recorder := r } := ⟨rfl, rfl, h, .of_same rfl⟩

theorem refl (s : State) : s.Steady s := of_recorder rfl

theorem trans (h : s.Steady t) (k : t.Steady u) : s.Steady u :=
  ⟨k.links.trans h.links, k.store.trans h.store, k.slots.trans h.slots, h.raises.trans k.raises⟩

theorem ite {p : Prop} [Decidable p] (h : s.Steady t) (k : t.Steady u) :
    s.Steady (if p then u else t) := by
  split
  · exact h.trans k
  · exact h

theorem foldl {α : Type} {f : State → α → State} (h : ∀ (s : State) a, s.Steady (f s a))
    (xs : List α) : ∀ s : State, s.Steady (xs.foldl f s) := by
  induction xs with
  | nil => exact refl
  | cons a xs ih => exact fun s => (h s a).trans (ih _)

end State.Steady

section Operations

variable (s : State)

/-! ### Records and flags -/

theorem State.raiseAll_raises (f : FlagSet) : s.Raises (s.raiseAll f) := by
  intro l
  rw [State.raiseAll]
  split
  · exact ⟨0#16, by cases l <;> exact (BitVec.or_zero).symm⟩
  · exact ⟨f, s.attention.raiseAll_pending f l⟩

theorem State.raiseAll_steady (f : FlagSet) : s.Steady (s.raiseAll f) :=
  ⟨s.raiseAll_links f, s.raiseAll_store f, by rw [s.raiseAll_recorder], s.raiseAll_raises f⟩

theorem State.offer_steady (x : QueueItem) : s.Steady (s.offer x) := by
  rw [State.offer]
  split
  · exact .of_recorder rfl
  · exact State.Steady.trans (t := { s with recorder := { s.recorder with
      notStored := saturate16 s.recorder.notStored 1 } }) (.of_recorder rfl)
      (State.raiseAll_steady _ _)

theorem State.writeEvent_steady (e : EventRec) : s.Steady (s.writeEvent e) := by
  rw [State.writeEvent]
  split
  · exact (s.offer_steady _).trans (.of_recorder rfl)
  · exact (s.offer_steady _).trans (.of_recorder rfl)
  · exact s.offer_steady _

theorem State.note_steady (k : EventKind) (t a : Nat) : s.Steady (s.note k t a) :=
  s.writeEvent_steady _

/-! ### The tally (R127 to R130) -/

theorem State.modSlot_steady (i : Nat) (f : TallySlot → TallySlot) : s.Steady (s.modSlot i f) :=
  .of_recorder (List.length_modify ..)

theorem State.takeSlot_steady (year i : Nat) : s.Steady (s.takeSlot year i) := by
  rw [State.takeSlot]
  split
  · exact s.modSlot_steady _ _
  · exact ((s.note_steady _ _ _).trans (State.raiseAll_steady _ _)).trans
      (State.modSlot_steady _ _ _)

theorem State.selectSlot_steady (year : Nat) : s.Steady (s.selectSlot year).1 := by
  rw [State.selectSlot]
  split
  · exact .refl s
  · exact s.takeSlot_steady _ _

theorem State.closeRecord_steady (i : Nat) (r : DayRec) : s.Steady (s.closeRecord i r) :=
  (s.offer_steady _).trans (State.modSlot_steady _ _ _)

theorem State.bringToAccount_steady (i : Nat) : s.Steady (s.bringToAccount i) :=
  (s.modSlot_steady i _).trans (.of_recorder rfl)

theorem State.closeRecords_steady (i : Nat) (rs : List DayRec) : s.Steady (s.closeRecords i rs) :=
  ((State.Steady.foldl (fun t r => t.closeRecord_steady i r) rs s).trans
    (State.modSlot_steady _ _ _)).trans (State.bringToAccount_steady _ _)

theorem State.finalSlot_steady (i : Nat) : s.Steady (s.finalSlot i) :=
  (s.modSlot_steady _ _).trans (State.raiseAll_steady _ _)

theorem State.checkpoint_steady (i : Nat) : s.Steady (s.checkpoint i) := s.offer_steady _

theorem State.closeIntoTally_steady (day : Nat) (rs : List DayRec) :
    s.Steady (s.closeIntoTally day rs) := by
  rw [State.closeIntoTally]
  split
  · split
    · split
      · exact (s.finalSlot_steady _).trans (State.checkpoint_steady _ _)
      · exact .refl s
    · exact .refl s
  · have h := (s.selectSlot_steady (yearOfDay day)).trans
      (State.closeRecords_steady _ (s.selectSlot (yearOfDay day)).2 rs)
    simp only
    split
    · exact (h.trans (State.finalSlot_steady _ _)).trans (State.checkpoint_steady _ _)
    · exact h.trans (State.checkpoint_steady _ _)

theorem State.finalIfOpen_steady (i : Nat) : s.Steady (s.finalIfOpen i) := by
  rw [State.finalIfOpen]
  split
  · exact s.finalSlot_steady i
  · exact .refl s

theorem State.finalSlots_steady : s.Steady s.finalSlots :=
  (State.Steady.foldl State.finalIfOpen_steady _ s).trans
    (State.Steady.foldl State.checkpoint_steady _ _)

/-! ### Closing intervals -/

theorem State.handOn_steady (r : IntervalRec) : s.Steady (s.handOn r) :=
  (s.offer_steady _).trans (.of_recorder rfl)

theorem State.handOnAll_steady (rs : List IntervalRec) : s.Steady (s.handOnAll rs) :=
  ((State.Steady.foldl State.handOn_steady rs s).trans (State.raiseAll_steady _ _)).ite
    (State.raiseAll_steady _ _)

theorem State.closeSet_steady (start : Nat) : s.Steady (s.closeSet start) := by
  rw [State.closeSet]
  split
  · exact .refl s
  · exact State.Steady.trans (t := s.putSets (s.recorder.accSets.filter fun b =>
      decide (b.start ≠ start))) (.of_recorder rfl) (State.handOnAll_steady _ _)

theorem State.closeSetFlagged_steady (start : Nat) (t i : Bool) :
    s.Steady (s.closeSetFlagged start t i) :=
  State.Steady.trans (t := s.putSets (markSet start t i s.recorder.accSets)) (.of_recorder rfl)
    (State.closeSet_steady _ _)

theorem State.closeOpenSets_steady : s.Steady s.closeOpenSets :=
  State.Steady.foldl (fun t start => t.closeSetFlagged_steady start true false) _ s

end Operations

/-! ### The records of a day's close (R112) -/

section Records

variable {s : State}

/-- The record of an uncollected report that a reuse of its slot discards (R129). -/
def QueueItem.isUncollected (q : QueueItem) : Prop :=
  ∃ e, q = .event e ∧ e.kind = .yearReportUncollected

theorem State.takeSlot_queue (hroom : s.roomFor 1) (year i : Nat) : ∃ before,
    (s.takeSlot year i).recorder.queue = s.recorder.queue ++ before ∧ before.length ≤ 1 ∧
      ∀ q ∈ before, q.isUncollected := by
  rw [State.takeSlot]
  simp only
  split
  · exact ⟨[], (List.append_nil _).symm, Nat.zero_le _, fun _ h => absurd h List.not_mem_nil⟩
  · refine ⟨[.event (.plain s.time.counter .yearReportUncollected ((s.slot i).year.getD 0))], ?_,
      Nat.le_refl _, fun q hq => ⟨_, List.mem_singleton.1 hq, rfl⟩⟩
    rw [State.note_room hroom EventKind.noConfusion EventKind.noConfusion]
    show (State.raiseAll _ _).recorder.queue = _
    rw [State.raiseAll_recorder]
    rfl

theorem State.selectSlot_queue (hroom : s.roomFor 1) (year : Nat) : ∃ before,
    (s.selectSlot year).1.recorder.queue = s.recorder.queue ++ before ∧ before.length ≤ 1 ∧
      ∀ q ∈ before, q.isUncollected := by
  rw [State.selectSlot]
  split
  · exact ⟨[], (List.append_nil _).symm, Nat.zero_le _, fun _ h => absurd h List.not_mem_nil⟩
  · exact State.takeSlot_queue hroom _ _

theorem State.foldl_closeRecord_queue (i : Nat) (rs : List DayRec) : ∀ s : State,
    s.roomFor rs.length →
    (rs.foldl (State.closeRecord i) s).recorder.queue = s.recorder.queue ++ rs.map .day := by
  induction rs with
  | nil => exact fun s _ => (List.append_nil _).symm
  | cons r rest ih =>
    intro s hroom
    have hfirst : (s.closeRecord i r).recorder.queue = s.recorder.queue ++ [.day r] := by
      rw [State.closeRecord, State.offer_room (State.roomFor_le hroom (by simp))]
      rfl
    have hrest : (s.closeRecord i r).roomFor rest.length := by
      rw [State.roomFor, List.length_cons] at hroom
      rw [State.roomFor, hfirst, List.length_append, List.length_singleton]
      omega
    rw [List.foldl_cons, ih _ hrest, hfirst, List.map_cons, List.append_assoc, List.singleton_append]

theorem State.checkpoint_queue (hroom : s.roomFor 1) (i : Nat) :
    (s.checkpoint i).recorder.queue = s.recorder.queue ++ [.checkpoint i (s.slot i)] :=
  congrArg (fun t : State => t.recorder.queue) (State.offer_room hroom _)

theorem State.finalSlot_checkpoint_queue (hroom : s.roomFor 1) (i : Nat) :
    ((s.finalSlot i).checkpoint i).recorder.queue =
      s.recorder.queue ++ [.checkpoint i ((s.finalSlot i).slot i)] := by
  rw [State.checkpoint_queue, s.finalSlot_queue]
  rwa [State.roomFor, s.finalSlot_queue]

/-- What a day's close offers around its records: the record of a report that it discards, and a checkpoint of the slot
that it has changed (R112, R129). -/
structure OfferedAround (before : List QueueItem) (rs : List DayRec) (slot : List QueueItem) :
    Prop where
  before_le : before.length ≤ 1
  uncollected : ∀ q ∈ before, q.isUncollected
  slot_le : slot.length ≤ 1
  slot_of_records : rs ≠ [] → slot.length = 1
  checkpoints : ∀ q ∈ slot, ∃ i x, q = .checkpoint i x

theorem OfferedAround.nothing : OfferedAround [] [] [] :=
  ⟨Nat.zero_le _, fun _ h => absurd h List.not_mem_nil, Nat.zero_le _, fun h => absurd rfl h,
    fun _ h => absurd h List.not_mem_nil⟩

theorem OfferedAround.of_checkpoint {before : List QueueItem} (hlen : before.length ≤ 1)
    (h : ∀ q ∈ before, q.isUncollected) (rs : List DayRec) (i : Nat) (x : TallySlot) :
    OfferedAround before rs [.checkpoint i x] :=
  ⟨hlen, h, Nat.le_refl _, fun _ => rfl, fun _ hq => ⟨i, x, List.mem_singleton.1 hq⟩⟩

/-- A day without records is at most its slot's last (R130). -/
theorem State.closeIntoTally_queue_nil (hroom : s.roomFor 1) (day : Nat) : ∃ slot,
    (s.closeIntoTally day []).recorder.queue = s.recorder.queue ++ slot ∧
      OfferedAround [] [] slot := by
  rw [State.closeIntoTally, if_pos rfl]
  split
  · next i _ =>
    split
    · exact ⟨_, State.finalSlot_checkpoint_queue hroom i,
        .of_checkpoint (Nat.zero_le _) (fun _ h => absurd h List.not_mem_nil) _ _ _⟩
    · exact ⟨[], (List.append_nil _).symm, .nothing⟩
  · exact ⟨[], (List.append_nil _).symm, .nothing⟩

/-- The queue after a day's close, where it has room (R112). -/
theorem State.closeIntoTally_queue {rs : List DayRec} (hroom : s.roomFor (rs.length + 2))
    (day : Nat) : ∃ before slot, (s.closeIntoTally day rs).recorder.queue =
      s.recorder.queue ++ before ++ rs.map .day ++ slot ∧ OfferedAround before rs slot := by
  by_cases hnil : rs = []
  · subst hnil
    obtain ⟨slot, hqueue, haround⟩ :=
      State.closeIntoTally_queue_nil (State.roomFor_le hroom (by omega)) day
    exact ⟨[], slot, by simpa using hqueue, haround⟩
  obtain ⟨before, hbefore, hlen, huncollected⟩ :=
    State.selectSlot_queue (State.roomFor_le hroom (by omega)) (yearOfDay day)
  rw [State.closeIntoTally, if_neg hnil]
  generalize s.selectSlot (yearOfDay day) = p at hbefore
  rw [State.roomFor] at hroom
  have hrecords : (p.1.closeRecords p.2 rs).recorder.queue =
      s.recorder.queue ++ before ++ rs.map .day := by
    rw [← hbefore]
    refine State.foldl_closeRecord_queue p.2 rs p.1 ?_
    rw [State.roomFor, hbefore, List.length_append]
    omega
  have hleft : (p.1.closeRecords p.2 rs).roomFor 1 := by
    rw [State.roomFor, hrecords, List.length_append, List.length_append, List.length_map]
    omega
  simp only
  split
  · exact ⟨before, _, by rw [← hrecords, State.finalSlot_checkpoint_queue hleft],
      .of_checkpoint hlen huncollected _ _ _⟩
  · exact ⟨before, _, by rw [← hrecords, State.checkpoint_queue hleft],
      .of_checkpoint hlen huncollected _ _ _⟩

theorem State.closeNextDay_queue (o : Occasion) (p : ProvDay) (rest : List RecorderWork) (s : State) :
    (s.closeNextDay o p rest).recorder.queue =
      (s.closeIntoTally p.day (p.records (s.governs o) o.cause)).recorder.queue := by
  have hcount : ∀ t : State, (t.countWithdrawn o.cause).recorder.queue = t.recorder.queue := by
    intro t
    cases o.cause <;> rfl
  refine (hcount _).trans ?_
  have hflags : ∀ (t : State) (b : Prop) [Decidable b],
      (if b then (t.raiseAll flagDayClosed).raiseAll flagExceedance else
        t.raiseAll flagDayClosed).recorder = t.recorder := by
    intro t b _
    split
    · rw [State.raiseAll_recorder, State.raiseAll_recorder]
    · rw [State.raiseAll_recorder]
  rw [State.closeDay]
  simp only [hflags]
  rw [State.forgetDay, State.closeThrough_recorder]

end Records

end Sys2Proof.Machine
end
section
/-! The work of a withdrawal in the running part (R155), and O48. -/

namespace Sys2Proof.Machine

/-! ### The dates that the closed intervals join -/

section Dates

variable {table other : List ProvDay}

theorem joinDay_joinDay (d : Nat) (table : List ProvDay) :
    joinDay d (joinDay d table) = joinDay d table := by
  induction table with
  | nil => simp [joinDay]
  | cons p rest ih =>
    by_cases hlt : d < p.day
    · simp [joinDay, hlt]
    · by_cases heq : d = p.day
      · simp [joinDay, heq]
      · simp [joinDay, hlt, heq, ih]

/-- The dates of a table alone decide which dates it has when a day joins. -/
theorem days_joinDay_congr (h : days table = days other) (d : Nat) :
    days (joinDay d table) = days (joinDay d other) := by
  induction table generalizing other with
  | nil =>
    cases other with
    | nil => rfl
    | cons q qs => exact absurd h (by simp [days])
  | cons p rest ih =>
    cases other with
    | nil => exact absurd h (by simp [days])
    | cons q qs =>
      obtain ⟨hday, hrest⟩ : p.day = q.day ∧ days rest = days qs := List.cons.inj h
      have hjoin : days (joinDay d rest) = days (joinDay d qs) := ih hrest
      rw [joinDay, joinDay, ← hday]
      split
      · exact congrArg (d :: ·) h
      · split
        · exact h
        · show p.day :: days _ = q.day :: days _
          rw [hday, hjoin]

end Dates

section Joins

variable {s : State}

theorem State.days_handOn (s : State) (r : IntervalRec) : days (s.handOn r).recorder.table =
    days (Machine.joinDay (dayOf r.start) s.recorder.table) := by
  rw [← (s.offer_tallied (.interval r)).table]
  exact days_modEntry _ _ _ _

/-- The records of one interval join its day, where there are any (R97, R106). -/
theorem State.days_foldl_handOn {start : Nat} (rs : List IntervalRec)
    (h : ∀ r ∈ rs, r.start = start) : ∀ s : State, days (rs.foldl State.handOn s).recorder.table =
      days (if rs = [] then s.recorder.table else
        Machine.joinDay (dayOf start) s.recorder.table) := by
  induction rs with
  | nil => exact fun s => rfl
  | cons r rest ih =>
    intro s
    have hfirst := s.days_handOn r
    rw [h r List.mem_cons_self] at hfirst
    rw [List.foldl_cons, ih (fun r' hr' => h r' (List.mem_cons_of_mem _ hr')),
      if_neg (List.cons_ne_nil _ _)]
    split
    · exact hfirst
    · rw [days_joinDay_congr hfirst, joinDay_joinDay]

theorem State.days_handOnAll {start : Nat} {rs : List IntervalRec} (h : ∀ r ∈ rs, r.start = start)
    (s : State) : days (s.handOnAll rs).recorder.table =
      days (if rs = [] then s.recorder.table else
        Machine.joinDay (dayOf start) s.recorder.table) := by
  have hflags : (s.handOnAll rs).recorder = (rs.foldl State.handOn s).recorder := by
    rw [State.handOnAll]
    split <;> simp only [State.raiseAll_recorder]
  rw [hflags, State.days_foldl_handOn rs h]

/-- A table that the day of a set has joined, where the set has a channel (R80, R106). -/
def joinSet (table : List ProvDay) (a : AccSet) : List ProvDay :=
  if a.accs = [] then table else joinDay (dayOf a.start) table

theorem days_joinSet_congr {table other : List ProvDay} (h : days table = days other) (a : AccSet) :
    days (joinSet table a) = days (joinSet other a) := by
  rw [joinSet, joinSet]
  split
  · exact h
  · exact days_joinDay_congr h _

theorem pairwise_days_joinSet {table : List ProvDay} (h : (days table).Pairwise (· < ·))
    (a : AccSet) : (days (joinSet table a)).Pairwise (· < ·) := by
  rw [joinSet]
  split
  · exact h
  · exact pairwise_days_joinDay _ h

/-- One set closed: it alone is gone, and its day has joined (R86, R106). -/
theorem State.closeSetFlagged_head {a : AccSet} {rest : List AccSet}
    (hsets : s.recorder.accSets = a :: rest) (hnew : a.start ∉ rest.map AccSet.start) (t i : Bool) :
    (s.closeSetFlagged a.start t i).recorder.accSets = rest ∧
      days (s.closeSetFlagged a.start t i).recorder.table = days (joinSet s.recorder.table a) := by
  have hfind : s.recorder.accSets.find? (fun x => decide (x.start = a.start)) = some a := by
    rw [hsets]
    exact List.find?_cons_of_pos (decide_eq_true rfl)
  constructor
  · rw [(s.closeSetFlagged_closed a.start t i).accSets, hsets, List.filter_cons_of_neg (by simp),
      List.filter_eq_self]
    intro b hb
    refine decide_eq_true fun hmem => hnew ?_
    rw [← List.mem_singleton.1 hmem]
    exact List.mem_map_of_mem hb
  · rw [State.closeSetFlagged_of_find hfind, State.days_handOnAll (start := a.start) (fun r hr => by
      obtain ⟨x, -, rfl⟩ := List.mem_map.1 hr
      rfl), joinSet, AccSet.closing]
    simp only [List.map_eq_nil_iff]
    exact Eq.refl _

theorem State.days_foldl_closeSetFlagged (t i : Bool) (sets : List AccSet) :
    ∀ (s : State) (table : List ProvDay), s.recorder.accSets = sets →
      (sets.map AccSet.start).Nodup → days s.recorder.table = days table →
      days ((sets.map AccSet.start).foldl (fun u start => u.closeSetFlagged start t i)
        s).recorder.table = days (sets.foldl joinSet table) := by
  induction sets with
  | nil => exact fun s table _ _ h => h
  | cons a rest ih =>
    intro s table hsets hnodup hdays
    obtain ⟨hnew, hrest⟩ := List.nodup_cons.1 hnodup
    obtain ⟨hleft, hjoined⟩ := State.closeSetFlagged_head hsets hnew t i
    rw [List.map_cons, List.foldl_cons, List.foldl_cons]
    exact ih _ _ hleft hrest (hjoined.trans (days_joinSet_congr hdays a))

theorem State.days_closeOpenSets (hnodup : (s.recorder.accSets.map AccSet.start).Nodup) :
    days s.closeOpenSets.recorder.table = days (s.recorder.accSets.foldl joinSet s.recorder.table) :=
  State.days_foldl_closeSetFlagged true false _ s _ rfl hnodup rfl

theorem pairwise_days_foldl_joinSet (sets : List AccSet) : ∀ table : List ProvDay,
    (days table).Pairwise (· < ·) → (days (sets.foldl joinSet table)).Pairwise (· < ·) := by
  induction sets with
  | nil => exact fun _ h => h
  | cons a rest ih => exact fun table h => ih _ (pairwise_days_joinSet h a)

end Joins

/-! ### The days closed in turn (R112) -/

/-- The days of a list closed one after another for a withdrawal, its occasion having closed some already. -/
def State.closeAll (gov : Tables) : List ProvDay → Nat → State → State
  | [], _, s => s
  | p :: rest, c, s =>
    State.closeAll gov rest (c + 1) (s.closeNextDay { Occasion.ofWithdrawal gov with closed := c } p [])

/-- What the closes of a withdrawal's days leave: they are counted, the last of them is the closed-through date, and
DAY_CLOSED is pending. -/
structure State.AllClosed (s : State) (ps : List ProvDay) (t : State) : Prop where
  recorded : s.Recorded t
  accSets : t.recorder.accSets = s.recorder.accSets
  links : t.links = s.links
  slots : t.recorder.tally.length = s.recorder.tally.length
  raises : s.Raises t
  withdrawal : t.recorder.withdrawal = s.recorder.withdrawal.map fun w =>
    { w with closed := w.closed + ps.length }
  through : t.store.closedThrough = (lastDay ps).or s.store.closedThrough
  flagged : s.running = true → ps ≠ [] →
    ∀ l, (t.attention.get l).pending &&& flagDayClosed = flagDayClosed

namespace State.AllClosed

variable {s t u : State} {ps qs : List ProvDay}

theorem refl (s : State) : s.AllClosed [] s :=
  ⟨.refl s, rfl, rfl, rfl, .of_same rfl, Option.map_id'.symm ▸ rfl, rfl, fun _ h => absurd rfl h⟩

theorem trans (h : s.AllClosed ps t) (k : t.AllClosed qs u) : s.AllClosed (ps ++ qs) u := by
  refine ⟨h.recorded.trans k.recorded, k.accSets.trans h.accSets, k.links.trans h.links,
    k.slots.trans h.slots, h.raises.trans k.raises, ?_, ?_, fun hrun hsome l => ?_⟩
  · rw [k.withdrawal, h.withdrawal, Option.map_map, List.length_append]
    simp only [Function.comp_def, Nat.add_assoc]
  · have hdays : days (ps ++ qs) = days ps ++ days qs := List.map_append
    rw [k.through, h.through, lastDay_eq, lastDay_eq, lastDay_eq, hdays, List.getLast?_append,
      Option.or_assoc]
  · by_cases hps : ps = []
    · refine k.flagged ?_ (fun hqs => hsome (by rw [hps, hqs]; rfl)) l
      rw [State.running, h.recorded.supply]
      exact hrun
    · exact k.raises.keeps (h.flagged hrun hps l)

end State.AllClosed

section Closes

variable (s : State)

theorem State.claimProtection_steady : s.Steady s.claimProtection := by
  rw [State.claimProtection]
  split
  · exact .refl s
  · exact ⟨rfl, rfl, rfl, .of_same rfl⟩

/-- The closed-through date is the day, and the ports, the tally and the flags stay (R142). -/
theorem State.closeThrough_fields (day : Nat) : (s.closeThrough day).links = s.links ∧
    (s.closeThrough day).store.closedThrough = some day ∧
    (s.closeThrough day).recorder = s.recorder ∧ s.Raises (s.closeThrough day) := by
  have h := State.claimProtection_steady { s with store := { s.store with closedThrough := some day } }
  exact ⟨h.links, congrArg Store.closedThrough h.store, s.closeThrough_recorder day, h.raises⟩

theorem State.closeDay_fields (gov : Tables) (c : CloseCause) (p : ProvDay) :
    (s.closeDay gov c p).links = s.links ∧ (s.closeDay gov c p).store.closedThrough = some p.day ∧
      (s.closeDay gov c p).recorder.tally.length = s.recorder.tally.length ∧
      s.Raises (s.closeDay gov c p) ∧ (s.running = true →
        ∀ l, ((s.closeDay gov c p).attention.get l).pending &&& flagDayClosed = flagDayClosed) := by
  let t : State := s.closeIntoTally p.day (p.records gov c)
  let d : State := (t.closeThrough p.day).forgetDay p.day
  have htally : s.Steady t := s.closeIntoTally_steady _ _
  obtain ⟨hlinks, hthrough, hrecorder, hraises⟩ := t.closeThrough_fields p.day
  have hflags : (d.raiseAll flagDayClosed).Steady (s.closeDay gov c p) :=
    State.Steady.ite (.refl _) (State.raiseAll_steady _ _)
  have hday : d.Steady (d.raiseAll flagDayClosed) := d.raiseAll_steady _
  have hclosed := hday.trans hflags
  have hd : t.Raises d := hraises.trans (.of_same rfl)
  refine ⟨hclosed.links.trans (hlinks.trans htally.links),
    (congrArg Store.closedThrough hclosed.store).trans hthrough,
    hclosed.slots.trans ((congrArg (fun r : Recorder => r.tally.length) hrecorder).trans htally.slots),
    (htally.raises.trans hd).trans hclosed.raises, fun hrun l => hflags.raises.keeps ?_⟩
  have hrecorded : s.Recorded d := ((s.closeIntoTally_tallied _ _).recorded.trans
    (t.closeThrough_tallied _).recorded).trans (State.recorder_recorded _)
  have hrund : d.running = true := by
    rw [State.running, hrecorded.supply]
    exact hrun
  rw [State.raiseAll_of_running hrund, AttentionUnit.raiseAll_pending]
  exact BitVec.or_and_of_and _ (by decide)

theorem State.countWithdrawn_steady (c : CloseCause) : s.Steady (s.countWithdrawn c) := by
  cases c <;> exact .of_recorder rfl

theorem State.closeNextDay_allClosed {o : Occasion} (h : o.cause = .withdrawal) (p : ProvDay)
    (rest : List RecorderWork) : s.AllClosed [p] (s.closeNextDay o p rest) := by
  obtain ⟨hlinks, hthrough, hslots, hraises, hflagged⟩ :=
    s.closeDay_fields (s.governs o) o.cause p
  have hcount : (s.closeDay (s.governs o) o.cause p).Steady (s.closeNextDay o p rest) :=
    (State.countWithdrawn_steady _ _).trans (.of_recorder rfl)
  exact ⟨s.closeNextDay_recorded _ _ _, s.closeNextDay_accSets _ _ _, hcount.links.trans hlinks,
    hcount.slots.trans hslots, hraises.trans hcount.raises, State.closeNextDay_withdrawal h p rest s,
    (congrArg Store.closedThrough hcount.store).trans hthrough,
    fun hrun _ l => hcount.raises.keeps (hflagged hrun l)⟩

theorem State.closeAll_allClosed (gov : Tables) (ps : List ProvDay) : ∀ (c : Nat) (s : State),
    s.AllClosed ps (s.closeAll gov ps c) := by
  induction ps with
  | nil => exact fun _ s => .refl s
  | cons p rest ih =>
    exact fun c s => (s.closeNextDay_allClosed rfl p []).trans (ih (c + 1) _)

variable {s}

/-- The closes of a withdrawal are those of the days of the table, the oldest first, and then its end (R107, R155). -/
theorem State.drainCloses_every (gov : Tables) (ps : List ProvDay) : ∀ (s : State) (c n : Nat),
    s.recorder.work = [.occasion { Occasion.ofWithdrawal gov with closed := c }] →
    s.recorder.table = ps → (days ps).Pairwise (· < ·) → s.annotation = none →
    s.recorder.accSets = [] → ps.length ≤ n →
    (s.closeAll gov ps c).recorder.table = [] ∧ ∃ c', s.drainCloses n =
      ((s.closeAll gov ps c).putWork []).endOccasion
        { Occasion.ofWithdrawal gov with closed := c' } := by
  induction ps with
  | nil =>
    intro s c n hwork htable _ _ _ _
    exact ⟨htable, c, State.drainCloses_of_ended hwork (by rw [htable]; rfl) n⟩
  | cons p rest ih =>
    intro s c n hwork htable hsorted hnone hsets hn
    obtain ⟨n, rfl⟩ := Nat.exists_eq_succ_of_ne_zero (Nat.ne_of_gt (Nat.lt_of_lt_of_le
      (Nat.succ_pos _) hn))
    obtain ⟨hlater, hrest⟩ := List.pairwise_cons.1 hsorted
    have hclosed := s.closeNextDay_allClosed (o := { Occasion.ofWithdrawal gov with closed := c })
      rfl p []
    have hleft : (s.closeNextDay { Occasion.ofWithdrawal gov with closed := c } p []).recorder.table
        = rest := by
      rw [State.closeNextDay_table, htable, List.filter_cons_of_neg (by simp), List.filter_eq_self]
      intro q hq
      exact decide_eq_true (Nat.ne_of_gt (hlater q.day (mem_days hq)))
    rw [State.drainCloses_of_due hwork (fun _ h => absurd h List.not_mem_nil)
      (by rw [htable]; rfl) (State.closeWaits_withdrawal hnone hsets _)]
    exact ih _ (c + 1) n rfl hleft hrest (hclosed.recorded.annotation hnone)
      (hclosed.accSets.trans hsets) (Nat.le_of_succ_le_succ hn)

end Closes

/-! ### The end of a withdrawal (R79, R130, R155) -/

section Finish

variable (s : State)

/-- A slot as the end of a withdrawal leaves it. -/
def TallySlot.ended (x : TallySlot) : TallySlot := if x.state = .opened then x.finished else x

theorem TallySlot.ended_ended (x : TallySlot) : x.ended.ended = x.ended := by
  by_cases h : x.state = .opened
  · simp [TallySlot.ended, h, TallySlot.finished]
  · simp [TallySlot.ended, h]

theorem State.slot_of_getElem? {i : Nat} {x : TallySlot} (h : s.recorder.tally[i]? = some x) :
    s.slot i = x := by
  rw [State.slot, List.getD_eq_getElem?_getD, h, Option.getD_some]

theorem State.finalIfOpen_getElem? (i : Nat) {j : Nat} {x : TallySlot}
    (h : s.recorder.tally[j]? = some x) :
    (s.finalIfOpen i).recorder.tally[j]? = some (if j = i then x.ended else x) := by
  have hslot := s.slot_of_getElem? h
  rw [State.finalIfOpen]
  by_cases hij : j = i
  · subst hij
    rw [if_pos rfl, TallySlot.ended, hslot]
    split
    · rw [s.finalSlot_tally, List.getElem?_modify_eq, h]
      rfl
    · exact h
  · rw [if_neg hij]
    split
    · rw [s.finalSlot_tally, List.getElem?_modify_ne _ _ (Ne.symm hij), h]
    · exact h

theorem State.foldl_finalIfOpen_getElem? (is : List Nat) : ∀ (s : State) {j : Nat} {x : TallySlot},
    s.recorder.tally[j]? = some x →
    (is.foldl State.finalIfOpen s).recorder.tally[j]? = some (if j ∈ is then x.ended else x) := by
  induction is with
  | nil => exact fun s j x h => h.trans (congrArg some (if_neg List.not_mem_nil).symm)
  | cons i rest ih =>
    intro s j x h
    rw [List.foldl_cons, ih _ (s.finalIfOpen_getElem? i h)]
    by_cases hij : j = i
    · simp [hij, TallySlot.ended_ended]
    · simp [hij]

/-- The OPEN slots turn FINAL, and no other changes (R130). -/
theorem State.finalSlots_getElem? {j : Nat} {x : TallySlot} (h : s.recorder.tally[j]? = some x) :
    s.finalSlots.recorder.tally[j]? = some x.ended := by
  rw [State.finalSlots, State.checkpointAll_tally, State.foldl_finalIfOpen_getElem? _ s h]
  by_cases hopen : x.state = .opened
  · rw [if_pos ((s.mem_openSlots j).2 (by rw [s.slot_of_getElem? h]; exact hopen))]
  · rw [TallySlot.ended, if_neg hopen, ite_self]

/-- A withdrawal's record written, its slots turned FINAL, and the withdrawal released (R155). -/
def State.withdrawalEnded (point count : Nat) (s : State) : State :=
  (s.note .withdrawn point count).finalSlots.releaseWithdrawal

theorem State.withdrawalEnded_steady (point count : Nat) :
    s.Steady (s.withdrawalEnded point count) :=
  ((s.note_steady _ _ _).trans (State.finalSlots_steady _)).trans (.of_recorder rfl)

theorem State.withdrawalEnded_getElem? (point count : Nat) {j : Nat} {x : TallySlot}
    (h : s.recorder.tally[j]? = some x) :
    (s.withdrawalEnded point count).recorder.tally[j]? = some x.ended :=
  State.finalSlots_getElem? (s.note .withdrawn point count) (by rw [s.note_tally]; exact h)

theorem State.opCmd_of_links {s t : State} (h : t.links = s.links) (l : Link) :
    t.opCmd l = s.opCmd l := by
  rw [State.opCmd, State.opCmd, State.port, State.port, h]

/-- The end of a withdrawal is that of its operation too, where that is in flight. -/
theorem State.finishWithdrawal_eq (point count : Nat) : s.finishWithdrawal point count =
    if s.opCmd .inspection = some .withdraw then
      (s.withdrawalEnded point count).endOp .inspection .done none none [count]
    else s.withdrawalEnded point count := by
  rw [← State.opCmd_of_links (s.withdrawalEnded_steady point count).links, State.finishWithdrawal]
  split
  · next h => exact (if_pos h).symm
  · next h => exact (if_neg h).symm

theorem State.raiseOn_raises (l : Link) (f : FlagSet) : s.Raises (s.raiseOn l f) := by
  intro k
  refine ⟨if k = l then f else 0#16, ?_⟩
  cases l <;> cases k <;>
    simp [State.raiseOn, AttentionUnit.get, AttentionUnit.set, Attention.raise]

theorem State.endOp_raises (l : Link) (o : OpOutcome) (r : Option Reason) (i : Option Nat)
    (c : List Nat) : s.Raises (s.endOp l o r i c) := by
  rw [State.endOp]
  split
  · exact .of_same rfl
  · exact State.Raises.trans (.of_same rfl) (State.raiseOn_raises (s.modPort l _) l _)

/-- What a finished withdrawal leaves beside its records. -/
structure State.Finished (s : State) (count : Nat) (t : State) : Prop where
  store : t.store = s.store
  raises : s.Raises t
  running : t.recorder.running = List.replicate 32 none
  tally : ∀ (i : Nat) (x : TallySlot), s.recorder.tally[i]? = some x →
    t.recorder.tally[i]? = some x.ended
  links : (s.port .inspection).op = none → t.links = s.links
  port : ∀ o, (s.port .inspection).op = some o → o.cmd = .withdraw →
    (t.port .inspection).op = none ∧ (t.port .inspection).last = some {
      command := some .withdraw, outcome := .done, reason := none, index := none
      counts := [count] }

theorem State.finishWithdrawal_finished (point count : Nat) :
    s.Finished count (s.finishWithdrawal point count) := by
  have hended := s.withdrawalEnded_steady point count
  have htally := fun i x h => s.withdrawalEnded_getElem? point count (j := i) (x := x) h
  have hrunning : (s.withdrawalEnded point count).recorder.running = List.replicate 32 none := rfl
  rw [s.finishWithdrawal_eq]
  generalize s.withdrawalEnded point count = t at *
  by_cases hcmd : s.opCmd .inspection = some .withdraw
  · rw [if_pos hcmd]
    have hsome : (s.port .inspection).op ≠ none := fun hnone => by
      rw [State.opCmd, hnone] at hcmd
      exact absurd hcmd nofun
    refine ⟨(State.endOp_store ..).trans hended.store, hended.raises.trans (t.endOp_raises _ _ _ _ _), ?_,
      fun i x h => ?_, fun hnone => absurd hnone hsome, fun o ho hwithdraw => ?_⟩
    · rw [State.endOp_recorder]
      exact hrunning
    · rw [State.endOp_recorder]
      exact htally i x h
    · have hop : (t.port .inspection).op = some o := by
        rw [State.port, hended.links]
        exact ho
      rw [State.endOp_port_same t .inspection _ _ _ _ hop, hwithdraw]
      exact ⟨rfl, rfl⟩
  · rw [if_neg hcmd]
    refine ⟨hended.store, hended.raises, hrunning, htally, fun _ => hended.links,
      fun o ho hwithdraw => absurd ?_ hcmd⟩
    rw [State.opCmd, ho, ← hwithdraw]
    rfl

end Finish

/-! ### The whole work (R155) -/

section Work

variable {s : State} {w : Withdrawal} {point : Nat}

/-- The part whose withdrawal is about to be finished: its intervals and its days are closed. -/
def State.closedForWithdrawal (w : Withdrawal) (s : State) : State :=
  ((s.closeOpenSets.withdrawing w).closeAll s.closeOpenSets.config.active
    s.closeOpenSets.recorder.table 0).putWork []

/-- What the closes of a withdrawal leave: nothing is left to close, and the days of a list have been closed. -/
structure State.ReadyToFinish (s : State) (closed : List ProvDay) (v : State) : Prop where
  recorded : s.Recorded v
  accSets : v.recorder.accSets = []
  table : v.recorder.table = []
  work : v.recorder.work = []
  links : v.links = s.links
  slots : v.recorder.tally.length = s.recorder.tally.length
  through : v.store.closedThrough = (lastDay closed).or s.store.closedThrough
  flagged : s.running = true → closed ≠ [] →
    ∀ l, (v.attention.get l).pending &&& flagDayClosed = flagDayClosed

section Closed

variable (hnone : s.annotation = none) (hwork : s.recorder.work = [])
  (hnodup : (s.recorder.accSets.map AccSet.start).Nodup)
  (hsorted : (days s.recorder.table).Pairwise (· < ·))
include hnone hwork hnodup hsorted

/-- The intervals of a withdrawal close, then its days, and then it is finished. -/
theorem State.drainCloses_withdrawn (w : Withdrawal) :
    (s.closedForWithdrawal w).recorder.table = [] ∧ ∃ c,
      (s.closeOpenSets.withdrawing w).drainCloses (s.closeOpenSets.recorder.table.length + 1) =
        (s.closedForWithdrawal w).endOccasion
          { Occasion.ofWithdrawal s.closeOpenSets.config.active with closed := c } := by
  have hsets := s.closeOpenSets_closed
  have hdates : (days s.closeOpenSets.recorder.table).Pairwise (· < ·) := by
    rw [State.days_closeOpenSets hnodup]
    exact pairwise_days_foldl_joinSet _ _ hsorted
  have hbegun : s.Recorded (s.closeOpenSets.withdrawing w) :=
    hsets.recorded.trans (State.recorder_recorded _)
  exact State.drainCloses_every s.closeOpenSets.config.active s.closeOpenSets.recorder.table
    (s.closeOpenSets.withdrawing w) 0 _ (congrArg (· ++ _) (hsets.work.trans hwork)) rfl hdates
    (hbegun.annotation hnone) hsets.none_left (Nat.le_succ _)

theorem State.readyToFinish (w : Withdrawal) : s.ReadyToFinish
    (s.recorder.accSets.foldl joinSet s.recorder.table) (s.closedForWithdrawal w) := by
  have hsteady := s.closeOpenSets_steady
  have hsets := s.closeOpenSets_closed
  have hdays := State.days_closeOpenSets hnodup
  have hbegun : s.Recorded (s.closeOpenSets.withdrawing w) :=
    hsets.recorded.trans (State.recorder_recorded _)
  have hall := State.closeAll_allClosed s.closeOpenSets.config.active
    s.closeOpenSets.recorder.table 0 (s.closeOpenSets.withdrawing w)
  refine ⟨(hbegun.trans hall.recorded).trans (State.recorder_recorded _),
    hall.accSets.trans hsets.none_left, (State.drainCloses_withdrawn hnone hwork hnodup hsorted w).1,
    rfl, hall.links.trans hsteady.links, hall.slots.trans hsteady.slots, ?_,
    fun hrun hsome => hall.flagged ?_ fun h => hsome ?_⟩
  · rw [lastDay_eq, ← hdays, ← lastDay_eq, ← hsteady.store]
    exact hall.through
  · rw [State.running, hbegun.supply]
    exact hrun
  · rw [h] at hdays
    exact List.map_eq_nil_iff.1 hdays.symm

/-- The work of a withdrawal (R155). -/
theorem State.withdrawalWork_eq_finish (hpoint : w.point = some point) : s.withdrawalWork w =
    ((s.closedForWithdrawal w).finishWithdrawal point (w.closed +
      (s.recorder.accSets.foldl joinSet s.recorder.table).length)).settle := by
  obtain ⟨-, c, hdrain⟩ := State.drainCloses_withdrawn hnone hwork hnodup hsorted w
  have hready := State.readyToFinish hnone hwork hnodup hsorted w
  have hall := State.closeAll_allClosed s.closeOpenSets.config.active
    s.closeOpenSets.recorder.table 0 (s.closeOpenSets.withdrawing w)
  have hlength : s.closeOpenSets.recorder.table.length =
      (s.recorder.accSets.foldl joinSet s.recorder.table).length := by
    simpa [days] using congrArg List.length (State.days_closeOpenSets hnodup)
  have hfinish := State.endOccasion_withdrawal (s := s.closedForWithdrawal w)
    (o := { Occasion.ofWithdrawal s.closeOpenSets.config.active with closed := c }) rfl
    hall.withdrawal
  have hnamed : ∀ t, w.point.getD t = point := fun t => by rw [hpoint]; rfl
  rw [State.withdrawalWork_eq, hdrain, hfinish]
  simp only [hnamed, hlength]
  exact congrArg State.settle (State.resumeQueued_of_none
    ((hready.recorded.trans (State.finishWithdrawal_recorded _ _ _)).annotation hnone))

end Closed

theorem State.allAccumulated_iff : s.allAccumulated = true ↔ s.recorder.handed = [] ∧
    (∀ x ∈ s.norm.samples, x.mode ≠ .recording) ∧
    ∀ x ∈ s.recorder.work, x.isOccasion = true := by
  simp [State.allAccumulated, and_assoc]

/-- WITHDRAWAL_WORK waits for the withdrawal point and for the seconds that are on their way, and is done once. -/
theorem exec_withdrawalWork (hrun : s.running = true) (hw : s.recorder.withdrawal = some w) :
    exec .withdrawalWork s = .next (if s.supply.mode ≠ .suspended ∧ w.point.isSome = true ∧
      w.started = false ∧ s.allAccumulated = true then s.withdrawalWork w else s) := by
  show execWithdrawalWork s = _
  rw [execWithdrawalWork, hrun, hw]
  by_cases hmode : s.supply.mode = .suspended
  · simp [hmode]
  · simp [hmode]

theorem AccSet.closing_truncated (a : AccSet) :
    a.closing true false = a.accs.map fun x => a.record { x with truncated := true } := by
  simp only [AccSet.closing, Accumulator.flagged, Bool.or_true, Bool.or_false]

theorem State.closeOpenSets_of_nil (h : s.recorder.accSets = []) : s.closeOpenSets = s := by
  rw [State.closeOpenSets, h]
  rfl

/-- The one open interval closes TRUNCATED, on the one provisional day (R94, R155). -/
theorem State.closeOpenSets_single {a : AccSet} {p : ProvDay} (hsets : s.recorder.accSets = [a])
    (htable : s.recorder.table = [p]) (hday : p.day = dayOf a.start)
    (hroom : s.roomFor a.accs.length) :
    s.closeOpenSets.recorder.queue = s.recorder.queue ++ (a.closing true false).map .interval ∧
      s.closeOpenSets.recorder.table = [{ p with
        entries := (a.closing true false).foldl (fun es r =>
          putEntry r.channel (DayEntry.contribute r .queued) es) p.entries }] := by
  have hfind : s.recorder.accSets.find? (fun x => decide (x.start = a.start)) = some a := by
    rw [hsets]
    exact List.find?_cons_of_pos (decide_eq_true rfl)
  have hclose : s.closeOpenSets = s.closeSetFlagged a.start true false := by
    rw [State.closeOpenSets, hsets]
    rfl
  rw [hclose, State.closeSetFlagged_room hfind hroom, State.raiseAll_recorder]
  refine ⟨rfl, ?_⟩
  rw [← foldl_contributed_single _ p fun r hr => ?_, ← htable]
  · rfl
  · obtain ⟨x, -, rfl⟩ := List.mem_map.1 hr
    exact hday.symm

/-- The latest of the days closed is the closed-through date. -/
theorem lastDay_or (table : List ProvDay) (closed : Option Nat) : (lastDay table).or closed =
    match table.getLast? with
    | none => closed
    | some d => some d.day := by
  rw [lastDay]
  cases table.getLast? <;> rfl

/-- With no interval and no day to close, the queue and the tally are as they were. -/
theorem State.closedForWithdrawal_of_nothing (hsets : s.recorder.accSets = [])
    (htable : s.recorder.table = []) (w : Withdrawal) :
    (s.closedForWithdrawal w).recorder.queue = s.recorder.queue ∧
      (s.closedForWithdrawal w).recorder.tally = s.recorder.tally := by
  rw [State.closedForWithdrawal, State.closeOpenSets_of_nil hsets, htable]
  exact ⟨rfl, rfl⟩

/-- One day closed for a withdrawal: its records, between what they are offered with (R112). -/
theorem State.closeAll_single_queue (gov : Tables) {p : ProvDay} {c : Nat} {rs : List DayRec}
    (hrecords : p.records s.config.active .withdrawal = rs) (hroom : s.roomFor (rs.length + 2)) :
    ∃ before slot, (s.closeAll gov [p] c).recorder.queue =
      s.recorder.queue ++ before ++ rs.map .day ++ slot ∧ OfferedAround before rs slot := by
  obtain ⟨before, slot, hoffered, haround⟩ := State.closeIntoTally_queue hroom p.day
  refine ⟨before, slot, ?_, haround⟩
  rw [← hoffered, ← hrecords]
  exact s.closeNextDay_queue { Occasion.ofWithdrawal gov with closed := c } p []

/-- One interval of one day: its records, then those of the day (R155). -/
theorem State.closedForWithdrawal_queue {a : AccSet} {p p' : ProvDay} {records : List IntervalRec}
    {rs : List DayRec} (hsets : s.recorder.accSets = [a]) (htable : s.recorder.table = [p])
    (hday : p.day = dayOf a.start) (hrecords : a.closing true false = records)
    (hp' : p' = { p with entries := records.foldl (fun es r =>
      putEntry r.channel (DayEntry.contribute r .queued) es) p.entries })
    (hrs : p'.records s.config.active .withdrawal = rs)
    (hroom : s.roomFor (records.length + rs.length + 2)) (w : Withdrawal) :
    ∃ before slot, (s.closedForWithdrawal w).recorder.queue = s.recorder.queue ++
      records.map .interval ++ before ++ rs.map .day ++ slot ∧ OfferedAround before rs slot := by
  subst hrecords
  rw [State.roomFor, AccSet.closing, List.length_map] at hroom
  obtain ⟨hqueue, hjoined⟩ := State.closeOpenSets_single hsets htable hday
    (by rw [State.roomFor]; omega)
  rw [← hp'] at hjoined
  have hactive : p'.records (s.closeOpenSets.withdrawing w).config.active .withdrawal = rs := by
    rw [← hrs, ← s.closeOpenSets_closed.recorded.config]
    rfl
  obtain ⟨before, slot, hoffered, haround⟩ := State.closeAll_single_queue
    (s := s.closeOpenSets.withdrawing w) (c := 0) s.closeOpenSets.config.active hactive (by
      show s.closeOpenSets.recorder.queue.length + _ ≤ 96
      rw [hqueue, List.length_append, List.length_map, AccSet.closing, List.length_map]
      omega)
  refine ⟨before, slot, ?_, haround⟩
  rw [State.closedForWithdrawal, hjoined, ← hqueue]
  exact hoffered

end Work

/-- Settles O48: when the work waits, and then the state from which the withdrawal is finished and its end. -/
theorem withdrawalsEnd : Obligations.WithdrawalsEnd := by
  intro s w hrun hw
  refine ⟨fun hwaits => ?_, ?_⟩
  · rw [exec_withdrawalWork hrun hw, if_neg]
    rintro ⟨hmode, hpoint, hstarted, hall⟩
    obtain ⟨hhanded, hsamples, -⟩ := State.allAccumulated_iff.1 hall
    rcases hwaits with h | h | h | h | ⟨x, hx, h⟩
    · exact hmode h
    · rw [h] at hpoint
      exact Bool.false_ne_true hpoint
    · rw [h] at hstarted
      exact Bool.false_ne_true hstarted.symm
    · exact h hhanded
    · exact hsamples x hx h
  · rintro point n table hmode hpoint hstarted hhanded hsamples hwork hnone hnodup hordered htable rfl
    have hjoined : table = s.recorder.accSets.foldl joinSet s.recorder.table := htable
    have hsorted : (days s.recorder.table).Pairwise (· < ·) := List.pairwise_map.2 hordered
    have hready := State.readyToFinish hnone hwork hnodup hsorted w
    have hdone := State.withdrawalWork_eq_finish hnone hwork hnodup hsorted hpoint
    rw [← hjoined] at hready hdone
    let v : State := s.closedForWithdrawal w
    have hend := v.finishWithdrawal_withdrawn point (w.closed + table.length)
    have hfinished := v.finishWithdrawal_finished point (w.closed + table.length)
    obtain ⟨htime, hscan, hnorm, -, hconfig, hsupply, -, -, hstore⟩ :=
      (hready.recorded.trans hend.recorded).fields
    have hport : v.port .inspection = s.port .inspection := by
      rw [State.port, hready.links]
      rfl
    have hopen := v.openSlots_length_le
    rw [hready.slots] at hopen
    refine ⟨_, (exec_withdrawalWork hrun hw).trans (congrArg _ ((if_pos ⟨hmode, by rw [hpoint]; rfl,
        hstarted, State.allAccumulated_iff.2 ⟨hhanded, hsamples, by simp [hwork]⟩⟩).trans hdone)),
      htime, hscan, hconfig, hsupply, hnorm, ?_, hend.accSets.trans hready.accSets,
      hend.table.trans hready.table, hend.work.trans hready.work, hend.withdrawal, hfinished.running,
      hend.none_open, fun hsome l => hfinished.raises.keeps (hready.flagged hrun hsome l),
      fun o ho => hfinished.port o (hport ▸ ho),
      fun hidle => (hfinished.links (hport ▸ hidle)).trans hready.links,
      fun hsets hnoDays hroom hslots => ?_, ?_⟩
    · exact hstore.trans (congrArg (fun c => { s.store with closedThrough := c })
        (((congrArg Store.closedThrough hfinished.store).trans hready.through).trans
          (lastDay_or table _)))
    · obtain ⟨hqueue, htally⟩ := State.closedForWithdrawal_of_nothing hsets hnoDays w
      obtain ⟨more, hmore, -, hfinal⟩ := hend.queue_room (by
        rw [State.roomFor] at hroom
        rw [State.roomFor, hqueue]
        omega)
      exact ⟨⟨more, by rw [hmore, hqueue], hfinal⟩,
        fun i x hx => hfinished.tally i x (by rw [htally]; exact hx)⟩
    · rintro a p p' records rs hset hday hsame hrecords hp' hrs hroom hslots -
      rw [State.roomFor] at hroom
      have hdate : p'.day = p.day := by rw [hp']
      obtain ⟨before, slot, hqueue, haround⟩ := State.closedForWithdrawal_queue hset hday hsame
        (a.closing_truncated.trans hrecords.symm) hp' (hdate ▸ hrs.symm)
        (by rw [State.roomFor]; omega) w
      obtain ⟨more, hmore, -, hfinal⟩ := hend.queue_room (by
        have hbefore := haround.before_le
        have hslot := haround.slot_le
        rw [State.roomFor, hqueue]
        simp only [List.length_append, List.length_map]
        omega)
      exact ⟨before, slot, more, by rw [hmore, hqueue], haround.uncollected, haround.slot_of_records,
        haround.checkpoints, hfinal⟩

end Sys2Proof.Machine
end

section
/-! The annotation marks (R115 to R117), and O35. -/

namespace Sys2Proof.Machine

/-! ### What finds RECORDING (R154) -/

section Recording

variable {s : State}

theorem State.recordingOpen_iff :
    s.recordingOpen = true ↔ s.supply.mode = .recording ∧ s.committed ≠ some .withdraw := by
  simp [State.recordingOpen]

theorem State.recordingOpen_eq_false
    (h : s.supply.mode ≠ .recording ∨ s.committed = some .withdraw) : s.recordingOpen = false := by
  rw [← Bool.not_eq_true, State.recordingOpen_iff, not_and_or, not_not]
  exact h

/-- An accepted command that sees to the marks itself (R117). -/
theorem State.serve_answered {c : Command} {l : Link} {args : List Byte} {rule : State → Ruling}
    {t : State} {d : Option (List Byte)} {notice : Bool} (hc : c ≠ .linkStatus)
    (h : s.reaches c l args = true) (hrule : rule s = .answered t d notice) :
    s.serve c l args rule =
      t.withPort l ((t.port l).replying (if notice = true then 0x40 else 0x00) d) := by
  rw [State.serve_of_reaches h, hrule, State.answer, State.replyBits_of (State.reaches_power hc h)]
  rfl

end Recording

/-! ### The two rules -/

section Marks

variable {s : State} {args : List Byte}

theorem noneByte_eq_none {n : Nat} (h : 31 < n ∧ n ≠ 255) : noneByte 31 n = none := by
  rw [noneByte, if_neg h.2, if_neg (Nat.not_le.mpr h.1)]

theorem noneByte_eq_some {n : Nat} {c : Option Nat}
    (h : n = 255 ∧ c = none ∨ n ≤ 31 ∧ c = some n) : noneByte 31 n = some c := by
  rcases h with ⟨rfl, rfl⟩ | ⟨hn, rfl⟩
  · rfl
  · rw [noneByte, if_neg (by omega), if_pos hn]

theorem State.markStartRuling_argument (h : 3 < u8 args 0 ∨ (31 < u8 args 1 ∧ u8 args 1 ≠ 255) ∨
    u32 args 2 % 1800 ≠ 0) : s.markStartRuling args = .argument := by
  rw [State.markStartRuling]
  by_cases hbad : 3 < u8 args 0 ∨ u32 args 2 % 1800 ≠ 0
  · exact if_pos hbad
  · rw [if_neg hbad, noneByte_eq_none (by tauto)]

/-- A START mark on its stack, channel and interval, where the part finds RECORDING (R115). -/
theorem State.markStartRuling_eq {c : Option Nat} (hstack : u8 args 0 ≤ 3)
    (hstart : u32 args 2 % 1800 = 0)
    (hc : u8 args 1 = 255 ∧ c = none ∨ u8 args 1 ≤ 31 ∧ c = some (u8 args 1)) :
    s.markStartRuling args = if s.recordingOpen = true then
      .answered (s.putMarks (.startMarked (u8 args 0) c (u32 args 2))) none
        (decide (s.links.marks ≠ .none)) else .sequence := by
  rw [State.markStartRuling, if_neg (by omega), noneByte_eq_some hc]

/-- An END mark for a START mark, whether an END mark stood before or not (R116). -/
theorem State.markEndRuling_marked {k a : Nat} {c : Option Nat} (hlast : u32 args 0 % 1800 = 0)
    (hopen : s.recordingOpen = true)
    (hm : s.links.marks = .startMarked k c a ∨ ∃ b, s.links.marks = .bothMarked k c a b) :
    s.markEndRuling args = s.endMark k c a (u32 args 0) := by
  rw [State.markEndRuling, if_neg (not_not.mpr hlast), if_neg (by simp [hopen])]
  rcases hm with hm | ⟨b, hm⟩ <;> rw [hm]

theorem State.markEndRuling_sequence (hlast : u32 args 0 % 1800 = 0)
    (h : s.supply.mode ≠ .recording ∨ s.committed = some .withdraw ∨ s.links.marks = .none) :
    s.markEndRuling args = .sequence := by
  rw [State.markEndRuling, if_neg (not_not.mpr hlast)]
  by_cases hopen : s.recordingOpen = false
  · exact if_pos hopen
  · have hmarks : s.links.marks = .none := by
      rcases h with h | h | h
      · exact absurd (State.recordingOpen_eq_false (.inl h)) hopen
      · exact absurd (State.recordingOpen_eq_false (.inr h)) hopen
      · exact h
    rw [if_neg hopen, hmarks]

end Marks

/-- Settles O35: each row of the two rules in turn. -/
theorem marksAreSet : Obligations.MarksAreSet := by
  intro s t l args
  refine ⟨fun h => ⟨fun hbad => ?_, fun c hstack hstart hc => ⟨fun hclosed => ?_,
    fun hmode hcommit ht => ?_⟩⟩, fun h => ⟨fun hlast => ?_, fun hlast hno => ?_,
    fun k c a hlast hmode hcommit hm => ?_⟩⟩
  · exact congrArg _ (State.serve_argument (by decide) h (State.markStartRuling_argument hbad))
  · refine congrArg _ (State.serve_sequence (by decide) h ?_)
    rw [State.markStartRuling_eq hstack hstart hc, State.recordingOpen_eq_false hclosed]
    rfl
  · subst ht
    refine congrArg _ ((State.serve_answered (by decide) h ((State.markStartRuling_eq hstack hstart
      hc).trans (if_pos (State.recordingOpen_iff.2 ⟨hmode, hcommit⟩)))).trans ?_)
    simp only [decide_eq_true_eq, ite_not]
    rfl
  · exact congrArg _ (State.serve_argument (by decide) h (if_pos hlast))
  · exact congrArg _ (State.serve_sequence (by decide) h (State.markEndRuling_sequence hlast hno))
  · have hruling := State.markEndRuling_marked hlast
      (State.recordingOpen_iff.2 ⟨hmode, hcommit⟩) hm
    rw [State.endMark] at hruling
    refine ⟨fun hbefore => ?_, fun hafter hlong => ?_, fun hafter hshort ht => ?_⟩
    · exact congrArg _ (State.serve_sequence (by decide) h (hruling.trans (if_pos hbefore)))
    · exact congrArg _ (State.serve_argument (by decide) h
        (hruling.trans ((if_neg (Nat.not_lt.mpr hafter)).trans (if_pos hlong))))
    · subst ht
      exact congrArg _ (State.serve_answered (rule := fun u => u.markEndRuling args)
        (by decide) h (hruling.trans
        ((if_neg (Nat.not_lt.mpr hafter)).trans (if_neg (Nat.not_lt.mpr hshort)))))

end Sys2Proof.Machine
end

section
/-! CLOSE DAYS: its receipt and its commit (R107, R114), and O47. -/

namespace Sys2Proof.Machine

section CloseDays

variable {s : State} {day : Nat}

/-! ### Receipt -/

theorem State.closeDaysRuling_argument {l : Link} {args : List Byte}
    (h : dayNumber (u16 args 0) (u8 args 2) (u8 args 3) = none) :
    s.closeDaysRuling l args = .argument := by
  rw [State.closeDaysRuling, h]

/-- A CLOSE DAYS of a date needs RECORDING, and a day before the present one. -/
theorem State.closeDaysRuling_eq {l : Link} {args : List Byte}
    (h : dayNumber (u16 args 0) (u8 args 2) (u8 args 3) = some day) :
    s.closeDaysRuling l args = if s.recordingOpen = false then .sequence
      else if dayOf s.time.counter ≤ day then .argument
      else s.accept l (s.beginOp l (.closeDays day false)) none := by
  rw [State.closeDaysRuling, h]

/-! ### Commit -/

theorem RecorderWork.any_isOccasion_iff (work : List RecorderWork) :
    work.any RecorderWork.isOccasion = true ↔ ∃ o, RecorderWork.occasion o ∈ work := by
  rw [List.any_eq_true]
  constructor
  · rintro ⟨w, hw, h⟩
    cases w with
    | occasion o => exact ⟨o, hw⟩
    | closeStepped start => exact absurd h Bool.false_ne_true
    | record e => exact absurd h Bool.false_ne_true
  · rintro ⟨o, ho⟩
    exact ⟨_, ho, rfl⟩

theorem latestDay_eq_none {table : List ProvDay} (h : ∀ p ∈ table, day < p.day) :
    latestDay table day = none := by
  have hnone : (table.filter fun p => decide (p.day ≤ day)) = [] :=
    List.filter_eq_nil_iff.2 fun p hp hle => absurd (of_decide_eq_true hle) (Nat.not_le.mpr (h p hp))
  rw [latestDay, hnone]
  rfl

theorem latestDay_eq_some {before after : List ProvDay} {p : ProvDay} (hp : p.day ≤ day)
    (hafter : ∀ x ∈ after, day < x.day) : latestDay (before ++ p :: after) day = some p.day := by
  have hnone : (after.filter fun p => decide (p.day ≤ day)) = [] :=
    List.filter_eq_nil_iff.2 fun x hx hle =>
      absurd (of_decide_eq_true hle) (Nat.not_le.mpr (hafter x hx))
  simp [latestDay, List.filter_append, hp, hnone]

/-- A commit of CLOSE DAYS waits for the occasions before it (R107). -/
theorem exec_closeDaysCommit {o : LinkOp} (hrun : s.running = true)
    (hop : (s.port .inspection).op = some o) (hcmd : o.cmd = .closeDays day false) :
    exec .closeDaysCommit s = .next
      (if s.recorder.work.any RecorderWork.isOccasion = true then s
        else (s.commitCloseDays day).settle) := by
  have hwhole : s.opCmd .inspection = some (.closeDays day false) := by
    rw [State.opCmd, hop, Option.map_some, hcmd]
  show Host.Outcome.next _ = _
  rw [hrun, hwhole]

theorem State.commitCloseDays_refused (h : s.supply.mode ≠ .recording) :
    s.commitCloseDays day = s.endOp .inspection .refused (some .sequence) none [] := if_pos h

theorem State.commitCloseDays_nothing (hmode : s.supply.mode = .recording)
    (h : latestDay s.recorder.table day = none) :
    s.commitCloseDays day = s.endOp .inspection .done none none [0] := by
  rw [State.commitCloseDays, if_neg (not_not.mpr hmode), h]

/-- The last day to close is recorded, and the closes are an occasion. -/
theorem State.commitCloseDays_taken {last : Nat} (hmode : s.supply.mode = .recording)
    (h : latestDay s.recorder.table day = some last) (hroom : s.roomFor 1) :
    s.commitCloseDays day = ((s.queued [.event (.plain s.time.counter .daysClosedEarly last)]).addWork
      (.occasion { cause := .commanded, range := .through day, joins := none, gov := s.config.active,
                   closed := 0 })).setOpCmd .inspection (.closeDays day true) := by
  rw [State.commitCloseDays, if_neg (not_not.mpr hmode), h]
  simp only
  rw [State.note_room hroom EventKind.noConfusion EventKind.noConfusion]

/-- Another command in the operation in flight. -/
theorem State.setOpCmd_eq {l : Link} {o : LinkOp} (hop : (s.port l).op = some o) (cmd : BusyCmd) :
    s.setOpCmd l cmd = s.withPort l { (s.port l) with op := some { o with cmd := cmd } } := by
  have hport : (s.links.get l).op = some o := hop
  simp only [State.setOpCmd, State.modPort, State.withPort, State.port, hport, Option.map_some]

end CloseDays

/-- Settles O47: the rows of the receipt, then those of the commit. -/
theorem closeDaysIsDecidedAndTakenUp : Obligations.CloseDaysIsDecidedAndTakenUp := by
  refine ⟨fun s l args h => ⟨fun hnone => ?_, fun d hd => ?_⟩,
    fun s t day o hrun hop hcmd => ?_⟩
  · exact congrArg _ (State.serve_argument (by decide) h (State.closeDaysRuling_argument hnone))
  · have hruling := State.closeDaysRuling_eq (s := s) (l := l) hd
    refine ⟨fun hclosed => ?_, fun hmode hcommit hlate => ?_, fun hmode hcommit hpast => ?_⟩
    · exact congrArg _ (State.serve_sequence (by decide) h
        (hruling.trans (if_pos (State.recordingOpen_eq_false hclosed))))
    all_goals
      have hopen : ¬ s.recordingOpen = false := by
        simp [State.recordingOpen_iff.2 ⟨hmode, hcommit⟩]
      rw [if_neg hopen] at hruling
    · exact congrArg _ (State.serve_argument (by decide) h (hruling.trans (if_pos hlate)))
    · refine congrArg _ ((State.serve_accepted (rule := fun u => u.closeDaysRuling l args)
        (by decide) h (hruling.trans (if_neg (Nat.not_le.mpr hpast)))).trans ?_)
      have hmarks := s.modPort_marks l fun p => p.withOp (.closeDays d false) false
      rw [← hmarks]
      rfl
  · have hexec := exec_closeDaysCommit hrun hop hcmd
    refine ⟨fun hsome => by rw [hexec, if_pos ((RecorderWork.any_isOccasion_iff _).2 hsome)],
      fun hidle => ?_⟩
    rw [hexec, if_neg (mt (RecorderWork.any_isOccasion_iff _).1 (not_exists.mpr hidle))]
    refine ⟨fun hmode => ?_, fun hmode hall => ?_, fun before p after hmode htable hp hafter hroom
      ht => ?_⟩
    · rw [State.commitCloseDays_refused hmode]
    · rw [State.commitCloseDays_nothing hmode (latestDay_eq_none hall)]
    · subst ht
      rw [State.commitCloseDays_taken hmode (htable ▸ latestDay_eq_some hp hafter) hroom,
        State.setOpCmd_eq (o := o) (by exact hop)]
      rfl

end Sys2Proof.Machine
end

section
/-! What an annotation kind makes of a record, and what the rewrite moves in its day entry (R104, R121, R123), and
O37. -/

namespace Sys2Proof.Machine

/-! ### The kinds (R121) -/

theorem AnnKind.applies_iff (k : AnnKind) (r : IntervalRec) : k.applies r = true ↔
    (k = .invalidate ∧ r.origClass ≠ .notOperating) ∨
      ((k = .startupShutdown ∨ k = .abnormal) ∧ r.origClass = .operating) ∨
      (k = .restore ∧ r.annotated = true) ∨ k = .remark := by
  cases k with
  | invalidate => cases hclass : r.origClass <;> simp [AnnKind.applies, hclass]
  | startupShutdown | abnormal | restore | remark => simp [AnnKind.applies]

/-! ### Counts that move (R123) -/

theorem tick_eq_add (b : Bool) (n : Nat) : tick b n = n + b.toNat := by cases b <;> rfl

theorem untick_eq_sub (b : Bool) (n : Nat) : untick b n = n - b.toNat := by cases b <;> rfl

/-- A count leaves with the old contents and joins with the new. -/
theorem tick_untick (joins leaves : Bool) (n : Nat) :
    tick joins (untick leaves n) = n - leaves.toNat + joins.toNat := by
  rw [tick_eq_add, untick_eq_sub]

theorem countsValid_eq (c : IntervalClass) (v : Validity) :
    countsValid c v = decide (c = .operating ∧ v = .valid) := by simp [countsValid]

theorem countsInvalid_eq (c : IntervalClass) (v : Validity) :
    countsInvalid c v = decide (c = .operating ∧ v = .invalid) := by simp [countsInvalid]

/-! ### The maximum found again (R123) -/

/-- The value with which a map slot enters the maximum of its day. -/
def MapSlot.counted (m : MapSlot) : Option Nat :=
  if m.state ≠ .none ∧ countsValid m.finalClass m.finalValid = true then m.validated else none

/-- A maximum after a value that may be absent. -/
def raiseTo (held : Option (Nat × Nat)) (value : Option Nat) (place : Nat) : Option (Nat × Nat) :=
  match value with
  | none => held
  | some v => raiseMax held v place

/-- The first of the greatest values of a list. -/
def FirstMax (values : List (Option Nat)) (i v : Nat) : Prop :=
  values[i]? = some (some v) ∧
    ∀ j w, values[j]? = some (some w) → w ≤ v ∧ (j < i → w < v)

section Maximum

variable {values : List (Option Nat)} {i j v w : Nat}

theorem MapSlot.counted_eq_some {m : MapSlot} : m.counted = some v ↔
    (m.state ≠ .none ∧ m.finalClass = .operating ∧ m.finalValid = .valid) ∧
      m.validated = some v := by
  simp only [MapSlot.counted, countsValid_iff]
  by_cases h : m.state ≠ .none ∧ m.finalClass = .operating ∧ m.finalValid = .valid
  · rw [if_pos h, and_iff_right h]
  · rw [if_neg h]
    exact iff_of_false nofun fun k => h k.1

theorem mapMaximum_cons (day i : Nat) (m : MapSlot) (rest : List MapSlot)
    (held : Option (Nat × Nat)) : mapMaximum day i (m :: rest) held =
      mapMaximum day (i + 1) rest (raiseTo held m.counted (day * 86400 + i * 1800)) := by
  rw [mapMaximum, MapSlot.counted]
  by_cases h : m.state ≠ .none ∧ countsValid m.finalClass m.finalValid = true
  · rw [if_pos h, if_pos h]
    cases m.validated <;> rfl
  · rw [if_neg h, if_neg h]
    rfl

theorem mapMaximum_concat (day : Nat) (map : List MapSlot) (m : MapSlot) :
    ∀ (i : Nat) (held : Option (Nat × Nat)), mapMaximum day i (map ++ [m]) held =
      raiseTo (mapMaximum day i map held) m.counted (day * 86400 + (i + map.length) * 1800) := by
  induction map with
  | nil => exact fun i held => mapMaximum_cons day i m [] held
  | cons n rest ih =>
    intro i held
    rw [List.cons_append, mapMaximum_cons, ih, mapMaximum_cons, List.length_cons,
      Nat.add_right_comm i 1, Nat.add_assoc i]

theorem getElem?_concat_eq_some {x y : Option Nat} :
    (values ++ [x])[j]? = some y ↔ values[j]? = some y ∨ j = values.length ∧ y = x := by
  rcases Nat.lt_trichotomy j values.length with h | rfl | h
  · rw [List.getElem?_append_left h]
    exact (or_iff_left fun k => absurd k.1 (Nat.ne_of_lt h)).symm
  · simp [eq_comm]
  · rw [List.getElem?_eq_none (by simpa using h), List.getElem?_eq_none (Nat.le_of_lt h)]
    simp [Nat.ne_of_gt h]

/-- An absent value changes nothing. -/
theorem FirstMax.concat_none (h : FirstMax values i v) : FirstMax (values ++ [none]) i v :=
  ⟨getElem?_concat_eq_some.2 (.inl h.1), fun j w hj =>
    h.2 j w ((getElem?_concat_eq_some.1 hj).resolve_right fun k => absurd k.2 nofun)⟩

/-- A value that is no greater leaves the maximum. -/
theorem FirstMax.concat_le (h : FirstMax values i v) (hle : w ≤ v) :
    FirstMax (values ++ [some w]) i v := by
  refine ⟨getElem?_concat_eq_some.2 (.inl h.1), fun j x hj => ?_⟩
  rcases getElem?_concat_eq_some.1 hj with hj | ⟨rfl, hx⟩
  · exact h.2 j x hj
  · have hi : i < values.length := (List.getElem?_eq_some_iff.1 h.1).1
    cases hx
    exact ⟨hle, fun hlt => absurd hi (Nat.lt_asymm hlt)⟩

/-- A value greater than all before it is the maximum. -/
theorem FirstMax.of_last (h : ∀ (j x : Nat), values[j]? = some (some x) → x < w) :
    FirstMax (values ++ [some w]) values.length w := by
  refine ⟨getElem?_concat_eq_some.2 (.inr ⟨rfl, rfl⟩), fun j x hj => ?_⟩
  rcases getElem?_concat_eq_some.1 hj with hj | ⟨rfl, hx⟩
  · exact ⟨Nat.le_of_lt (h j x hj), fun _ => h j x hj⟩
  · cases hx
    exact ⟨Nat.le_refl _, fun hlt => absurd hlt (Nat.lt_irrefl _)⟩

theorem FirstMax.unique (h : FirstMax values i v) (k : FirstMax values j w) : i = j ∧ v = w := by
  obtain ⟨hle, hbefore⟩ := h.2 j w k.1
  obtain ⟨kle, kbefore⟩ := k.2 i v h.1
  have hvw : v = w := Nat.le_antisymm kle hle
  refine ⟨Nat.le_antisymm (Nat.not_lt.mp fun hlt => ?_) (Nat.not_lt.mp fun hlt => ?_), hvw⟩
  · exact absurd (hbefore hlt) (by omega)
  · exact absurd (kbefore hlt) (by omega)

/-- A map has no value that counts and no maximum, or its maximum is the first of its greatest values. -/
theorem mapMaximum_cases (day : Nat) (map : List MapSlot) :
    (mapMaximum day 0 map none = none ∧ ∀ m ∈ map, m.counted = none) ∨
      ∃ i v, mapMaximum day 0 map none = some (v, day * 86400 + i * 1800) ∧
        FirstMax (map.map MapSlot.counted) i v := by
  induction map using List.reverseRecOn with
  | nil => exact .inl ⟨rfl, fun _ h => absurd h List.not_mem_nil⟩
  | append_singleton map m ih =>
    have hlength : map.length = (map.map MapSlot.counted).length :=
      (List.length_map _).symm
    rw [mapMaximum_concat, Nat.zero_add, List.map_append, List.map_singleton, hlength]
    rcases ih with ⟨hnone, hall⟩ | ⟨i, v, hsome, hfirst⟩
    · rw [hnone]
      cases hm : m.counted with
      | none =>
        refine .inl ⟨rfl, fun n hn => ?_⟩
        rcases List.mem_append.1 hn with hn | hn
        · exact hall n hn
        · rwa [List.mem_singleton.1 hn]
      | some w =>
        refine .inr ⟨_, w, rfl, .of_last fun j x hj => ?_⟩
        obtain ⟨n, hn, hx⟩ := List.mem_map.1 (List.mem_of_getElem? hj)
        exact absurd (hx.symm.trans (hall n hn)) nofun
    · rw [hsome]
      cases hm : m.counted with
      | none => exact .inr ⟨i, v, rfl, hfirst.concat_none⟩
      | some w =>
        by_cases hlt : v < w
        · exact .inr ⟨_, w, if_pos hlt,
            .of_last fun j x hj => Nat.lt_of_le_of_lt (hfirst.2 j x hj).1 hlt⟩
        · exact .inr ⟨i, v, if_neg hlt, hfirst.concat_le (Nat.not_lt.mp hlt)⟩

theorem mapMaximum_eq_none (day : Nat) (map : List MapSlot) :
    mapMaximum day 0 map none = none ↔ ∀ m ∈ map, m.counted = none := by
  rcases mapMaximum_cases day map with ⟨hnone, hall⟩ | ⟨i, v, hsome, hfirst⟩
  · exact iff_of_true hnone hall
  · obtain ⟨m, hm, hv⟩ := List.mem_map.1 (List.mem_of_getElem? hfirst.1)
    exact iff_of_false (by simp [hsome]) fun hall => absurd (hv.symm.trans (hall m hm)) nofun

theorem mapMaximum_eq_some (day : Nat) (map : List MapSlot) (v t : Nat) :
    mapMaximum day 0 map none = some (v, t) ↔
      ∃ i, t = day * 86400 + i * 1800 ∧ FirstMax (map.map MapSlot.counted) i v := by
  rcases mapMaximum_cases day map with ⟨hnone, hall⟩ | ⟨i, w, hsome, hfirst⟩
  · refine iff_of_false (by simp [hnone]) fun ⟨i, _, hfirst⟩ => ?_
    obtain ⟨m, hm, hv⟩ := List.mem_map.1 (List.mem_of_getElem? hfirst.1)
    exact absurd (hv.symm.trans (hall m hm)) nofun
  · rw [hsome]
    constructor
    · intro h
      cases h
      exact ⟨i, rfl, hfirst⟩
    · rintro ⟨j, rfl, hj⟩
      obtain ⟨rfl, rfl⟩ := hfirst.unique hj
      rfl

/-- A value that counts at a place of a map. -/
theorem getElem?_counted {map : List MapSlot} {fits : MapSlot → Prop}
    (hfits : ∀ m, fits m ↔ m.state ≠ .none ∧ m.finalClass = .operating ∧ m.finalValid = .valid) :
    (map.map MapSlot.counted)[i]? = some (some v) ↔
      ∃ m, map[i]? = some m ∧ fits m ∧ m.validated = some v := by
  rw [List.getElem?_map, Option.map_eq_some_iff]
  simp only [MapSlot.counted_eq_some, hfits]

theorem firstMax_counted {map : List MapSlot} {fits : MapSlot → Prop}
    (hfits : ∀ m, fits m ↔ m.state ≠ .none ∧ m.finalClass = .operating ∧ m.finalValid = .valid) :
    FirstMax (map.map MapSlot.counted) i v ↔ ∃ m, map[i]? = some m ∧ fits m ∧
      m.validated = some v ∧ ∀ j n w, map[j]? = some n → fits n → n.validated = some w →
        w ≤ v ∧ (j < i → w < v) := by
  rw [FirstMax, getElem?_counted hfits]
  simp only [getElem?_counted hfits]
  constructor
  · rintro ⟨⟨m, hm, hfit, hv⟩, hall⟩
    exact ⟨m, hm, hfit, hv, fun j n w hn hfitn hw => hall j w ⟨n, hn, hfitn, hw⟩⟩
  · rintro ⟨m, hm, hfit, hv, hall⟩
    exact ⟨⟨m, hm, hfit, hv⟩, fun j w ⟨n, hn, hfitn, hw⟩ => hall j n w hn hfitn hw⟩

end Maximum

/-! ### The move (R123) -/

/-- The rewritten record's own slot is refreshed, and every other stays. -/
theorem DayEntry.move_map (old new : IntervalRec) {e : DayEntry} {i : Nat} {m : MapSlot}
    (h : e.map[i]? = some m) : (DayEntry.move old new e).map[i]? =
      some (if i = intervalOfDay new.start then m.refresh new else m) := by
  show (e.map.modify (intervalOfDay new.start) (MapSlot.refresh new))[i]? = _
  by_cases hi : i = intervalOfDay new.start
  · subst hi
    rw [if_pos rfl, List.getElem?_modify_eq, h]
    rfl
  · rw [if_neg hi, List.getElem?_modify_ne _ _ (Ne.symm hi), h]

/-- Settles O37: the contents under each kind, then the move, its maximum by the map that it leaves. -/
theorem kindsRewriteRecords : Obligations.KindsRewriteRecords := by
  constructor
  · rintro k r n remark atClose rfl
    refine ⟨k.applies_iff r, ?_⟩
    cases k <;> simp [IntervalRec.annotate, nextRevision]
  · rintro old new e d vo vn io iv fits rfl rfl rfl rfl rfl hfits
    refine ⟨?_, ?_, tick_untick _ _ _, tick_untick _ _ _, ?_, rfl, tick_untick _ _ _,
      tick_untick _ _ _, rfl, fun i m hm => DayEntry.move_map old new hm, ?_, fun v t => ?_, rfl,
      rfl, rfl, rfl, rfl, rfl, rfl⟩
    · rw [← countsValid_eq, ← countsValid_eq]
      exact tick_untick _ _ _
    · rw [← countsInvalid_eq, ← countsInvalid_eq]
      exact tick_untick _ _ _
    · rw [← countsValid_eq, ← countsValid_eq]
      rfl
    · refine (mapMaximum_eq_none _ _).trans (forall₂_congr fun m _ => ?_)
      simp only [Option.eq_none_iff_forall_ne_some, ne_eq, MapSlot.counted_eq_some, hfits, not_and]
      exact ⟨fun h hfit v => h v hfit, fun h v hfit => h hfit v⟩
    · refine (mapMaximum_eq_some _ _ v t).trans (exists_congr fun i => ?_)
      rw [firstMax_counted hfits]
      constructor
      · rintro ⟨ht, m, hm, hfit, hv, hall⟩
        exact ⟨m, hm, hfit, hv, ht, hall⟩
      · rintro ⟨m, hm, hfit, hv, ht, hall⟩
        exact ⟨ht, m, hm, hfit, hv, hall⟩

end Sys2Proof.Machine
end

section
/-! How a day is judged (R109 to R111), what it adds to the year tally (R127), and O45. -/

namespace Sys2Proof.Machine

/-! ### The day record (R109 to R111) -/

section Days

variable {e : DayEntry}

theorem DayEntry.unrecorded_eq_zero_iff : e.unrecorded = 0 ↔ 48 ≤ e.recorded :=
  Nat.sub_eq_zero_iff_le

theorem DayEntry.dayClass_of_idle (h : e.nValid + e.nInvalid + e.nAbnormal = 0) :
    e.dayClass = if 48 ≤ e.recorded then .noOperation else .unrecorded := by
  rw [DayEntry.dayClass, if_pos h]
  simp only [DayEntry.unrecorded_eq_zero_iff]

theorem DayEntry.dayClass_of_operating (h : e.nValid + e.nInvalid + e.nAbnormal ≠ 0) :
    e.dayClass = .operating := if_neg h

/-- A day without operation has no validity (R110). -/
theorem DayEntry.validity_of_idle (h : e.dayClass ≠ .operating) (invalidMax : Nat) :
    e.validity invalidMax = .none := by
  rw [DayEntry.validity]
  cases hclass : e.dayClass with
  | operating => exact absurd hclass h
  | noOperation | unrecorded => rfl

theorem DayEntry.validity_of_operating (h : e.dayClass = .operating) (invalidMax : Nat) :
    e.validity invalidMax =
      if 1 ≤ e.nValid ∧ e.nInvalid + e.unrecorded ≤ invalidMax then .valid else .invalid := by
  rw [DayEntry.validity, h]

theorem dayExceeds_iff (v : Validity) (limit average : Option Nat) :
    dayExceeds v limit average = true ↔
      v = .valid ∧ ∃ l a, limit = some l ∧ average = some a ∧ l < a := by
  unfold dayExceeds
  rw [Bool.and_eq_true, decide_eq_true_eq]
  cases limit with
  | none => simp
  | some l => cases average <;> simp

/-- The label of a record is that of its entry (R108). -/
theorem DayEntry.record_label {k : Nat} {kind : Kind} (h : e.label = some (k, kind)) (gov : Tables)
    (cause : CloseCause) (day : Nat) :
    (e.record gov cause day).stack = k ∧ (e.record gov cause day).kind = kind := by
  simp only [DayEntry.record, h, Option.map_some, Option.getD_some, and_self]

end Days

/-! ### What a day adds to its channel's section (R127) -/

section Tally

variable {t : ChannelTally} {r : DayRec}

theorem raiseMax_some (m : Nat × Nat) (value place : Nat) :
    raiseMax (some m) value place = some (if m.1 < value then (value, place) else m) := by
  rw [raiseMax, apply_ite some]

theorem ChannelTally.add_maxInterval_none (h : r.maximum = none) :
    (t.add r).maxInterval = t.maxInterval := by
  simp only [ChannelTally.add, h]

theorem ChannelTally.add_maxInterval_some {p : Nat × Nat} (h : r.maximum = some p) :
    (t.add r).maxInterval = raiseMax t.maxInterval p.1 p.2 := by
  simp only [ChannelTally.add, h]

/-- Only the average of a valid day enters the maximum of the days. -/
theorem ChannelTally.add_maxDay_other (h : r.validity ≠ .valid) :
    (t.add r).maxDay = t.maxDay := by
  cases hv : r.validity with
  | valid => exact absurd hv h
  | none | invalid => simp only [ChannelTally.add, hv]

theorem ChannelTally.add_maxDay_valid {v : Nat} (h : r.validity = .valid)
    (haverage : r.average = some v) : (t.add r).maxDay = raiseMax t.maxDay v r.day := by
  simp only [ChannelTally.add, h, haverage]

end Tally

/-! ### The abnormal seconds of the stacks (R127) -/

section Abnormal

variable {k n m : Nat}

/-- The largest of the values that enter, from a value that is not above it. -/
theorem foldl_largest (records : List DayRec) : ∀ n ≤ m,
    (∀ r ∈ records, r.stack = k → r.secsAbn ≤ m) →
    ((∃ r ∈ records, r.stack = k ∧ r.secsAbn = m) ∨ m = n) →
    records.foldl (fun m r => if r.stack = k then max m r.secsAbn else m) n = m := by
  induction records with
  | nil => exact fun n _ _ h => (h.resolve_left fun ⟨r, hr, _⟩ => absurd hr List.not_mem_nil).symm
  | cons r rest ih =>
    intro n hn hle hmeets
    have hrest : ∀ r' ∈ rest, r'.stack = k → r'.secsAbn ≤ m := fun r' hr' =>
      hle r' (List.mem_cons_of_mem _ hr')
    have hfirst := hle r List.mem_cons_self
    rw [List.foldl_cons]
    refine ih _ ?_ hrest ?_
    · split
      · next hk => exact Nat.max_le.2 ⟨hn, hfirst hk⟩
      · exact hn
    · rcases hmeets with ⟨r', hr', hk, hm⟩ | rfl
      · rcases List.mem_cons.1 hr' with rfl | hr'
        · exact .inr (by rw [if_pos hk, hm, Nat.max_eq_right hn])
        · exact .inl ⟨r', hr', hk, hm⟩
      · refine .inr ?_
        split
        · next hk => exact (Nat.max_eq_left (hfirst hk)).symm
        · rfl

theorem largestAbn_eq {records : List DayRec}
    (hle : ∀ r ∈ records, r.stack = k → r.secsAbn ≤ m)
    (hmeets : (∃ r ∈ records, r.stack = k ∧ r.secsAbn = m) ∨ m = 0) :
    largestAbn records k = m := foldl_largest records 0 (Nat.zero_le m) hle hmeets

/-- A stack's count rises by the largest of its channels, once for the day. -/
theorem TallySlot.addAbn_stackAbn {t : TallySlot} (h : t.stackAbn[k]? = some n)
    (records : List DayRec) :
    (t.addAbn records).stackAbn[k]? = some (n + largestAbn records k) := by
  rw [TallySlot.addAbn, List.getElem?_mapIdx, h]
  rfl

theorem TallySlot.add_channels {t : TallySlot} {r : DayRec} {c : Nat} {x : ChannelTally}
    (h : t.channels[c]? = some x) :
    (t.add r).channels[c]? = some (if c = r.channel then x.add r else x) := by
  show (t.channels.modify r.channel fun c => c.add r)[c]? = _
  by_cases hc : c = r.channel
  · subst hc
    rw [if_pos rfl, List.getElem?_modify_eq, h]
    rfl
  · rw [if_neg hc, List.getElem?_modify_ne _ _ (Ne.symm hc), h]

end Abnormal

/-- Settles O45: the record's fields by the class of its day, then what it adds, section by section. -/
theorem daysAreJudgedAndTallied : Obligations.DaysAreJudgedAndTallied := by
  refine ⟨?_, fun t records k n m hn hle hmeets => ⟨?_, rfl⟩,
    fun t r c x hx => TallySlot.add_channels hx⟩
  · rintro e gov cause day r t u rfl rfl
    refine ⟨rfl, rfl, rfl, rfl, rfl, rfl, rfl, rfl, rfl, rfl, rfl, rfl, rfl, rfl, rfl, rfl, rfl, rfl,
      rfl, fun k kind h => DayEntry.record_label h gov cause day, fun hidle hall => ?_,
      fun hidle hfew => ?_, fun hsome => ?_, rfl, dayExceeds_iff _ _ _, rfl, rfl, rfl, rfl, rfl, rfl,
      rfl, tick_decide _ _, tick_decide _ _, tick_decide _ _, tick_decide _ _, tick_of_iff Iff.rfl _,
      rfl, rfl, rfl, rfl, rfl, rfl, fun h => ChannelTally.add_maxInterval_none h, fun h => ?_,
      fun m p hm hp => ?_, fun h => ChannelTally.add_maxDay_other h, fun v hnone hvalid hv => ?_,
      fun m v hm hvalid hv => ?_⟩
    · have hclass := (DayEntry.dayClass_of_idle hidle).trans (if_pos hall)
      exact ⟨hclass, DayEntry.validity_of_idle (by rw [hclass]; decide) _⟩
    · have hclass := (DayEntry.dayClass_of_idle hidle).trans (if_neg (Nat.not_le.mpr hfew))
      exact ⟨hclass, DayEntry.validity_of_idle (by rw [hclass]; decide) _⟩
    · have hclass := DayEntry.dayClass_of_operating hsome
      exact ⟨hclass, DayEntry.validity_of_operating hclass _⟩
    · cases hp : e.maximum with
      | none => rw [ChannelTally.add_maxInterval_none hp, h]
      | some p => rw [ChannelTally.add_maxInterval_some hp, h]; rfl
    · rw [ChannelTally.add_maxInterval_some hp, hm, raiseMax_some]
    · rw [ChannelTally.add_maxDay_valid hvalid hv, hnone]
      rfl
    · rw [ChannelTally.add_maxDay_valid hvalid hv, hm, raiseMax_some]
      rfl
  · rw [TallySlot.addAbn_stackAbn hn, largestAbn_eq hle hmeets]

end Sys2Proof.Machine
end

section
/-! The walk of an annotation (R118 to R120, R124), and O36. -/

namespace Sys2Proof.Machine

/-! ### Candidates (R119) -/

section Candidates

variable {table : List ProvDay} {k start c : Nat}

theorem isCandidate_iff : isCandidate table k start c = true ↔
    ∃ m, slotAt table start c = some m ∧ m.state ≠ .none ∧ m.stack = k := by
  rw [isCandidate]
  cases slotAt table start c <;> simp

/-- The channels that are candidates of an interval for ALL channels of a stack. -/
def candidateChannels (table : List ProvDay) (k start : Nat) : List Nat :=
  (List.range 32).filter (isCandidate table k start)

theorem mem_candidateChannels : c ∈ candidateChannels table k start ↔
    c < 32 ∧ ∃ m, slotAt table start c = some m ∧ m.state ≠ .none ∧ m.stack = k := by
  rw [candidateChannels, List.mem_filter, List.mem_range, isCandidate_iff]

/-- An interval without a candidate channel is a candidate itself. -/
theorem candidates_all : candidates table k none start =
    if candidateChannels table k start = [] then [none]
    else (candidateChannels table k start).map some := by
  rw [candidates, candidateChannels]
  cases (List.range 32).filter (isCandidate table k start) <;> rfl

theorem some_mem_candidates :
    some c ∈ candidates table k none start ↔ c ∈ candidateChannels table k start := by
  rw [candidates_all]
  split
  · next h => simp [h]
  · simp

theorem candidates_eq_none :
    candidates table k none start = [none] ↔ candidateChannels table k start = [] := by
  rw [candidates_all]
  split
  · next h => exact iff_of_true rfl h
  · next h =>
    refine iff_of_false (fun heq => ?_) h
    have hmem : none ∈ (candidateChannels table k start).map some := heq ▸ List.mem_singleton_self _
    simp at hmem

theorem candidates_length_le (channel : Option Nat) :
    (candidates table k channel start).length ≤ 32 := by
  cases channel with
  | some c => exact Nat.le_of_ble_eq_true rfl
  | none =>
    rw [candidates_all]
    split
    · exact Nat.le_of_ble_eq_true rfl
    · rw [List.length_map]
      exact (List.length_filter_le _ _).trans (Nat.le_of_eq List.length_range)

end Candidates

/-! ### What is found at a candidate (R120) -/

section Findings

variable {s : State} {k start c : Nat}

theorem State.finding_of_closed {d : Nat} (hd : s.store.closedThrough = some d)
    (hle : dayOf start ≤ d) (x : Option Nat) : s.finding k start x = .refusedClosed := by
  unfold State.finding
  rw [hd]
  exact if_pos (decide_eq_true hle)

/-- On a day after the closed-through date the map slot decides. -/
theorem State.finding_of_open (h : ∀ d, s.store.closedThrough = some d → d < dayOf start)
    (x : Option Nat) : s.finding k start x =
      match x.bind fun c => slotAt s.recorder.table start c with
      | none => .absent
      | some m => findingOf k m := by
  unfold State.finding
  rw [if_neg (by rw [closedBy_eq_false_iff.2 h]; exact Bool.false_ne_true)]
  cases x <;> rfl

theorem findingOf_absent {m : MapSlot} (h : m.state = .none ∨ m.state = .notStored ∨ m.stack ≠ k) :
    findingOf k m = .absent := by
  rw [findingOf]
  cases hstate : m.state with
  | none | notStored => rfl
  | queued | stored q => exact if_neg (by simpa [hstate] using h)

theorem findingOf_queued {m : MapSlot} (h : m.state = .queued) (hk : m.stack = k) :
    findingOf k m = .queued := by
  rw [findingOf, h]
  exact if_pos hk

theorem findingOf_stored {m : MapSlot} {q : Nat} (h : m.state = .stored q) (hk : m.stack = k) :
    findingOf k m = .stored q := by
  rw [findingOf, h]
  exact if_pos hk

end Findings

/-! ### Steps of the walk -/

section Walk

variable {s : State} {op : AnnOp} {c : Option Nat} {rest : List (Option Nat)} {q : Nat}

theorem AnnOp.counted_eq (htodo : op.todo = c :: rest) (k : Count) : op.counted k =
    { op with counts := op.counts.count k, todo := rest, phase := .examine } := by
  rw [AnnOp.counted, htodo]
  rfl

theorem AnnOp.walk_last (htodo : op.todo = []) (hlast : op.last ≤ op.interval) (n : Nat) :
    op.walk s (n + 1) = .ends op op.counts.outcome none := by
  rw [AnnOp.walk, htodo]
  exact if_pos hlast

/-- The operation in the interval behind the one at hand. -/
def AnnOp.nextInterval (s : State) (op : AnnOp) : AnnOp :=
  { op with
    interval := op.interval + 1800
    todo := candidates s.recorder.table op.stack op.channel (op.interval + 1800) }

theorem AnnOp.walk_next (htodo : op.todo = []) (hlast : op.interval < op.last) (n : Nat) :
    op.walk s (n + 1) = (op.nextInterval s).walk s n := by
  rw [AnnOp.walk, htodo]
  exact if_neg (Nat.not_le.mpr hlast)

theorem AnnOp.walk_closed (htodo : op.todo = c :: rest)
    (hfinds : s.finding op.stack op.interval c = .refusedClosed) (n : Nat) :
    op.walk s (n + 1) = (op.counted .refusedClosed).walk s n := by
  rw [AnnOp.walk, htodo]
  simp only [hfinds]

theorem AnnOp.walk_absent (htodo : op.todo = c :: rest)
    (hfinds : s.finding op.stack op.interval c = .absent) (n : Nat) :
    op.walk s (n + 1) = (op.counted .absent).walk s n := by
  rw [AnnOp.walk, htodo]
  simp only [hfinds]

theorem AnnOp.walk_queued (htodo : op.todo = c :: rest)
    (hfinds : s.finding op.stack op.interval c = .queued) (n : Nat) :
    op.walk s (n + 1) = if s.store.fault = true then .ends op .refused (some .storeFault)
      else .waits { op with phase := .waitQueued } := by
  rw [AnnOp.walk, htodo]
  simp only [hfinds]

theorem AnnOp.walk_stored (htodo : op.todo = c :: rest)
    (hfinds : s.finding op.stack op.interval c = .stored q) (n : Nat) :
    op.walk s (n + 1) = if s.store.fault = true then .ends op .refused (some .storeFault)
      else .waits { op with phase := .waitRead q } := by
  rw [AnnOp.walk, htodo]
  simp only [hfinds]

/-! ### The bound of the walk -/

/-- The steps that a walk can take: one for each candidate and each end of an interval. -/
def AnnOp.need (op : AnnOp) : Nat :=
  op.todo.length + 1 + 33 * ((op.last - op.interval + 1799) / 1800)

theorem AnnOp.need_le_fuel (op : AnnOp) : op.need ≤ op.fuel := by
  unfold AnnOp.need AnnOp.fuel
  omega

theorem AnnOp.need_nextInterval (s : State) (htodo : op.todo = []) (hlast : op.interval < op.last) :
    (op.nextInterval s).need + 1 ≤ op.need := by
  have hlength : (op.nextInterval s).todo.length ≤ 32 := candidates_length_le _
  have hinterval : (op.nextInterval s).interval = op.interval + 1800 := rfl
  have hsame : (op.nextInterval s).last = op.last := rfl
  rw [AnnOp.need, AnnOp.need, htodo, hinterval, hsame, List.length_nil]
  omega

theorem AnnOp.need_counted (htodo : op.todo = c :: rest) (k : Count) :
    (op.counted k).need + 1 = op.need := by
  rw [AnnOp.counted_eq htodo, AnnOp.need, AnnOp.need, htodo, List.length_cons]
  simp only
  omega

/-- A walk that has enough steps does not depend on their bound. -/
theorem AnnOp.walk_enough (s : State) : ∀ (m n : Nat) (op : AnnOp), op.need ≤ m → op.need ≤ n →
    op.walk s m = op.walk s n := by
  intro m
  induction m with
  | zero => exact fun n op hm _ => absurd hm (by rw [AnnOp.need]; omega)
  | succ m ih =>
    intro n op hm hn
    obtain ⟨n, rfl⟩ := Nat.exists_eq_succ_of_ne_zero (n := n) (by rw [AnnOp.need] at hn; omega)
    cases htodo : op.todo with
    | nil =>
      by_cases hlast : op.last ≤ op.interval
      · rw [AnnOp.walk_last htodo hlast, AnnOp.walk_last htodo hlast]
      · have hneed := AnnOp.need_nextInterval s htodo (Nat.not_le.mp hlast)
        rw [AnnOp.walk_next htodo (Nat.not_le.mp hlast), AnnOp.walk_next htodo (Nat.not_le.mp hlast)]
        exact ih n _ (by omega) (by omega)
    | cons c rest =>
      have hneed := AnnOp.need_counted htodo
      cases hfinds : s.finding op.stack op.interval c with
      | refusedClosed =>
        have := hneed .refusedClosed
        rw [AnnOp.walk_closed htodo hfinds, AnnOp.walk_closed htodo hfinds]
        exact ih n _ (by omega) (by omega)
      | absent =>
        have := hneed .absent
        rw [AnnOp.walk_absent htodo hfinds, AnnOp.walk_absent htodo hfinds]
        exact ih n _ (by omega) (by omega)
      | queued => rw [AnnOp.walk_queued htodo hfinds, AnnOp.walk_queued htodo hfinds]
      | stored q => rw [AnnOp.walk_stored htodo hfinds, AnnOp.walk_stored htodo hfinds]

/-! ### The operation goes on -/

theorem State.walkOn_of_walk {op' : AnnOp} (h : op.walk s op.fuel = op'.walk s op'.fuel) :
    s.walkOn op = s.walkOn op' := by
  rw [State.walkOn, State.walkOn, h]

theorem State.walkOn_of_ends {op' : AnnOp} {out : OpOutcome} {reason : Option Reason}
    (h : op.walk s op.fuel = .ends op' out reason) : s.walkOn op = s.endAnnotation op' out reason := by
  rw [State.walkOn, h]

theorem State.walkOn_last (htodo : op.todo = []) (hlast : op.last ≤ op.interval) :
    s.walkOn op = s.endAnnotation op op.counts.outcome none :=
  State.walkOn_of_ends (AnnOp.walk_last htodo hlast _)

theorem State.walkOn_next (htodo : op.todo = []) (hlast : op.interval < op.last) :
    s.walkOn op = s.walkOn (op.nextInterval s) := by
  have hneed := AnnOp.need_nextInterval s htodo hlast
  have hfuel := op.need_le_fuel
  obtain ⟨n, hn⟩ : ∃ n, op.fuel = n + 1 := ⟨_, rfl⟩
  refine State.walkOn_of_walk ?_
  rw [hn, AnnOp.walk_next htodo hlast]
  exact AnnOp.walk_enough s _ _ _ (by omega) (AnnOp.need_le_fuel _)

theorem AnnOp.fuel_counted (htodo : op.todo = c :: rest) (k : Count) :
    op.fuel = (op.counted k).fuel + 1 := by
  rw [AnnOp.counted_eq htodo, AnnOp.fuel, AnnOp.fuel, htodo]
  rfl

theorem State.walkOn_closed (htodo : op.todo = c :: rest)
    (hfinds : s.finding op.stack op.interval c = .refusedClosed) :
    s.walkOn op = s.walkOn (op.counted .refusedClosed) :=
  State.walkOn_of_walk (by rw [AnnOp.fuel_counted htodo, AnnOp.walk_closed htodo hfinds])

theorem State.walkOn_absent (htodo : op.todo = c :: rest)
    (hfinds : s.finding op.stack op.interval c = .absent) :
    s.walkOn op = s.walkOn (op.counted .absent) :=
  State.walkOn_of_walk (by rw [AnnOp.fuel_counted htodo, AnnOp.walk_absent htodo hfinds])

/-- In FAULT a candidate that is there ends the operation (R140). -/
theorem State.walkOn_fault (htodo : op.todo = c :: rest) (hfault : s.store.fault = true)
    (hfinds : s.finding op.stack op.interval c = .queued ∨
      s.finding op.stack op.interval c = .stored q) :
    s.walkOn op = s.endAnnotation op .refused (some .storeFault) := by
  refine State.walkOn_of_ends ?_
  rcases hfinds with hfinds | hfinds
  · exact (AnnOp.walk_queued htodo hfinds _).trans (if_pos hfault)
  · exact (AnnOp.walk_stored htodo hfinds _).trans (if_pos hfault)

/-- A queued candidate is waited for. -/
theorem State.walkOn_queued (htodo : op.todo = c :: rest) (hready : s.store.fault = false)
    (hfinds : s.finding op.stack op.interval c = .queued) :
    s.walkOn op = s.setAnnotation { op with phase := .waitQueued } := by
  have hwalk : op.walk s op.fuel = .waits { op with phase := .waitQueued } :=
    (AnnOp.walk_queued htodo hfinds _).trans (if_neg (by simp [hready]))
  rw [State.walkOn, hwalk]

/-- A stored candidate's read is claimed. -/
theorem State.walkOn_stored (htodo : op.todo = c :: rest) (hready : s.store.fault = false)
    (hfinds : s.finding op.stack op.interval c = .stored q) :
    s.walkOn op = (s.setAnnotation { op with phase := .waitRead q }).setWaiting .operator true := by
  have hwalk : op.walk s op.fuel = .waits { op with phase := .waitRead q } :=
    (AnnOp.walk_stored htodo hfinds _).trans (if_neg (by simp [hready]))
  rw [State.walkOn, hwalk]

/-- An annotation replaced, its claim as it was. -/
theorem State.setAnnotation_eq {o : LinkOp} (hop : (s.port .operator).op = some o) (x : AnnOp) :
    s.setAnnotation x = s.withPort .operator { (s.port .operator) with
      op := some { cmd := .applyAnnotation x, waiting := o.waiting } } := State.setOpCmd_eq hop _

/-- An annotation replaced, its claim set. -/
theorem State.setAnnotation_setWaiting {o : LinkOp} (hop : (s.port .operator).op = some o)
    (x : AnnOp) (w : Bool) : (s.setAnnotation x).setWaiting .operator w =
      s.withPort .operator { (s.port .operator) with
        op := some { cmd := .applyAnnotation x, waiting := w } } := by
  rw [State.setAnnotation_eq hop]
  rfl

end Walk

/-! ### APPLY ANNOTATION (R118) -/

section Apply

variable {s : State} {args : List Byte}

theorem annKindOfCode_eq_none {n : Nat} (h : n = 0 ∨ 5 < n) : annKindOfCode n = none := by
  unfold annKindOfCode
  split
  case h_6 => rfl
  all_goals omega

theorem annKindOfCode_isSome {n : Nat} (h1 : 1 ≤ n) (h5 : n ≤ 5) :
    ∃ kind, annKindOfCode n = some kind := by
  interval_cases n <;> exact ⟨_, rfl⟩

theorem State.annotationRuling_sequence {kind : AnnKind}
    (hkind : annKindOfCode (u8 args 0) = some kind)
    (h : s.supply.mode ≠ .recording ∨ s.committed = some .withdraw ∨
      ∀ k c a b, s.links.marks ≠ .bothMarked k c a b) : s.annotationRuling args = .sequence := by
  rw [State.annotationRuling, hkind]
  by_cases hopen : s.recordingOpen = false
  · exact if_pos hopen
  · have hmarks : ∀ k c a b, s.links.marks ≠ .bothMarked k c a b := by
      rcases h with h | h | h
      · exact absurd (State.recordingOpen_eq_false (.inl h)) hopen
      · exact absurd (State.recordingOpen_eq_false (.inr h)) hopen
      · exact h
    refine (if_neg hopen).trans ?_
    cases hm : s.links.marks with
    | none | startMarked k c a => rfl
    | bothMarked k c a b => exact absurd hm (hmarks k c a b)

theorem State.annotationRuling_begins {kind : AnnKind} {k a b : Nat} {c : Option Nat}
    (hkind : annKindOfCode (u8 args 0) = some kind) (hmode : s.supply.mode = .recording)
    (hcommit : s.committed ≠ some .withdraw) (hm : s.links.marks = .bothMarked k c a b) :
    s.annotationRuling args = .answered (s.beginAnnotation
      (.begin s.recorder.table k c a b kind (u8 args 1))) none false := by
  rw [State.annotationRuling, hkind]
  refine (if_neg (by simp [State.recordingOpen_iff.2 ⟨hmode, hcommit⟩])).trans ?_
  rw [hm]

/-- An annotation whose first candidate is stored claims its read at once. -/
theorem State.beginAnnotation_stored {op : AnnOp} {cand : Option Nat} {rest : List (Option Nat)}
    {q : Nat} (htodo : op.todo = cand :: rest) (hready : s.store.fault = false)
    (hfinds : s.finding op.stack op.interval cand = .stored q) :
    s.beginAnnotation op = (({ s with links := { s.links with marks := .none } } : State).withPort
      .operator ((s.port .operator).withOp
        (.applyAnnotation { op with phase := .waitRead q }) true)).settle := by
  rw [State.beginAnnotation, State.walkOn_stored
    (s := (s.putMarks .none).beginOp .operator (.applyAnnotation op)) htodo hready hfinds,
    State.setAnnotation_setWaiting rfl]
  rfl

end Apply

/-- Settles O36: the receipt by its rows, each step of the walk, and the candidates with their findings. -/
theorem annotationsBegin : Obligations.AnnotationsBegin := by
  refine ⟨fun s t l args h => ⟨fun hcode => ?_, fun hlo hhi hclosed => ?_, ?_, ?_⟩, ?_,
    fun s k start c m => ⟨rfl, ?_, ?_, ?_, fun hopen => ?_⟩⟩
  · refine congrArg _ (State.serve_argument (by decide) h ?_)
    simp only [State.annotationRuling, annKindOfCode_eq_none hcode]
  · obtain ⟨kind, hkind⟩ := annKindOfCode_isSome hlo hhi
    exact congrArg _ (State.serve_sequence (by decide) h
      (State.annotationRuling_sequence hkind hclosed))
  · rintro kind k c a b op cand rest q hkind hmode hcommit hm rfl htodo hfinds hready rfl
    exact congrArg _ (State.serve_answered (rule := fun u => u.annotationRuling args) (by decide) h
      ((State.annotationRuling_begins hkind hmode hcommit hm).trans
        (congrArg (Ruling.answered · none false)
          (State.beginAnnotation_stored htodo hready hfinds))))
  · rintro kind k c a b op hkind hmode hcommit hm rfl rfl
    exact congrArg _ (State.serve_answered (rule := fun u => u.annotationRuling args) (by decide)
      h (State.annotationRuling_begins hkind hmode hcommit hm))
  · rintro s op o c rest q on hop rfl
    refine ⟨State.walkOn_last, State.walkOn_next, fun htodo => ⟨fun hfinds => ?_, fun hfinds => ?_,
      State.walkOn_fault htodo, fun hready hfinds => ?_, fun hready hfinds => ?_⟩,
      fun out reason hrun hroom => State.endAnnotation_room hrun hroom op out reason⟩
    · rw [State.walkOn_closed htodo hfinds, AnnOp.counted_eq htodo]
      rfl
    · rw [State.walkOn_absent htodo hfinds, AnnOp.counted_eq htodo]
      rfl
    · rw [State.walkOn_queued htodo hready hfinds, State.setAnnotation_eq hop]
    · rw [State.walkOn_stored htodo hready hfinds, State.setAnnotation_setWaiting hop]
  · exact some_mem_candidates.trans mem_candidateChannels
  · rw [candidates_eq_none, List.eq_nil_iff_forall_not_mem]
    simp only [mem_candidateChannels, not_and, not_exists]
    exact forall_congr' fun d => ⟨fun hnone m hd => hnone hd m, fun hnone hd m => hnone m hd⟩
  · rintro ⟨d, hd, hle⟩ x
    exact State.finding_of_closed hd hle x
  · refine ⟨State.finding_of_open hopen none, fun hslot => ?_, fun hslot => ?_⟩
    · rw [State.finding_of_open hopen]
      simp only [Option.bind_some, hslot]
    · have hfinding : s.finding k start (some c) = findingOf k m := by
        rw [State.finding_of_open hopen]
        simp only [Option.bind_some, hslot]
      rw [hfinding]
      exact ⟨findingOf_absent, findingOf_queued, fun q => findingOf_stored⟩

end Sys2Proof.Machine
end

section
/-! An annotation under way (R120 to R124, R141), and O38. -/

namespace Sys2Proof.Machine

section Annotations

variable {s : State} {g : Grant} {o : LinkOp} {op : AnnOp} {q : Nat} {old new : IntervalRec}

/-! ### Each row of the table -/

/-- A queued candidate is examined again (R120). -/
theorem exec_annotationQueuedWaitEnd (hrun : s.running = true) (hop : s.annotation = some op)
    (hphase : op.phase = .waitQueued) : exec .annotationQueuedWaitEnd s =
      .next (s.walkOn { op with phase := .examine }).settle := by
  show Host.Outcome.next _ = _
  rw [hrun, hop]
  simp only [hphase]

theorem exec_annotationReadGrant (hg : s.grants g .annRead) (hop : s.annotation = some op)
    (hphase : op.phase = .waitRead q) : exec .annotationReadGrant s =
      .next ((s.granted none).annotationRead op q).settle := by
  show Host.Outcome.next _ = _
  rw [(s.grantOf_eq_some .annRead g).2 hg, hop]
  simp only [hphase]
  rfl

/-- A rewrite of a day that has closed is not made (R122). -/
theorem exec_annotationRewriteGrant_closed (hg : s.grants g .annRewrite)
    (hop : s.annotation = some op) (hphase : op.phase = .waitRewrite q old new)
    (hclosed : closedBy s.store.closedThrough (dayOf old.start) = true) :
    exec .annotationRewriteGrant s =
      .next ((s.granted none).walkOn (op.counted .refusedClosed)).settle := by
  show Host.Outcome.next _ = _
  rw [(s.grantOf_eq_some .annRewrite g).2 hg, hop]
  simp only [hphase, hclosed, if_true]
  rfl

theorem exec_annotationRewriteGrant_open (hg : s.grants g .annRewrite)
    (hop : s.annotation = some op) (hphase : op.phase = .waitRewrite q old new)
    (hopen : closedBy s.store.closedThrough (dayOf old.start) = false) :
    exec .annotationRewriteGrant s = .next (((s.programRewrite q new).startGrant g).setAnnotation
      { op with phase := .programming q old new }) := by
  show Host.Outcome.next _ = _
  rw [(s.grantOf_eq_some .annRewrite g).2 hg, hop]
  simp only [hphase, hopen, Bool.false_eq_true, if_false]

/-- A rewrite that verifies is the current image of its position (R141). -/
theorem exec_rewriteVerified (hp : s.programs g .annRewrite) (hop : s.annotation = some op)
    (hphase : op.phase = .programming q old new) : exec (.writeAttemptComplete .verified) s =
      .next (((s.replaceImage q old new).setAnnotation
        { op with phase := .verified old new }).granted none).settle := by
  obtain ⟨hrun, hgrant, hclaim, hbegun⟩ := hp
  rw [exec_writeAttemptComplete hrun hgrant hbegun, State.attemptEnds, State.writeVerified, hclaim]
  simp only [State.rewriteWritten, hop, hphase]
  rfl

/-- The walk leaves the recorder's waiting work. -/
theorem State.walkOn_work (op : AnnOp) (s : State) :
    (s.walkOn op).recorder.work = s.recorder.work := by
  rw [State.walkOn]
  split
  · exact (((s.writeEvent_tallied _).trans (State.raiseAll_tallied _ _)).trans
      (State.endOp_tallied _ _ _ _ _ _)).work
  · split <;> rfl

/-- With no work waiting behind it, the walk goes on from a rewrite that has verified (R123). -/
theorem exec_annotationRewriteComplete (hrun : s.running = true) (hop : s.annotation = some op)
    (hphase : op.phase = .verified old new) (hwork : s.recorder.work = []) :
    exec .annotationRewriteComplete s =
      .next ((s.completeRewrite op old new).walkOn (op.counted .applied)).settle := by
  have hidle : ((s.completeRewrite op old new).walkOn (op.counted .applied)).runWork =
      (s.completeRewrite op old new).walkOn (op.counted .applied) :=
    State.runWork_of_nil ((State.walkOn_work _ _).trans hwork)
  show Host.Outcome.next _ = _
  rw [hrun, hop]
  simp only [hphase, hidle]

/-! ### Reading (R121) -/

theorem ReadResult.record?_eq_none {α : Type} {x : ReadResult α} (h : ∀ v, x ≠ .record v) :
    x.record? = none := by
  cases x with
  | record v => exact absurd rfl (h v)
  | other | empty => rfl

theorem State.annotationRead_absent
    (h : ∀ r, s.store.interval.read .interval q ≠ .record r) :
    s.annotationRead op q = s.walkOn (op.counted .absent) := by
  rw [State.annotationRead, ReadResult.record?_eq_none h]

theorem State.annotationRead_record {r : IntervalRec}
    (h : s.store.interval.read .interval q = .record r) : s.annotationRead op q =
      if op.kind.applies r = true then (s.setAnnotation { op with
        phase := .waitRewrite q r (r.annotate op.kind op.remark (s.closeMark r)) }).setWaiting
          .operator true
      else s.walkOn (op.counted .refusedKind) := by
  rw [State.annotationRead, ReadResult.record?_eq_some_iff.2 h]

/-! ### Rewriting (R122, R123, R141) -/

/-- The rewritten record's contribution is moved, and the candidate counted as applied. -/
theorem State.completeRewrite_eq (hop : (s.port .operator).op = some o) (op : AnnOp) :
    s.completeRewrite op old new = { (s.withPort .operator { (s.port .operator) with op := some {
        cmd := .applyAnnotation (op.counted .applied), waiting := o.waiting } }) with
      recorder := { s.recorder with
        table := modEntry (dayOf new.start) new.channel (DayEntry.move old new)
          s.recorder.table } } := by
  rw [State.completeRewrite, State.setAnnotation_eq (o := o) (by exact hop)]
  rfl

theorem closedBy_of_le {closed : Option Nat} {day d : Nat} (hd : closed = some d) (hle : day ≤ d) :
    closedBy closed day = true := by
  rw [hd]
  exact decide_eq_true hle

/-- What a verified rewrite leaves of the store (R141). -/
theorem State.replaceImage_cells (q : Nat) (old new : IntervalRec) (s : State) :
    (s.replaceImage q old new).store.cell .interval ((q - 1) % 65536) = some (q, .interval new) ∧
      ∀ r n, (r ≠ .interval ∨ n ≠ (q - 1) % 65536) →
        (s.replaceImage q old new).store.cell r n = s.store.cell r n := by
  refine ⟨?_, fun r n h => ?_⟩
  · exact congrArg (Option.map _) (getCell_putCell_same _ _ _)
  · cases r with
    | interval =>
      exact congrArg (Option.map _)
        (getCell_putCell_other (h.resolve_left fun k => k rfl) _ _)
    | day | event => rfl

/-! ### The end of the walk (R124) -/

/-- A walk whose last candidate is counted ends the operation, with a record of its counts. -/
theorem State.walkOn_counted {c : Option Nat} (hrun : s.running = true) (hroom : s.roomFor 1)
    (htodo : op.todo = [c]) (hlast : op.last ≤ op.interval) (k : Count) :
    s.walkOn (op.counted k) = ((s.queued
      [.event ((op.counted k).endRecord s.time.counter)]).raiseAll flagAnnotation).endOp .operator
        (op.counts.count k).outcome none none (op.counts.count k).list := by
  have hend : (op.counted k).todo = [] := by rw [AnnOp.counted_eq htodo]
  rw [State.walkOn_last hend hlast, State.endAnnotation_room hrun hroom]
  exact congrArg (State.endOp .operator _ _ _ _)
    (State.raiseAll_flagged (s := s.queued _) hrun _).symm

theorem AnnCounts.outcome_partly {n : AnnCounts}
    (h : n.refusedClosed ≠ 0 ∨ n.refusedKind ≠ 0 ∨ n.absent ≠ 0) : n.outcome = .partly :=
  if_neg fun ⟨hclosed, hkind, habsent⟩ =>
    h.elim (fun k => k hclosed) (Or.rec (fun k => k hkind) fun k => k habsent)

/-- The annotation in flight put in its own place. -/
theorem State.setAnnotation_same {w : Bool}
    (hop : (s.port .operator).op = some { cmd := .applyAnnotation op, waiting := w }) :
    s.setAnnotation op = s := by
  rw [State.setAnnotation_eq hop, ← hop]
  rfl

/-- Another annotation in its place does not change how the operation ends. -/
theorem State.endOp_setAnnotation {w : Bool}
    (hop : (s.port .operator).op = some { cmd := .applyAnnotation op, waiting := w }) (x : AnnOp)
    (out : OpOutcome) (r : Option Reason) (i : Option Nat) (c : List Nat) :
    (s.setAnnotation x).endOp .operator out r i c = s.endOp .operator out r i c := by
  rw [State.setAnnotation_eq hop, State.endOp, State.endOp, hop]
  rfl

/-- So a rewrite that has been counted ends it as one that has not. -/
theorem State.endOp_completeRewrite {w : Bool} (hrun : s.running = true)
    (hop : (s.port .operator).op = some { cmd := .applyAnnotation op, waiting := w })
    (xs : List QueueItem) (f : FlagSet) (out : OpOutcome) (r : Option Reason) (i : Option Nat)
    (c : List Nat) :
    (((s.completeRewrite op old new).queued xs).raiseAll f).endOp .operator out r i c =
      (((s.moveContribution old new).queued xs).raiseAll f).endOp .operator out r i c := by
  rw [State.raiseAll_flagged (s := (s.completeRewrite op old new).queued xs) hrun,
    State.raiseAll_flagged (s := (s.moveContribution old new).queued xs) hrun]
  exact State.endOp_setAnnotation (s := ((s.moveContribution old new).queued xs).flagged f) hop
    (op.counted .applied) out r i c

end Annotations

/-- Settles O38: the rows of the table, each with what the walk goes on to. -/
theorem annotationsGoOn : Obligations.AnnotationsGoOn := by
  rintro s g o op c rest q old new next ends on hop hcmd htodo rfl rfl rfl
  have hann : s.annotation = some op := State.annotation_of_op hop hcmd
  have hwhole : (s.port .operator).op =
      some { cmd := .applyAnnotation op, waiting := o.waiting } := by rw [hop, ← hcmd]
  have hcounted := AnnOp.counted_eq htodo
  refine ⟨fun hrun hphase => exec_annotationQueuedWaitEnd hrun hann hphase,
    fun hg hphase => ⟨fun r hread hkind => ?_, fun hread => ?_⟩, fun d hg hphase hd hle => ?_,
    fun v hrun hphase hwork hv => ?_, fun hrun hphase hfinds hready => ?_,
    fun hrun hphase hfinds hready => ?_, fun hg hphase hread hkind hnew => ?_,
    fun hg hphase hread hkind hrest hlast hroom => ?_, fun hg hphase hread hrest hlast hroom => ?_,
    fun hg hphase hopen => ?_, fun d hg hphase hd hle hrest hlast hroom => ?_,
    fun hp hphase _ => ?_, fun v hrun hphase hrest hlast hroom hwork hv => ?_⟩
  · rw [exec_annotationReadGrant hg hann hphase,
      State.annotationRead_record (s := s.granted none) hread, if_neg (by simp [hkind]), hcounted]
    rfl
  · rw [exec_annotationReadGrant hg hann hphase,
      State.annotationRead_absent (s := s.granted none) hread, hcounted]
    rfl
  · rw [exec_annotationRewriteGrant_closed hg hann hphase
      (closedBy_of_le hd hle), hcounted]
    rfl
  · subst hv
    rw [exec_annotationRewriteComplete hrun hann hphase hwork, State.completeRewrite_eq hop,
      hcounted]
    rfl
  · rw [exec_annotationQueuedWaitEnd hrun hann hphase,
      State.walkOn_stored (op := { op with phase := .examine }) htodo hready hfinds,
      State.setAnnotation_setWaiting hop]
  · have hsame : ({ op with phase := .waitQueued } : AnnOp) = op := by rw [← hphase]
    rw [exec_annotationQueuedWaitEnd hrun hann hphase,
      State.walkOn_queued (op := { op with phase := .examine }) htodo hready hfinds, hsame,
      State.setAnnotation_same hwhole]
  · rw [exec_annotationReadGrant hg hann hphase,
      State.annotationRead_record (s := s.granted none) hread, if_pos hkind,
      State.setAnnotation_setWaiting (s := s.granted none) (by exact hop), hnew]
    rfl
  · subst hrest
    rw [exec_annotationReadGrant hg hann hphase,
      State.annotationRead_record (s := s.granted none) hread, if_neg (by simp [hkind]),
      State.walkOn_counted (s := s.granted none) hg.1 hroom htodo hlast,
      AnnCounts.outcome_partly (.inr (.inl (Nat.succ_ne_zero _)))]
    rfl
  · subst hrest
    have habsent : ∀ r, s.store.interval.read .interval q ≠ .record r := by
      rcases hread with hread | ⟨n, hread⟩ <;> simp [hread]
    rw [exec_annotationReadGrant hg hann hphase,
      State.annotationRead_absent (s := s.granted none) habsent,
      State.walkOn_counted (s := s.granted none) hg.1 hroom htodo hlast,
      AnnCounts.outcome_partly (.inr (.inr (Nat.succ_ne_zero _)))]
    rfl
  · rw [exec_annotationRewriteGrant_open hg hann hphase (closedBy_eq_false_iff.2 hopen),
      State.setAnnotation_eq (o := o) (by exact hop)]
    rfl
  · subst hrest
    rw [exec_annotationRewriteGrant_closed hg hann hphase (closedBy_of_le hd hle),
      State.walkOn_counted (s := s.granted none) hg.1 hroom htodo hlast,
      AnnCounts.outcome_partly (.inl (Nat.succ_ne_zero _))]
    rfl
  · obtain ⟨hsame, hothers⟩ := s.replaceImage_cells q old new
    refine ⟨s.replaceImage q old new, ?_, ⟨rfl, rfl, rfl, rfl, rfl, rfl, rfl, rfl, rfl⟩, rfl, rfl,
      rfl, hsame, hothers, fun r => ?_, rfl, rfl, rfl, ⟨rfl, rfl, rfl, rfl, rfl, rfl⟩⟩
    · rw [exec_rewriteVerified hp hann hphase, State.setAnnotation_eq (o := o) (by exact hop)]
      rfl
    · cases r <;> rfl
  · subst hrest hv
    rw [exec_annotationRewriteComplete hrun hann hphase hwork,
      State.walkOn_counted (s := s.completeRewrite op old new) hrun hroom htodo hlast,
      State.endOp_completeRewrite hrun hwhole]
    rfl

end Sys2Proof.Machine
end

section
/-! The close of a day with room in the queue (R112, R127 to R130, R142). -/

namespace Sys2Proof.Machine

/-! ### A slot changed, with records and flags -/

/-- Records at the end of the queue, one slot of the live tally replaced, and flags raised. -/
def State.entered (xs : List QueueItem) (i : Nat) (x : TallySlot) (f : FlagSet) (s : State) : State :=
  { s with
    recorder := { s.recorder with queue := s.recorder.queue ++ xs, tally := s.recorder.tally.set i x }
    attention := s.attention.raiseAll f }

section Entered

variable {s : State} {i : Nat} {x : TallySlot} {xs : List QueueItem} {f : FlagSet}

/-- A slot replaced by itself stays. -/
theorem State.entered_same (hx : s.recorder.tally[i]? = some x) (xs : List QueueItem) (f : FlagSet) :
    s.entered xs i x f = (s.queued xs).flagged f := by
  obtain ⟨hi, rfl⟩ := List.getElem?_eq_some_iff.1 hx
  rw [State.entered, List.set_getElem_self]
  rfl

theorem State.entered_nothing (hx : s.recorder.tally[i]? = some x) : s.entered [] i x 0 = s := by
  rw [State.entered_same hx, State.queued_nil_flagged_zero]

theorem State.entered_getElem? (hi : i < s.recorder.tally.length) :
    (s.entered xs i x f).recorder.tally[i]? = some x := List.getElem?_set_self hi

theorem State.slot_entered (hi : i < s.recorder.tally.length) : (s.entered xs i x f).slot i = x :=
  State.slot_of_getElem? _ (State.entered_getElem? hi)

theorem State.roomFor_entered (n : Nat) :
    (s.entered xs i x f).roomFor n ↔ s.roomFor (xs.length + n) := s.roomFor_queued xs n

theorem State.modSlot_entered (hi : i < s.recorder.tally.length) (g : TallySlot → TallySlot) :
    (s.entered xs i x f).modSlot i g = s.entered xs i (g x) f := by
  have hset : (s.recorder.tally.set i x).modify i g = s.recorder.tally.set i (g x) := by
    rw [List.modify_eq_set_getElem?, List.getElem?_set_self hi]
    exact List.set_set ..
  rw [State.entered, State.modSlot]
  simp only [hset]
  rfl

theorem State.offer_entered (q : QueueItem) (hroom : s.roomFor (xs.length + 1)) :
    (s.entered xs i x f).offer q = s.entered (xs ++ [q]) i x f := by
  rw [State.offer_room ((State.roomFor_entered 1).2 hroom), State.queued, State.entered,
    State.entered]
  simp only [List.append_assoc]

theorem State.raiseAll_entered (hrun : s.running = true) (g : FlagSet) :
    (s.entered xs i x f).raiseAll g = s.entered xs i x (f ||| g) := by
  rw [State.raiseAll_flagged (s := s.entered xs i x f) hrun, State.flagged, State.entered,
    State.entered]
  simp only [AttentionUnit.raiseAll_raiseAll]

/-- A slot that turns FINAL, with its flag (R130). -/
theorem State.finalSlot_entered (hrun : s.running = true) (hi : i < s.recorder.tally.length) :
    (s.entered xs i x f).finalSlot i = s.entered xs i x.finished (f ||| flagYear) := by
  rw [State.finalSlot, State.modSlot_entered hi, State.raiseAll_entered hrun]
  rfl

theorem State.checkpoint_entered (hi : i < s.recorder.tally.length)
    (hroom : s.roomFor (xs.length + 1)) :
    (s.entered xs i x f).checkpoint i = s.entered (xs ++ [.checkpoint i x]) i x f := by
  rw [State.checkpoint, State.slot_entered hi, State.offer_entered _ hroom]

end Entered

/-! ### The day's records (R112, R127) -/

/-- The pending counts enter a slot (R128). -/
def TallySlot.account (r : Recorder) (t : TallySlot) : TallySlot :=
  { t with
    notStored := t.notStored + r.notStored
    steps := t.steps + r.steps
    restarts := t.restarts + r.restarts
    overwritten := t.overwritten + r.overwritten }

/-- A slot after a day's records and the pending counts (R112, steps 2 and 3). -/
def TallySlot.afterDay (r : Recorder) (records : List DayRec) (x : TallySlot) : TallySlot :=
  ((records.foldl TallySlot.add x).addAbn records).account r

theorem TallySlot.foldl_add_state (records : List DayRec) : ∀ x : TallySlot,
    (records.foldl TallySlot.add x).state = x.state := by
  induction records with
  | nil => exact fun x => rfl
  | cons r rest ih => exact fun x => ih (x.add r)

/-- A day leaves its slot OPEN or not (R130). -/
theorem TallySlot.afterDay_state (r : Recorder) (records : List DayRec) (x : TallySlot) :
    (x.afterDay r records).state = x.state := TallySlot.foldl_add_state records x

/-- The pending counts are 0 where a day has had records (R100, R128). -/
def State.accounted (records : List DayRec) (s : State) : State :=
  { s with recorder := { s.recorder with
      notStored := if records = [] then s.recorder.notStored else 0
      steps := if records = [] then s.recorder.steps else 0
      restarts := if records = [] then s.recorder.restarts else 0
      overwritten := if records = [] then s.recorder.overwritten else 0 } }

theorem State.accounted_of_records {records : List DayRec} (hsome : records ≠ []) (s : State) :
    s.accounted records = { s with recorder := { s.recorder with
      notStored := 0, steps := 0, restarts := 0, overwritten := 0 } } := by
  simp only [State.accounted, if_neg hsome]

section Records

variable {s : State} {i : Nat} {x : TallySlot} {xs : List QueueItem} {f : FlagSet}

theorem State.foldl_closeRecord_entered (hi : i < s.recorder.tally.length) (records : List DayRec) :
    ∀ {xs : List QueueItem} {x : TallySlot}, s.roomFor (xs.length + records.length) →
    records.foldl (State.closeRecord i) (s.entered xs i x f) =
      s.entered (xs ++ records.map .day) i (records.foldl TallySlot.add x) f := by
  induction records with
  | nil =>
    intro xs x _
    rw [List.map_nil, List.foldl_nil, List.foldl_nil, List.append_nil]
  | cons r rest ih =>
    intro xs x hroom
    rw [List.length_cons] at hroom
    have hfirst : (s.entered xs i x f).closeRecord i r = s.entered (xs ++ [.day r]) i (x.add r) f := by
      rw [State.closeRecord, State.offer_entered _ (State.roomFor_le hroom (by omega)),
        State.modSlot_entered hi]
    rw [List.foldl_cons, hfirst, ih (State.roomFor_le hroom (by
      rw [List.length_append, List.length_singleton]; omega)), List.append_assoc]
    rfl

theorem State.bringToAccount_entered {records : List DayRec} (hsome : records ≠ [])
    (hi : i < s.recorder.tally.length) : (s.entered xs i x f).bringToAccount i =
      (s.entered xs i (x.account s.recorder) f).accounted records := by
  have hslot := State.modSlot_entered (xs := xs) (x := x) (f := f) hi
    (TallySlot.account s.recorder)
  rw [State.accounted_of_records hsome, ← hslot]
  rfl

theorem State.closeRecords_entered {records : List DayRec} (hsome : records ≠ [])
    (hi : i < s.recorder.tally.length) (hroom : s.roomFor (xs.length + records.length)) :
    (s.entered xs i x f).closeRecords i records =
      (s.entered (xs ++ records.map .day) i (x.afterDay s.recorder records) f).accounted records := by
  rw [State.closeRecords, State.foldl_closeRecord_entered hi records hroom,
    State.modSlot_entered hi, State.bringToAccount_entered hsome hi]
  rfl

/-! ### The slot of the day's year (R129) -/

/-- Selecting a year's slot names slot `i`, which then holds `x`, behind the record and the flag of a
report discarded so. -/
structure State.Selects (s : State) (year i : Nat) (x : TallySlot) (before : List QueueItem)
    (f : FlagSet) : Prop where
  slot : i < s.recorder.tally.length
  select : s.selectSlot year = (s.entered before i x f, i)

theorem State.selects_named {year : Nat} (hyear : slotOfYear s.recorder.tally year = some i)
    (hx : s.recorder.tally[i]? = some x) : s.Selects year i x [] 0 where
  slot := (List.getElem?_eq_some_iff.1 hx).1
  select := by
    unfold State.selectSlot
    rw [hyear, State.entered_nothing hx]

/-- Which of two slots a new year takes. -/
theorem slotToTake_pair (a b : TallySlot) :
    [a, b][slotToTake [a, b]]? = some (if slotToTake [a, b] = 0 then a else b) := by
  have hcase : slotToTake [a, b] = 0 ∨ slotToTake [a, b] = 1 := by
    rw [slotToTake]
    split
    · exact .inl rfl
    · split
      · exact .inr rfl
      · split
        · exact .inl rfl
        · exact .inr rfl
  rcases hcase with h | h
  · rw [h]; rfl
  · rw [h]; rfl

theorem State.reporting_of_none (h : ∀ y j, s.committed ≠ some (.commitReport y (some j)))
    (year : Option Nat) : s.reporting year = false := by
  unfold State.reporting
  split
  · exact absurd ‹_› (h _ _)
  · rfl

section Taken

variable {year : Nat} {old : TallySlot}

theorem State.selects_taken (hyear : slotOfYear s.recorder.tally year = none)
    (hi : slotToTake s.recorder.tally = i) (hlen : i < s.recorder.tally.length)
    (htake : s.takeSlot year i = s.entered xs i x f) : s.Selects year i x xs f where
  slot := hlen
  select := by
    unfold State.selectSlot
    rw [hyear]
    simp only
    rw [hi, htake]

/-- A slot with no report to lose becomes blank. -/
theorem State.takeSlot_free (hold : s.recorder.tally[i]? = some old)
    (hfree : old.state = .unused ∨ old.state = .reported) :
    s.takeSlot year i = s.entered [] i (.blank .opened (some year)) 0 := by
  rw [State.takeSlot, s.slot_of_getElem? hold, if_pos (hfree.imp_right .inl)]
  conv_lhs => rw [← State.entered_nothing hold]
  exact State.modSlot_entered (List.getElem?_eq_some_iff.1 hold).1 _

/-- A report not collected is lost with its record and its flag. -/
theorem State.takeSlot_lost (hrun : s.running = true) (hold : s.recorder.tally[i]? = some old)
    (hunused : old.state ≠ .unused) (hreported : old.state ≠ .reported)
    (hcommit : ∀ y j, s.committed ≠ some (.commitReport y (some j))) (hroom : s.roomFor 1) :
    s.takeSlot year i = s.entered
      [.event (.plain s.time.counter .yearReportUncollected (old.year.getD 0))] i
      { (TallySlot.blank .opened (some year)) with lostReports := 1 } flagYear := by
  have hlose : ¬ (old.state = .unused ∨ old.state = .reported ∨ s.reporting old.year = true) := by
    rw [State.reporting_of_none hcommit]
    simp [hunused, hreported]
  rw [State.takeSlot, s.slot_of_getElem? hold, if_neg hlose,
    State.note_room hroom (by decide) (by decide),
    State.raiseAll_flagged (s := s.queued _) hrun, ← State.entered_same hold]
  exact State.modSlot_entered (List.getElem?_eq_some_iff.1 hold).1 _

end Taken

/-- The slot that the oldest day's year takes where none is named so, and what it discards (R129). -/
theorem State.selects_fresh {year lost : Nat} {before : List QueueItem} {a b old : TallySlot}
    (hrun : s.running = true) (hyear : slotOfYear s.recorder.tally year = none)
    (hx : x = { TallySlot.blank .opened (some year) with lostReports := lost })
    (htally : s.recorder.tally = [a, b]) (hi : i = slotToTake [a, b])
    (hold : old = if i = 0 then a else b)
    (hcommit : ∀ y j, s.committed ≠ some (.commitReport y (some j)))
    (hfree : old.state = .unused ∨ old.state = .reported → lost = 0 ∧ before = [])
    (hlost : old.state ≠ .unused → old.state ≠ .reported → lost = 1 ∧ before = [.event
      (.plain s.time.counter .yearReportUncollected (old.year.getD 0))])
    (hroom : s.roomFor 1) :
    s.Selects year i x before (if before = [] then 0 else flagYear) := by
  have hslot : s.recorder.tally[i]? = some old := by
    rw [htally, hold, hi, slotToTake_pair]
  have hlen := (List.getElem?_eq_some_iff.1 hslot).1
  have htake : slotToTake s.recorder.tally = i := by rw [htally, hi]
  by_cases hstate : old.state = .unused ∨ old.state = .reported
  · obtain ⟨rfl, rfl⟩ := hfree hstate
    rw [hx]
    exact State.selects_taken hyear htake hlen (State.takeSlot_free hslot hstate)
  · obtain ⟨hunused, hreported⟩ := not_or.1 hstate
    obtain ⟨rfl, rfl⟩ := hlost hunused hreported
    rw [hx]
    exact State.selects_taken hyear htake hlen
      (State.takeSlot_lost hrun hslot hunused hreported hcommit hroom)

/-! ### Into the tally (R112, steps 1 to 5) -/

/-- A day whose close has entered the queue, the tally and the pending counts, with flags raised. -/
def State.dayEntered (records : List DayRec) (more : List QueueItem) (tally : List TallySlot)
    (f : FlagSet) (s : State) : State :=
  { s with
    recorder := { s.recorder with
      queue := s.recorder.queue ++ more
      tally := tally
      notStored := if records = [] then s.recorder.notStored else 0
      steps := if records = [] then s.recorder.steps else 0
      restarts := if records = [] then s.recorder.restarts else 0
      overwritten := if records = [] then s.recorder.overwritten else 0 }
    attention := s.attention.raiseAll f }

/-- A slot that a close turns FINAL on 31 December, where it is OPEN (R130). -/
def TallySlot.turned (day : Nat) (x : TallySlot) : TallySlot :=
  if isLastOfYear day = true ∧ x.state = .opened then x.finished else x

/-- The flag of a slot that has turned FINAL (R130). -/
def TallySlot.turnFlag (day : Nat) (x : TallySlot) : FlagSet :=
  if isLastOfYear day = true ∧ x.state = .opened then flagYear else 0

/-- Step 5 of a close with records: the slot turns FINAL on 31 December, and its checkpoint follows. -/
theorem State.turned_entered (day : Nat) (hrun : s.running = true) (hi : i < s.recorder.tally.length)
    (hroom : s.roomFor (xs.length + 1)) :
    (if isLastOfYear day = true ∧ ((s.entered xs i x f).slot i).state = .opened then
      ((s.entered xs i x f).finalSlot i).checkpoint i else (s.entered xs i x f).checkpoint i) =
    s.entered (xs ++ [.checkpoint i (x.turned day)]) i (x.turned day) (f ||| x.turnFlag day) := by
  rw [State.slot_entered hi, TallySlot.turned, TallySlot.turnFlag]
  by_cases h : isLastOfYear day = true ∧ x.state = .opened
  · rw [if_pos h, if_pos h, if_pos h, State.finalSlot_entered hrun hi,
      State.checkpoint_entered hi hroom]
  · rw [if_neg h, if_neg h, if_neg h, State.checkpoint_entered hi hroom]
    exact congrArg (s.entered _ i x) (BitVec.or_zero (x := f)).symm

/-- A day with records. -/
theorem State.closeIntoTally_entered {day : Nat} {records : List DayRec} (hrun : s.running = true)
    (hsome : records ≠ []) (hsel : s.Selects (yearOfDay day) i x xs f)
    (hroom : s.roomFor ((xs ++ records.map QueueItem.day).length + 1)) :
    s.closeIntoTally day records = s.dayEntered records
      (xs ++ records.map QueueItem.day ++ [.checkpoint i ((x.afterDay s.recorder records).turned day)])
      (s.recorder.tally.set i ((x.afterDay s.recorder records).turned day))
      (f ||| x.turnFlag day) := by
  have hrecords : s.roomFor (xs.length + records.length) := State.roomFor_le hroom (by
    rw [List.length_append, List.length_map]; omega)
  have hflag : (x.afterDay s.recorder records).turnFlag day = x.turnFlag day := by
    rw [TallySlot.turnFlag, TallySlot.afterDay_state, TallySlot.turnFlag]
  rw [State.closeIntoTally, if_neg hsome, hsel.select]
  simp only
  rw [State.closeRecords_entered hsome hsel.slot hrecords, ← hflag]
  exact State.turned_entered (s := s.accounted records) day hrun hsel.slot hroom

/-- A day with no entries that turns its year's slot FINAL. -/
theorem State.closeIntoTally_turning {day : Nat} (hrun : s.running = true)
    (hyear : slotOfYear s.recorder.tally (yearOfDay day) = some i)
    (hx : s.recorder.tally[i]? = some x) (hturns : isLastOfYear day = true ∧ x.state = .opened)
    (hroom : s.roomFor 1) : s.closeIntoTally day [] =
      s.dayEntered [] [.checkpoint i x.finished] (s.recorder.tally.set i x.finished) flagYear := by
  have hi := (List.getElem?_eq_some_iff.1 hx).1
  unfold State.closeIntoTally
  rw [if_pos rfl, hyear]
  simp only
  rw [s.slot_of_getElem? hx, if_pos hturns]
  conv_lhs => rw [← State.entered_nothing hx]
  rw [State.finalSlot_entered hrun hi, State.checkpoint_entered (xs := []) hi hroom]
  rfl

/-- A day with no entries that leaves the tally. -/
theorem State.closeIntoTally_nothing {day : Nat}
    (hkept : ∀ j, slotOfYear s.recorder.tally (yearOfDay day) = some j →
      ¬ (isLastOfYear day = true ∧ (s.slot j).state = .opened)) :
    s.closeIntoTally day [] = s.dayEntered [] [] s.recorder.tally 0 := by
  have hnothing : s.dayEntered [] [] s.recorder.tally 0 = s := s.queued_nil_flagged_zero
  rw [hnothing]
  unfold State.closeIntoTally
  rw [if_pos rfl]
  split
  · exact if_neg (hkept _ ‹_›)
  · rfl

end Records

/-! ### The close of the oldest day (R112, R142) -/

section Close

variable {s : State}

/-- The date is the day, and a protection claim stands or is granted with its write not begun. -/
theorem State.closeThrough_eq {claimed : Bool} (day : Nat)
    (h : claimed = true ↔ .protection ∈ s.arbiter.recClaims ∨
      ∃ g, s.arbiter.grant = some g ∧ g.claim = .protection ∧ g.begun = false) :
    s.closeThrough day = { s with
      store := { s.store with closedThrough := some day }
      arbiter := { s.arbiter with recClaims := if claimed then s.arbiter.recClaims
        else s.arbiter.recClaims ++ [.protection] } } := by
  have hbool : (s.arbiter.recClaims.contains .protection || s.protectionGranted) = claimed := by
    rw [Bool.eq_iff_iff, h, Bool.or_eq_true, List.contains_iff_mem, State.protectionGranted,
      Option.any_eq_true]
    simp only [Bool.and_eq_true, decide_eq_true_eq, Bool.not_eq_true']
  show (if (s.arbiter.recClaims.contains .protection || s.protectionGranted) = true then _
    else _) = _
  rw [hbool]
  cases claimed with
  | false => rfl
  | true => rfl

theorem State.countWithdrawn_eq (c : CloseCause) : s.countWithdrawn c =
    { s with recorder := { s.recorder with
      withdrawal := if c = .withdrawal then
          s.recorder.withdrawal.map fun z => { z with closed := z.closed + 1 }
        else s.recorder.withdrawal } } := by
  cases c with
  | scheduled => rfl
  | commanded => rfl
  | withdrawal => rfl

theorem State.governs_eq (o : Occasion) :
    s.governs o = if o.cause = .withdrawal then s.config.active else o.gov := by
  unfold State.governs
  cases o.cause with
  | scheduled => rfl
  | commanded => rfl
  | withdrawal => rfl

/-- The oldest day leaves the table. -/
theorem filter_oldest {p : ProvDay} {later : List ProvDay} (hlater : ∀ d ∈ later, p.day < d.day) :
    (p :: later).filter (fun q => decide (q.day ≠ p.day)) = later := by
  rw [List.filter_cons_of_neg (by simp), List.filter_eq_self]
  exact fun d hd => decide_eq_true (Nat.ne_of_gt (hlater d hd))

/-- The flag of a day whose average exceeded its limit (R180). -/
def exceedanceFlag (records : List DayRec) : FlagSet :=
  if records.any DayRec.exceeded then flagExceedance else 0

/-- The occasion with one more day closed. -/
def Occasion.counted (o : Occasion) : Occasion := { o with closed := o.closed + 1 }

/-- The state after the close of the day at the front of the table, with what waits after it. -/
def State.dayGone (o : Occasion) (day : Nat) (later : List ProvDay) (claimed : Bool)
    (work : List RecorderWork) (s : State) : State :=
  { s with
    recorder := { s.recorder with
      table := later
      work := work
      withdrawal := if o.cause = .withdrawal then
          s.recorder.withdrawal.map fun z => { z with closed := z.closed + 1 }
        else s.recorder.withdrawal }
    store := { s.store with closedThrough := some day }
    arbiter := { s.arbiter with recClaims := if claimed then s.arbiter.recClaims
      else s.arbiter.recClaims ++ [.protection] } }

theorem State.closeNextDay_eq {o : Occasion} {p : ProvDay} {later : List ProvDay}
    {records : List DayRec} {more : List QueueItem} {tally : List TallySlot} {f : FlagSet}
    {claimed : Bool} (hrun : s.running = true) (htable : s.recorder.table = p :: later)
    (hlater : ∀ d ∈ later, p.day < d.day)
    (hclaimed : claimed = true ↔ .protection ∈ s.arbiter.recClaims ∨
      ∃ g, s.arbiter.grant = some g ∧ g.claim = .protection ∧ g.begun = false)
    (hrecords : p.records (s.governs o) o.cause = records)
    (hinto : s.closeIntoTally p.day records = s.dayEntered records more tally f)
    (rest : List RecorderWork) :
    s.closeNextDay o p rest =
      (s.dayEntered records more tally (f ||| (flagDayClosed ||| exceedanceFlag records))).dayGone
        o p.day later claimed (.occasion o.counted :: rest) := by
  let d : State := (s.dayEntered records more tally f).closeThrough p.day
  have hthrough : d = _ := State.closeThrough_eq (s := s.dayEntered records more tally f) p.day hclaimed
  have hrund : (d.forgetDay p.day).running = true := by rw [hthrough]; exact hrun
  have hday : s.closeDay (s.governs o) o.cause p =
      (d.forgetDay p.day).flagged (flagDayClosed ||| exceedanceFlag records) := by
    rw [State.closeDay, hrecords, hinto, ← State.flagged_flagged, ← State.raiseAll_flagged hrund]
    exact State.raiseAll_ite (s := (d.forgetDay p.day).raiseAll flagDayClosed)
      (by rw [State.raiseAll_flagged hrund]; exact hrund) _ flagExceedance
  rw [State.closeNextDay, hday, State.countWithdrawn_eq, hthrough]
  simp only [State.forgetDay, State.flagged, State.dayEntered, State.dayGone, Occasion.counted, htable,
    filter_oldest hlater, AttentionUnit.raiseAll_raiseAll]

/-! ### Which day is due (R101, R107, R113) -/

theorem Occasion.due_oldest {o : Occasion} {p : ProvDay} (h : o.range.holds p.day = true)
    (later : List ProvDay) : o.due (p :: later) = some p := List.find?_cons_of_pos h

theorem State.closeWaits_of_noSets {day : Nat} {c : CloseCause} (hnone : s.annotation = none)
    (hsets : c ≠ .scheduled → ∀ a ∈ s.recorder.accSets, dayOf a.start ≠ day) :
    s.closeWaits c day = false := by
  have hopen (h : c ≠ .scheduled) : s.openOn day = false := by
    rw [State.openOn, List.any_eq_false]
    exact fun a ha => by simpa using hsets h a ha
  unfold State.closeWaits State.rewritingOn
  rw [hnone]
  cases c with
  | scheduled => rfl
  | commanded => exact hopen (by decide)
  | withdrawal => exact hopen (by decide)

theorem exec_dayClose_of_due {o : Occasion} {p : ProvDay} {rest : List RecorderWork}
    (hrun : s.running = true) (hdue : s.dueClose = some (o, p, rest)) :
    exec .dayClose s = .next (s.closeNextDay o p rest).runWork.resumeQueued.settle := by
  show execDayClose s = _
  unfold execDayClose
  rw [hrun, hdue]

theorem State.joinFor_of_none {o : Occasion} (h : o.joins = none) : s.joinFor o = s := by
  rw [State.joinFor, h]

theorem State.joinFor_of_some {o : Occasion} {day : Nat} (h : o.joins = some day) :
    s.joinFor o = s.joinDay day := by
  rw [State.joinFor, h]

section Next

variable {o o' : Occasion} {p : ProvDay} {u : State}

/-- A close with days of the occasion behind it. -/
theorem exec_dayClose_counting {d : ProvDay} (hrun : s.running = true) (hnone : s.annotation = none)
    (hdue : s.dueClose = some (o, p, [])) (hnext : s.closeNextDay o p [] = u)
    (hwork : u.recorder.work = [.occasion o']) (hmore : o'.due u.recorder.table = some d) :
    exec .dayClose s = .next u.settle := by
  have hnoneu : u.annotation = none := by
    exact hnext ▸ (s.closeNextDay_recorded o p []).annotation hnone
  rw [exec_dayClose_of_due hrun hdue, hnext,
    State.runWork_of_due hwork (fun w hw => absurd hw List.not_mem_nil) hmore,
    State.resumeQueued_of_none hnoneu]

/-- The last close of an occasion. -/
theorem exec_dayClose_ending (hrun : s.running = true) (hnone : s.annotation = none)
    (hdue : s.dueClose = some (o, p, [])) (hnext : s.closeNextDay o p [] = u)
    (hwork : u.recorder.work = [.occasion o']) (hlast : o'.due u.recorder.table = none) :
    exec .dayClose s = .next ((u.putWork []).endOccasion o').settle := by
  have hnoneu : ((u.putWork []).endOccasion o').annotation = none := by
    refine ((u.putWork []).endOccasion_recorded o').annotation ?_
    exact hnext ▸ (s.closeNextDay_recorded o p []).annotation hnone
  rw [exec_dayClose_of_due hrun hdue, hnext, State.runWork_of_ended hwork hlast,
    State.runWork_of_nil (State.endOccasion_work o' _), State.resumeQueued_of_none hnoneu]

end Next

/-! ### The flags of a close -/

/-- The year flag stands exactly where something raises it. -/
def IsYearFlag (raised : Prop) (f : FlagSet) : Prop := (raised → f = flagYear) ∧ (¬ raised → f = 0)

theorem exceedanceFlag_eq (records : List DayRec) : exceedanceFlag records =
    if ∃ r ∈ records, r.exceeded = true then 0x0004 else 0 := by
  rw [exceedanceFlag]
  exact if_congr List.any_eq_true rfl rfl

theorem FlagSet.split (flags m : FlagSet) :
    flags = ((flags ||| m) &&& ~~~m) ||| (flags &&& m) := by
  ext i hi
  simp only [BitVec.getElem_or, BitVec.getElem_and, BitVec.getElem_not]
  cases flags[i] <;> cases m[i] <;> rfl

/-- The flags of a close are fixed by the year flag and by the rest. -/
theorem flags_eq_of_year {raised : Prop} {f flags : FlagSet} (hf : IsYearFlag raised f)
    (hraised : raised → flags &&& 0x2000 = 0x2000) (hnot : ¬ raised → flags &&& 0x2000 = 0)
    (records : List DayRec) (hrest : flags ||| 0x2000 = 0x2008 |||
      (if ∃ r ∈ records, r.exceeded = true then 0x0004 else 0)) :
    flags = f ||| (flagDayClosed ||| exceedanceFlag records) := by
  have hyear : flags &&& 0x2000 = f := by
    by_cases h : raised
    · rw [hraised h, hf.1 h]; rfl
    · rw [hnot h, hf.2 h]
  have hday : (flags ||| 0x2000) &&& ~~~0x2000 = flagDayClosed ||| exceedanceFlag records := by
    rw [hrest, exceedanceFlag_eq]
    split
    · decide
    · decide
  rw [FlagSet.split flags 0x2000, hyear, hday, BitVec.or_comm]

end Close

/-! ### The close of the oldest day of an occasion -/

section Settle

variable {s : State} {i year lost day : Nat} {x v w : TallySlot} {before more : List QueueItem}
  {records : List DayRec} {tally : List TallySlot} {turns : Prop} {f : FlagSet}

/-- A slot after a day with records is named by its state (R112, R128, R130). -/
theorem TallySlot.eq_turned {r : Recorder}
    (hturns : turns ↔ isLastOfYear day = true ∧ x.state = .opened)
    (hv : v = (records.foldl TallySlot.add x).addAbn records)
    (hfinal : turns → w.state = .final) (hkept : ¬ turns → w.state = x.state)
    (hw : w = { v with
      state := w.state, notStored := v.notStored + r.notStored, steps := v.steps + r.steps
      restarts := v.restarts + r.restarts, overwritten := v.overwritten + r.overwritten }) :
    w = (x.afterDay r records).turned day := by
  have hafter : w = { x.afterDay r records with state := w.state } := by
    rw [TallySlot.afterDay, ← hv]
    exact hw
  rw [TallySlot.turned, TallySlot.afterDay_state]
  by_cases h : turns
  · rw [if_pos (hturns.1 h), hafter, hfinal h]
    rfl
  · rw [if_neg (mt hturns.2 h), hafter, hkept h, ← TallySlot.afterDay_state r records x]

theorem isYearFlag_turnFlag (hturns : turns ↔ isLastOfYear day = true ∧ x.state = .opened)
    (before : List QueueItem) : IsYearFlag (turns ∨ before ≠ [])
      ((if before = [] then 0 else flagYear) ||| x.turnFlag day) := by
  refine ⟨fun h => ?_, fun h => ?_⟩
  · by_cases ht : turns
    · rw [TallySlot.turnFlag, if_pos (hturns.1 ht)]
      split
      · decide
      · decide
    · rw [TallySlot.turnFlag, if_neg (mt hturns.2 ht), if_neg (h.resolve_left ht)]
      decide
  · obtain ⟨ht, hb⟩ := not_or.1 h
    rw [TallySlot.turnFlag, if_neg (mt hturns.2 ht), if_pos (not_not.1 hb)]
    decide

/-- A day with no entries enters nothing but a slot that turns FINAL (R112). -/
theorem State.closeIntoTally_noEntries (hrun : s.running = true)
    (hturns : turns ↔ isLastOfYear day = true ∧ x.state = .opened)
    (hslot : slotOfYear s.recorder.tally (yearOfDay day) = some i ∧ s.recorder.tally[i]? = some x ∨
      slotOfYear s.recorder.tally (yearOfDay day) = none ∧ x.state = .unused)
    (hturned : turns → w = x.finished ∧ more = [.checkpoint i w] ∧ tally = s.recorder.tally.set i w)
    (hkept : ¬ turns → more = [] ∧ tally = s.recorder.tally) (hroom : s.roomFor more.length) :
    s.closeIntoTally day [] = s.dayEntered [] more tally (x.turnFlag day) := by
  rw [TallySlot.turnFlag]
  by_cases h : turns
  · obtain ⟨rfl, rfl, rfl⟩ := hturned h
    have hopen := hturns.1 h
    rw [if_pos hopen]
    rcases hslot with ⟨hyear, hx⟩ | ⟨-, hunused⟩
    · exact State.closeIntoTally_turning hrun hyear hx hopen hroom
    · rw [hunused] at hopen
      exact absurd hopen.2 (by decide)
  · obtain ⟨rfl, rfl⟩ := hkept h
    rw [if_neg (mt hturns.2 h)]
    refine State.closeIntoTally_nothing fun j hj => ?_
    rcases hslot with ⟨hyear, hx⟩ | ⟨hyear, -⟩
    · obtain rfl : i = j := Option.some.inj (hyear.symm.trans hj)
      rw [s.slot_of_getElem? hx]
      exact mt hturns.2 h
    · exact absurd (hyear.symm.trans hj) (by simp)

end Settle

/-- Settles O46: the close takes the day into its year's slot, then its date, claim and flags, and the
occasion counts on or ends. -/
theorem daysCloseOldestFirst : Obligations.DaysCloseOldestFirst := by
  unfold Obligations.DaysCloseOldestFirst
  intro s t o p later records year i lost x v w before more turns tally work flags gov claimed hrun
    hnone hwork htable hholds hlater hsets hgov hclaimed hrecords hyear hturns hslot hv hsome hturned
    hkept hraised hnot hrest hroom ht
  subst hyear
  have hinto : ∃ f, IsYearFlag (turns ∨ before ≠ []) f ∧
      s.closeIntoTally p.day records = s.dayEntered records more tally f := by
    have hyearFlag := isYearFlag_turnFlag hturns before
    by_cases hr : records = []
    · have hnamed : before = [] ∧ (slotOfYear s.recorder.tally (yearOfDay p.day) = some i ∧
          s.recorder.tally[i]? = some x ∨
          slotOfYear s.recorder.tally (yearOfDay p.day) = none ∧ x.state = .unused) := by
        rcases hslot with ⟨hyear, hx, hb⟩ | ⟨-, hyear, hunused, hb⟩ | ⟨hne, -⟩
        · exact ⟨hb, .inl ⟨hyear, hx⟩⟩
        · exact ⟨hb, .inr ⟨hyear, hunused⟩⟩
        · exact absurd hr hne
      obtain ⟨hb, hnamed⟩ := hnamed
      rw [if_pos hb] at hyearFlag
      refine ⟨_, hyearFlag, ?_⟩
      rw [hr, State.closeIntoTally_noEntries hrun hturns hnamed (hturned hr) (hkept hr) hroom]
      exact congrArg (s.dayEntered [] more tally) (BitVec.zero_or (x := x.turnFlag p.day)).symm
    · obtain ⟨hfinal, hstate, hw, rfl, rfl⟩ := hsome hr
      have hsel : s.Selects (yearOfDay p.day) i x before (if before = [] then 0 else flagYear) := by
        rcases hslot with ⟨hyear, hx, rfl⟩ | ⟨hempty, -⟩ |
          ⟨-, hyear, hx, a, b, old, htally, hi, hold, hcommit, hfree, hlost⟩
        · exact State.selects_named hyear hx
        · exact absurd hempty hr
        · exact State.selects_fresh hrun hyear hx htally hi hold hcommit hfree hlost
            (State.roomFor_le hroom (by rw [List.length_append, List.length_singleton]; omega))
      rw [TallySlot.eq_turned hturns hv hfinal hstate hw]
      rw [List.length_append, List.length_singleton] at hroom
      exact ⟨_, hyearFlag, State.closeIntoTally_entered hrun hr hsel hroom⟩
  obtain ⟨f, hf, hinto⟩ := hinto
  have hflags : flags = f ||| (flagDayClosed ||| exceedanceFlag records) :=
    flags_eq_of_year hf (fun h => hraised h) (fun h => hnot (fun ht => h (.inl ht))
      (by_contra fun hb => h (.inr hb))) records hrest
  have hday : p.records (s.governs o) o.cause = records := by
    rw [hrecords, State.governs_eq, ← hgov]
    rfl
  have hnext := State.closeNextDay_eq hrun htable hlater hclaimed hday hinto []
  rw [← hflags] at hnext
  have hdue : s.dueClose = some (o, p, []) := by
    unfold State.dueClose
    rw [hwork, htable]
    simp only
    rw [Occasion.due_oldest hholds later]
    simp only
    rw [State.closeWaits_of_noSets hnone hsets]
    rfl
  refine ⟨fun ⟨d, hd, hin⟩ hcount => ?_, fun hlast hend => ?_⟩
  · subst hcount
    obtain ⟨d', hd'⟩ : ∃ d', o.counted.due later = some d' :=
      Option.isSome_iff_exists.1 (List.find?_isSome.2 ⟨d, hd, hin⟩)
    rw [exec_dayClose_counting hrun hnone hdue hnext rfl hd', ht]
    rfl
  · subst hend
    have hnone' : o.counted.due later = none :=
      List.find?_eq_none.2 fun d hd => Bool.eq_false_iff.1 (hlast d hd)
    have hended := exec_dayClose_ending hrun hnone hdue hnext rfl hnone'
    refine ⟨fun hcause hjoins => ?_, fun day hcause hjoins => ?_, fun hcause hjoins => ?_⟩
    · rw [hended, State.endOccasion_scheduled (o := o.counted) hcause,
        State.joinFor_of_none (o := o.counted) hjoins, ht]
      rfl
    · rw [hended, State.endOccasion_scheduled (o := o.counted) hcause,
        State.joinFor_of_some (o := o.counted) hjoins, ht]
      rfl
    · rw [hended, State.endOccasion_commanded (o := o.counted) hcause,
        State.joinFor_of_none (o := o.counted) hjoins, ht]
      rfl

end Sys2Proof.Machine
end

section
/-! The canonical form of the rings' positions (R132, R134, R143), and O6. -/

namespace Sys2Proof.Machine

/-- What `State.RingsOrdered` says of the view of a state. -/
def View.RingsOrdered (v : View) : Prop :=
  cellsWf v.interval = true ∧ cellsWf v.day = true ∧ cellsWf v.event = true ∧
    cellsWf v.images = true

theorem State.ringsOrdered_view (s : State) : s.view.RingsOrdered ↔ s.RingsOrdered := Iff.rfl

/-- Within a power phase a ring changes by one position stored or emptied, or by all of them emptied. -/
theorem InnerMove.ringsOrdered {v w : View} (h : InnerMove v w) (hv : v.RingsOrdered) :
    w.RingsOrdered := by
  obtain ⟨hinterval, hday, hevent, himages⟩ := hv
  cases h with
  | putInterval p x => exact ⟨putCell_wf p x _ hinterval, hday, hevent, himages⟩
  | putDay p x => exact ⟨hinterval, putCell_wf p x _ hday, hevent, himages⟩
  | putEvent p x => exact ⟨hinterval, hday, putCell_wf p x _ hevent, himages⟩
  | putImage p x => exact ⟨hinterval, hday, hevent, putCell_wf p x _ himages⟩
  | dropInterval p => exact ⟨dropCell_wf p _ hinterval, hday, hevent, himages⟩
  | dropDay p => exact ⟨hinterval, dropCell_wf p _ hday, hevent, himages⟩
  | dropEvent p => exact ⟨hinterval, hday, dropCell_wf p _ hevent, himages⟩
  | emptyRings => exact ⟨rfl, rfl, rfl, rfl⟩
  | _ => exact ⟨hinterval, hday, hevent, himages⟩

/-- Between power phases the rings stand: a snapshot holds none of them (R158). -/
theorem Move.ringsOrdered {v w : View} (h : Move v w) (hv : v.RingsOrdered) : w.RingsOrdered := by
  cases h with
  | quiet h =>
    cases h with
    | inner h => exact h.ringsOrdered hv
    | _ => exact hv
  | _ => exact hv

/-- Settles O6: every move that a command can make of a state's view keeps the canonical form. -/
theorem ringsKeepTheirCanonicalForm : Obligations.RingsKeepTheirCanonicalForm := by
  intro s t hs h
  obtain ⟨rest, hmoves⟩ := step_outer h
  exact t.ringsOrdered_view.1 (hmoves.keeps (fun _ _ => Move.ringsOrdered) hs)

end Sys2Proof.Machine
end

section
/-! The records as they are delivered (R143, R181, R182, R184), and O13. -/

namespace Sys2Proof.Machine

/-! ### Fields read back -/

theorem u16_bytes2 (n : Nat) : u16 (bytes2 n) 0 = n % 65536 := join_bytes n

theorem u32_bytes4 (n : Nat) : u32 (bytes4 n) 0 = n % 4294967296 :=
  calc u32 (bytes4 n) 0 = u16 (bytes2 (n / 65536)) 0 * 65536 + u16 (bytes2 n) 0 := rfl
    _ = n % 4294967296 := by rw [u16_bytes2, u16_bytes2, join_halves]

/-- An eight-byte field is read as its two halves. -/
theorem u32_bytes8 (n : Nat) :
    u32 (bytes8 n) 0 * 4294967296 + u32 (bytes8 n) 4 = n % 18446744073709551616 := by
  have hhigh : u32 (bytes8 n) 0 = n / 4294967296 % 4294967296 := u32_bytes4 _
  have hlow : u32 (bytes8 n) 4 = n % 4294967296 := u32_bytes4 n
  omega

theorem bytesOpt4_eq (v : Option Nat) : bytesOpt4 v = bytes4 (v.getD 0xFFFFFFFF) := by
  cases v <;> rfl

/-- Fields listed by their offsets read as values listed beside them, one by one. -/
theorem fields_eq {α : Type} {read : Nat → Nat} {value : α → Nat} {offsets : List Nat}
    {values : List α} (h : List.Forall₂ (fun i v => read i = value v) offsets values) :
    offsets.map read = values.map value := by
  induction h with
  | nil => rfl
  | cons hfield _ ih => rw [List.map_cons, List.map_cons, hfield, ih]

/-- A flags byte holds its bits one by one, and past them none. -/
theorem testBit_flagsByte (bits : List Bool) (i : Nat) :
    (flagsByte bits).testBit i = bits.getD i false := by
  induction bits generalizing i with
  | nil => simp [flagsByte]
  | cons b rest ih =>
    cases i with
    | zero => cases b <;> simp [flagsByte, Nat.testBit_zero]
    | succ i =>
      have hhalf : ((if b = true then 1 else 0) + 2 * flagsByte rest) / 2 = flagsByte rest := by
        split <;> omega
      rw [flagsByte, Nat.testBit_succ, hhalf, ih, List.getD_cons_succ]

/-- A flags byte read back bit by bit: the bits past those given are clear. -/
theorem flagBits_flagsByte (bits : List Bool) :
    (List.range 8).map (BitVec.ofNat 8 (flagsByte bits)).getLsbD =
      (List.range 8).map fun i => bits.getD i false := by
  refine List.map_congr_left fun i hi => ?_
  rw [BitVec.getLsbD_ofNat, testBit_flagsByte, decide_eq_true (List.mem_range.1 hi), Bool.true_and]

/-- A count's bit is set where it is not zero (R96). -/
theorem IntervalRec.flags_eq (r : IntervalRec) : r.flags =
    flagsByte [r.finalValid == .valid, r.exceeded, r.truncated, r.interrupted,
      decide (r.secsSat ≠ 0), decide (r.secsOutcal ≠ 0), r.annotated, r.load.isSome] := by
  simp only [IntervalRec.flags, Nat.one_le_iff_ne_zero]

/-! ### Codes fit their byte -/

theorem kindCode_mod (k : Kind) : kindCode k % 256 = kindCode k := by cases k <;> rfl

theorem intervalClassCode_mod (c : IntervalClass) :
    intervalClassCode c % 256 = intervalClassCode c := by cases c <;> rfl

theorem validityCode_mod (v : Validity) : validityCode v % 256 = validityCode v := by
  cases v <;> rfl

theorem dayClassCode_mod (c : DayClass) : dayClassCode c % 256 = dayClassCode c := by
  cases c <;> rfl

theorem closeCauseCode_mod (c : CloseCause) : closeCauseCode c % 256 = closeCauseCode c := by
  cases c <;> rfl

theorem annKindCode_mod (k : AnnKind) : annKindCode k % 256 = annKindCode k := by cases k <;> rfl

theorem eventKindCode_mod (k : EventKind) : eventKindCode k % 256 = eventKindCode k := by
  cases k <;> rfl

/-! ### Layouts, first field first -/

theorem encodeInterval_eq (q : Nat) (r : IntervalRec) : encodeInterval q r =
    byte1 0x01 ++ (bytes4 q ++ (bytes4 r.start ++ (byte1 r.channel ++ (byte1 r.stack
    ++ (byte1 (kindCode r.kind) ++ (byte1 (intervalClassCode r.origClass)
    ++ (byte1 (validityCode r.origValid) ++ (byte1 (intervalClassCode r.finalClass)
    ++ (byte1 (validityCode r.finalValid) ++ (byte1 r.flags
    ++ (byte1 ((r.annKind.map annKindCode).getD 0) ++ (byte1 r.remark ++ (byte1 r.revision
    ++ (bytes2 r.secsRec ++ (bytes2 r.secsOp ++ (bytes2 r.secsAbn ++ (bytes2 r.validReg
    ++ (bytes2 r.secsMaint ++ (bytes2 r.secsOutcal ++ (bytes2 r.secsSat ++ (bytes2 r.validAll
    ++ (bytes4 (r.average.getD 0xFFFFFFFF) ++ (bytes4 (r.allAverage.getD 0xFFFFFFFF)
    ++ (bytes4 (r.validated.getD 0xFFFFFFFF)
    ++ bytes8 (r.load.getD 0))))))))))))))))))))))))) := by
  unfold encodeInterval
  simp only [List.append_assoc, bytesOpt4_eq]

theorem encodeDay_eq (q : Nat) (r : DayRec) : encodeDay q r =
    byte1 0x02 ++ (bytes4 q ++ (bytes4 r.day ++ (byte1 r.channel ++ (byte1 r.stack
    ++ (byte1 (kindCode r.kind) ++ (byte1 (closeCauseCode r.cause)
    ++ (byte1 (dayClassCode r.dayClass) ++ (byte1 (validityCode r.validity)
    ++ (byte1 (flagsByte [r.validity == .valid, r.exceeded])
    ++ (byte1 r.dayInvalidMax ++ (byte1 r.recorded ++ (byte1 r.nValid ++ (byte1 r.nInvalid
    ++ (byte1 r.nAbnormal ++ (byte1 r.nNotOp ++ (byte1 r.nUnrecorded ++ (byte1 r.exceedances
    ++ (byte1 r.annulled ++ (byte1 r.annotated ++ (byte1 r.loadGaps
    ++ (bytes4 (r.average.getD 0xFFFFFFFF)
    ++ (bytes4 ((r.maximum.map Prod.fst).getD 0xFFFFFFFF)
    ++ (bytes4 ((r.maximum.map Prod.snd).getD 0xFFFFFFFF)
    ++ (bytes4 r.secsAbn ++ (bytes4 r.secsOutcal ++ (bytes4 r.secsSat
    ++ bytes8 r.loadSum)))))))))))))))))))))))))) := by
  unfold encodeDay
  simp only [List.append_assoc, bytesOpt4_eq]

theorem encodeEvent_eq (q : Nat) (r : EventRec) : encodeEvent q r =
    byte1 0x03 ++ (bytes4 q ++ (bytes4 r.time ++ (byte1 (eventKindCode r.kind)
    ++ (byte1 (r.stack.getD 0xFF) ++ (byte1 (r.channel.getD 0xFF)
    ++ bytes4 r.argument.toNat))))) := by
  unfold encodeEvent
  simp only [List.append_assoc, byteOpt_eq]

/-! ### What a read of a number returns (R143) -/

section Reads

variable {α β : Type} {ring : Ring α} {name : RingName} {q n : Nat}

/-- A position that holds a record returns it, or only its number where that is another. -/
theorem Ring.read_map_of_cell {r : α} (h : getCell ring.cells (name.position q) = some (n, r))
    (f : α → β) :
    (ring.read name q).map f = if n = q then .record (f r) else .other n := by
  rw [Ring.read, h]
  exact apply_ite (ReadResult.map f) _ _ _

theorem Ring.read_map_of_empty (h : getCell ring.cells (name.position q) = none) (f : α → β) :
    (ring.read name q).map f = .empty := by
  rw [Ring.read, h]
  rfl

end Reads

/-- Settles O13: each record's fields from its layout, first field first, and each read from its position. -/
theorem recordsAreLaidOut : Obligations.RecordsAreLaidOut := by
  refine ⟨fun q r b hb => ?_, fun q r b hb => ?_, fun q r b hb => ?_, fun st q n => ?_,
    rfl, rfl, rfl, rfl, rfl, rfl, rfl⟩
  · rw [hb, encodeInterval_eq, r.flags_eq]
    refine ⟨rfl, rfl, u32_bytes4 _, u32_bytes4 _, rfl, rfl, kindCode_mod _,
      intervalClassCode_mod _, validityCode_mod _, intervalClassCode_mod _, validityCode_mod _,
      flagBits_flagsByte _, ?_, rfl, rfl, ?_, ?_, u32_bytes8 _⟩
    · show (r.annKind.map annKindCode).getD 0 % 256 = _
      cases r.annKind with
      | none => rfl
      | some k => exact annKindCode_mod k
    · exact fields_eq <| .cons (u16_bytes2 _) <| .cons (u16_bytes2 _) <|
        .cons (u16_bytes2 _) <| .cons (u16_bytes2 _) <| .cons (u16_bytes2 _) <|
        .cons (u16_bytes2 _) <| .cons (u16_bytes2 _) <| .cons (u16_bytes2 _) .nil
    · exact fields_eq (.cons (u32_bytes4 _) (.cons (u32_bytes4 _) (.cons (u32_bytes4 _) .nil)))
  · rw [hb, encodeDay_eq]
    refine ⟨rfl, rfl, u32_bytes4 _, u32_bytes4 _, rfl, rfl, kindCode_mod _,
      closeCauseCode_mod _, dayClassCode_mod _, validityCode_mod _,
      flagBits_flagsByte _, rfl, ?_, ?_, u32_bytes8 _⟩
    · exact fields_eq (.cons (u32_bytes4 _) (.cons (u32_bytes4 _) (.cons (u32_bytes4 _) .nil)))
    · exact fields_eq (.cons (u32_bytes4 _) (.cons (u32_bytes4 _) (.cons (u32_bytes4 _) .nil)))
  · rw [hb, encodeEvent_eq]
    exact ⟨rfl, rfl, u32_bytes4 _, u32_bytes4 _, eventKindCode_mod _, rfl, rfl,
      (u32_bytes4 _).trans (Nat.mod_eq_of_lt r.argument.isLt)⟩
  · refine ⟨fun r h => ?_, fun r h => ?_, fun r h => ?_, fun h => ?_, fun h => ?_,
      fun h => ?_⟩
    · exact Ring.read_map_of_cell (name := .interval) h _
    · exact Ring.read_map_of_cell (name := .day) h _
    · exact Ring.read_map_of_cell (name := .event) h _
    · exact Ring.read_map_of_empty (name := .interval) h _
    · exact Ring.read_map_of_empty (name := .day) h _
    · exact Ring.read_map_of_empty (name := .event) h _

end Sys2Proof.Machine
end

section
/-! Readouts opened and walked (R143, R173 to R176), and O25. -/

namespace Sys2Proof.Machine

/-! ### A readout's step (R175) -/

section Steps

variable {r : Readout} {ptr : Pointers}

theorem LinkPort.step_of_ends (p : LinkPort) (h : r.walked = r.count ∨ ptr.newest < r.next) :
    p.step r ptr = p.endWalk r .endOfStream := by
  rw [LinkPort.step, Readout.decide, if_pos h]

theorem LinkPort.step_of_overtaken (p : LinkPort) (hgo : r.walked ≠ r.count)
    (hnewest : r.next ≤ ptr.newest) (holdest : r.next < ptr.oldest) :
    p.step r ptr = p.endWalk r overtakenToken := by
  rw [LinkPort.step, Readout.decide, if_neg (not_or.2 ⟨hgo, Nat.not_lt.2 hnewest⟩),
    if_pos (.inl holdest)]

theorem LinkPort.step_of_claims (p : LinkPort) (hgo : r.walked ≠ r.count) (hnext : r.next ≠ 0)
    (hnewest : r.next ≤ ptr.newest) (holdest : ptr.oldest ≤ r.next) :
    p.step r ptr = { p with readout := some { r with waiting := true } } := by
  rw [LinkPort.step, Readout.decide, if_neg (not_or.2 ⟨hgo, Nat.not_lt.2 hnewest⟩),
    if_neg (by omega)]

/-- A walk that ends while its readout has no claim. -/
theorem LinkPort.endWalk_of_unclaimed (p : LinkPort) (h : r.waiting = false) (token : TxItem) :
    p.endWalk r token = { p with
      readout := some { r with forming := [], ended := true }
      tx := p.tx ++ formedBlock r.forming ++ [token] } := by
  rw [LinkPort.endWalk, ← h]

/-- A readout that ends as it opens sends no block. -/
theorem LinkPort.endWalk_opened (p : LinkPort) (ring : RingName) (args : List Byte)
    (token : TxItem) :
    p.endWalk (.opened ring args) token = { p with
      readout := some { Readout.opened ring args with ended := true }
      tx := p.tx ++ [token] } := by
  have hempty : (Readout.opened ring args).forming = [] := rfl
  rw [LinkPort.endWalk_of_unclaimed p rfl, formedBlock, if_pos hempty, List.append_nil]
  rfl

/-- A record that fills the block sends it (R176). -/
theorem LinkPort.walkedOn_of_full (p : LinkPort) (h : 8 ≤ r.forming.length) :
    p.walkedOn r ptr = { p with
      readout := some { r with forming := [] }
      tx := p.tx ++ [.streamBlock r.forming.flatten] } := by
  have hsome : r.forming ≠ [] := List.ne_nil_of_length_pos (by omega)
  rw [LinkPort.walkedOn, blockRecords, if_pos h, formedBlock, if_neg hsome]

theorem LinkPort.walkedOn_of_room (p : LinkPort) (h : r.forming.length < 8) :
    p.walkedOn r ptr = p.step r ptr := if_neg (Nat.not_le.2 h)

end Steps

/-! ### OPEN READOUT (R174) -/

section Opening

variable {s : State} {l : Link} {args : List Byte} {ring : RingName}

/-- The code of no ring, the number 0 and the count 0 are refused. -/
theorem State.openRuling_argument (h : 2 < u8 args 0 ∨ u32 args 1 = 0 ∨ u16 args 5 = 0) :
    s.openRuling l args = .argument := by
  unfold State.openRuling
  cases hring : ringOfCode (u8 args 0) with
  | none => rfl
  | some ring =>
    refine if_pos (h.resolve_left fun hcode => ?_)
    rw [ringOfCode_eq_none hcode] at hring
    contradiction

/-- An accepted OPEN READOUT is answered when its readout has taken its first step. -/
theorem exec_openReadout_accepted (hreach : s.reaches .openReadout l args = true)
    (hring : ringOfCode (u8 args 0) = some ring) (hnext : u32 args 1 ≠ 0) (hcount : u16 args 5 ≠ 0)
    {p : LinkPort}
    (hstep : (s.port l).step (.opened ring args) (s.store.pointers ring) = p) :
    exec (.openReadout l args) s = .next ((s.withPort l p).settle.answered l) := by
  have hrule : s.openRuling l args =
      s.accept l (s.openReadout l (.opened ring args)) none := by
    simp only [State.openRuling, hring, if_neg (not_or.2 ⟨hnext, hcount⟩)]
  have hopen : s.openReadout l (.opened ring args) = (s.withPort l p).settle := by
    rw [← hstep]
    rfl
  have hmarks : (s.withPort l p).links.marks = s.links.marks := s.modPort_marks l fun _ => p
  refine congrArg Host.Outcome.next ?_
  rw [State.serve_accepted (rule := fun t => t.openRuling l args) (by decide) hreach hrule, hopen,
    State.answered, State.settle_marks, hmarks]

end Opening

/-! ### READOUT_READ_GRANT (R175) -/

section Grants

variable {s : State} {l : Link} {g : Grant} {r : Readout}

theorem State.grantedRead_of_grants (h : s.grants g (.readout l)) :
    s.grantedRead = some (g, l) := by
  obtain ⟨hrun, hgrant, hclaim, hbegun⟩ := h
  simp [State.grantedRead, hrun, hgrant, hclaim, hbegun]

/-- A read whose claimant has given it up, or whose walk has ended, is discarded (R146). -/
theorem exec_readoutReadGrant_discarded (h : s.grants g (.readout l))
    (hr : (s.port l).readout = some r) (hgone : g.stale = true ∨ r.ended = true) :
    exec .readoutReadGrant s = .next (s.granted none).settle := by
  refine congrArg Host.Outcome.next ?_
  simp only [State.grantedRead_of_grants h, hr, if_pos hgone]
  rfl

variable (h : s.grants g (.readout l)) (hr : (s.port l).readout = some r)
  (hstale : g.stale = false) (hended : r.ended = false)
include h hr hstale hended

/-- Any other read is made for its readout. -/
theorem exec_readoutReadGrant_read :
    exec .readoutReadGrant s = .next ((s.granted none).readFor l r).settle := by
  have hmade : ¬ (g.stale = true ∨ r.ended = true) := by simp [hstale, hended]
  refine congrArg Host.Outcome.next ?_
  simp only [State.grantedRead_of_grants h, hr, if_neg hmade]
  rfl

/-- A position that is empty or holds another record ends the walk (R143). -/
theorem exec_readoutReadGrant_missing (hread : s.store.readRecord r.ring r.next = .empty ∨
      ∃ q, s.store.readRecord r.ring r.next = .other q) :
    exec .readoutReadGrant s =
      .next ((s.granted none).withPort l ((s.port l).endWalk r overtakenToken)).settle := by
  rw [exec_readoutReadGrant_read h hr hstale hended, State.readFor]
  rcases hread with hread | ⟨q, hread⟩
  · simp only [State.granted, hread]
    rfl
  · simp only [State.granted, hread]
    rfl

/-- A record numbered as the position asks is walked. -/
theorem exec_readoutReadGrant_walked {key : BitVec 24} {bytes : List Byte}
    (hread : s.store.readRecord r.ring r.next = .record (key, bytes)) {p : LinkPort}
    (hwalk : (s.port l).walkedOn (r.take key bytes) (s.store.pointers r.ring) = p) :
    exec .readoutReadGrant s = .next ((s.granted none).withPort l p).settle := by
  rw [exec_readoutReadGrant_read h hr hstale hended, State.readFor, ← hwalk]
  simp only [State.granted, hread]
  rfl

end Grants

/-- Settles O25: a readout's first step, and each read by what its position holds and where the walk then stands. -/
theorem readoutsWalkTheirRing : Obligations.ReadoutsWalkTheirRing := by
  refine ⟨fun s l args ring r p hreach => ⟨fun hbad => ?_, fun hring hnext hcount hr hp => ?_⟩,
    fun s t l g r r' p hgrant hr => ⟨fun hgone => exec_readoutReadGrant_discarded hgrant hr hgone,
      fun hstale hended => ⟨fun hmissing ht => ?_, fun key bytes hread hp hr' => ?_⟩⟩⟩
  · exact congrArg _ (State.serve_argument (rule := fun t => t.openRuling l args) (by decide) hreach
      (State.openRuling_argument hbad))
  · subst hr hp
    have hopened {q : LinkPort} := exec_openReadout_accepted (p := q) hreach hring hnext hcount
    refine ⟨fun hpast => hopened ?_, fun hnewest holdest => hopened ?_,
      fun holdest hnewest => hopened ?_⟩
    · exact (LinkPort.step_of_ends _ (.inr hpast)).trans (LinkPort.endWalk_opened ..)
    · exact (LinkPort.step_of_overtaken _ hcount.symm hnewest holdest).trans
        (LinkPort.endWalk_opened ..)
    · exact LinkPort.step_of_claims _ hcount.symm hnext hnewest holdest
  · rw [ht]
    exact exec_readoutReadGrant_missing hgrant hr hstale hended hmissing
  · have htake : r.take key bytes = r' := by
      simp only [hr', Readout.take, Readout.passes, beq_iff_eq]
    have hunclaimed : r'.waiting = false := by rw [hr']
    have hnext : r'.next ≠ 0 := by rw [hr']; exact Nat.succ_ne_zero _
    have hwalked {q : LinkPort} :=
      exec_readoutReadGrant_walked (p := q) hgrant hr hstale hended hread
    rw [htake, ← hp] at hwalked
    refine ⟨fun hfull ht => ?_, fun hroom hgo hnewest holdest ht => ?_,
      fun hroom hgo hnewest holdest ht => ?_, fun hroom hends ht => ?_⟩ <;>
    refine ht ▸ hwalked ?_
    · exact LinkPort.walkedOn_of_full _ hfull
    · rw [LinkPort.walkedOn_of_room _ hroom, LinkPort.step_of_claims _ hgo hnext hnewest holdest]
    · rw [LinkPort.walkedOn_of_room _ hroom, LinkPort.step_of_overtaken _ hgo hnewest holdest,
        LinkPort.endWalk_of_unclaimed _ hunclaimed, overtakenToken]
    · rw [LinkPort.walkedOn_of_room _ hroom, LinkPort.step_of_ends _ hends,
        LinkPort.endWalk_of_unclaimed _ hunclaimed]

end Sys2Proof.Machine
end

section
/-! SUSPENDED stays out of the stored images, the snapshots, the mode beneath and the recoveries (R151, R158, R159),
and O8. -/

namespace Sys2Proof.Machine

/-- What `State.SuspendedUnstored` says of the view of a state. -/
def View.SuspendedUnstored (v : View) : Prop :=
  v.area ≠ .suspended ∧ v.spare ≠ .suspended ∧
    (∀ p, v.snap = some p → p.mode ≠ .suspended) ∧
    (∀ p, v.taking = some p → p.mode ≠ .suspended) ∧
    v.beneath ≠ .suspended ∧ (v.power = .starting → v.mode ≠ .suspended)

theorem State.suspendedUnstored_view (s : State) :
    s.view.SuspendedUnstored ↔ s.SuspendedUnstored := Iff.rfl

/-- Within a power phase no mode is set to SUSPENDED, and an image is programmed with the area's own mode or with one
that is not SUSPENDED. -/
theorem InnerMove.suspendedUnstored {v w : View} (h : InnerMove v w) (hv : v.SuspendedUnstored) :
    w.SuspendedUnstored := by
  obtain ⟨harea, hspare, hsnap, htaking, hbeneath, hstarting⟩ := hv
  cases h with
  | forget => exact ⟨harea, hspare, (fun _ hp => nomatch hp), htaking, hbeneath, hstarting⟩
  | mode m hm => exact ⟨harea, hspare, hsnap, htaking, hbeneath, fun _ => hm⟩
  | program m hm =>
    have hprogrammed : m ≠ .suspended := hm.elim (fun hcopied => hcopied ▸ harea) id
    exact ⟨harea, hprogrammed, hsnap, htaking, hbeneath, hstarting⟩
  | swap => exact ⟨hspare, harea, hsnap, htaking, hbeneath, hstarting⟩
  | _ => exact ⟨harea, hspare, hsnap, htaking, hbeneath, hstarting⟩

/-- SUSPENDED is entered only from STARTING, whose mode goes beneath it; a snapshot is begun only outside SUSPENDED and
holds the mode of its moment. -/
theorem QuietMove.suspendedUnstored {v w : View} (h : QuietMove v w) (hv : v.SuspendedUnstored) :
    w.SuspendedUnstored := by
  obtain ⟨harea, hspare, hsnap, htaking, hbeneath, hstarting⟩ := hv
  cases h with
  | inner h => exact h.suspendedUnstored ⟨harea, hspare, hsnap, htaking, hbeneath, hstarting⟩
  | advance => exact ⟨harea, hspare, hsnap, htaking, hbeneath, hstarting⟩
  | halt => exact ⟨harea, hspare, hsnap, (fun _ hp => nomatch hp), hbeneath, nofun⟩
  | suspend hpower => exact ⟨harea, hspare, hsnap, htaking, hstarting hpower, nofun⟩
  | leave => exact ⟨harea, hspare, hsnap, htaking, hbeneath, nofun⟩
  | take p hmode hsuspended hsame =>
    refine ⟨harea, hspare, hsnap, fun q hq => ?_, hbeneath, nofun⟩
    rw [← Option.some.inj hq, hmode]
    exact hsuspended
  | keep => exact ⟨harea, hspare, htaking, htaking, hbeneath, hstarting⟩
  | restore => exact ⟨harea, hspare, hsnap, htaking, hbeneath, hstarting⟩

/-- A recovery begins in the mode of the area or of the snapshot held, and resumes in the mode beneath SUSPENDED. -/
theorem Move.suspendedUnstored {v w : View} (h : Move v w) (hv : v.SuspendedUnstored) :
    w.SuspendedUnstored := by
  obtain ⟨harea, hspare, hsnap, htaking, hbeneath, hstarting⟩ := hv
  cases h with
  | quiet h => exact h.suspendedUnstored ⟨harea, hspare, hsnap, htaking, hbeneath, hstarting⟩
  | clock => exact ⟨harea, hspare, hsnap, htaking, hbeneath, hstarting⟩
  | start mode hmode =>
    have hgoverns : mode ≠ .suspended := by
      rcases hmode with hstored | ⟨p, hheld, hsnapped⟩
      · exact hstored ▸ harea
      · exact hsnapped ▸ hsnap p hheld
    exact ⟨harea, hspare, hsnap, (fun _ hp => nomatch hp), hgoverns, fun _ => hgoverns⟩
  | resume => exact ⟨harea, hspare, hsnap, htaking, hbeneath, fun _ => hbeneath⟩

/-- Settles O8: every move that a command can make of a state's view keeps SUSPENDED out of what is stored and out of
what governs a recovery. -/
theorem suspendedIsNeverStored : Obligations.SuspendedIsNeverStored := by
  intro s t hs h
  obtain ⟨rest, hmoves⟩ := step_outer h
  exact t.suspendedUnstored_view.1 (hmoves.keeps (fun _ _ => Move.suspendedUnstored) hs)

end Sys2Proof.Machine
end

section
/-! Command frames: their encoding, and what is read of whole, faulty and unfinished ones (R164, R167, R183), and O10. -/

namespace Sys2Proof.Machine

/-! ### What a frame is made of -/

/-- Every command has the code that it is found by. -/
theorem commandOfCode_code (c : Command) :
    commandOfCode (BitVec.ofNat 8 (commandCode c)) = some c := by
  cases c <;> rfl

/-- A two-byte field behind other bytes. -/
theorem u16_append (bs : List Byte) (hi lo : Byte) :
    u16 (bs ++ [hi, lo]) bs.length = hi.toNat * 256 + lo.toNat := by
  simp [u16, u8]

/-- The two bytes of a check word join to it. -/
theorem checkWord_bytes (w : BitVec 16) :
    (BitVec.ofNat 8 (w.toNat / 256)).toNat * 256 + (BitVec.ofNat 8 w.toNat).toNat = w.toNat := by
  rw [BitVec.toNat_ofNat, BitVec.toNat_ofNat]
  exact (join_bytes w.toNat).trans (Nat.mod_eq_of_lt w.isLt)

/-- A frame's length byte holds the number of its arguments. -/
theorem toNat_lengthByte {args : List Byte} (h : args.length ≤ 40) :
    (BitVec.ofNat 8 args.length).toNat = args.length := by
  rw [BitVec.toNat_ofNat]
  omega

/-- The bytes that a frame's check word is made of: its code, its length and its arguments. -/
def checkedBytes (c : Command) (args : List Byte) : List Byte :=
  BitVec.ofNat 8 (commandCode c) :: BitVec.ofNat 8 args.length :: args

theorem encodeFrame_eq (c : Command) (args : List Byte) :
    encodeFrame c args = leadByte :: (checkedBytes c args ++
      [BitVec.ofNat 8 ((checkWord (checkedBytes c args)).toNat / 256),
        BitVec.ofNat 8 (checkWord (checkedBytes c args)).toNat]) := rfl

/-! ### What is read of a frame -/

section Reading

variable (l : Link) (phase : Nat) (attempts : List Attempt)

theorem decodeFrame_lead (body : List Byte) :
    decodeFrame l phase attempts (leadByte :: body) = decodeBody l phase attempts body := if_pos rfl

/-- Bytes before the lead byte are ignored. -/
theorem decodeFrame_noise (frame : List Byte) {noise : List Byte} (h : ∀ b ∈ noise, b ≠ leadByte) :
    decodeFrame l phase attempts (noise ++ frame) = decodeFrame l phase attempts frame := by
  induction noise with
  | nil => rfl
  | cons b noise ih =>
    obtain ⟨hb, hnoise⟩ := List.forall_mem_cons.1 h
    exact (if_neg hb).trans (ih hnoise)

variable (code : Byte) {len : Byte}

/-- A length byte above 40 fails the check, whatever follows it. -/
theorem decodeBody_tooLong (h : 40 < len.toNat) (rest : List Byte) :
    decodeBody l phase attempts (code :: len :: rest) = some (.failedFrame l .check) := if_pos h

theorem decodeBody_unfinished (hlen : len.toNat ≤ 40) {rest : List Byte}
    (h : rest.length < len.toNat + 2) :
    decodeBody l phase attempts (code :: len :: rest) = none := by
  rw [decodeBody, if_neg (Nat.not_lt.2 hlen), if_pos h]

/-- A whole frame is judged by its check word first and by its code then. -/
theorem decodeBody_whole (hlen : len.toNat ≤ 40) {args : List Byte} (hargs : args.length = len.toNat)
    (hi lo : Byte) :
    decodeBody l phase attempts (code :: len :: (args ++ [hi, lo])) = some
      (if hi.toNat * 256 + lo.toNat = (checkWord (code :: len :: args)).toNat then
        (commandOfCode code).elim (.failedFrame l (.unknownCode code))
          (instrOf l args phase attempts)
      else .failedFrame l .check) := by
  have hwhole : ¬ (args ++ [hi, lo]).length < len.toNat + 2 := by simp [hargs]
  rw [decodeBody, if_neg (Nat.not_lt.2 hlen), if_neg hwhole, ← hargs]
  simp only [List.take_left, u16_append]
  split
  · cases commandOfCode code <;> rfl
  · rfl

end Reading

/-- A command's frame decodes to it. -/
theorem decodeFrame_encodeFrame (l : Link) (phase : Nat) (attempts : List Attempt) (c : Command)
    {args : List Byte} (h : args.length ≤ 40) :
    decodeFrame l phase attempts (encodeFrame c args) = some (instrOf l args phase attempts c) := by
  have hlen := toNat_lengthByte h
  rw [encodeFrame_eq, decodeFrame_lead, checkedBytes, List.cons_append, List.cons_append,
    decodeBody_whole l phase attempts _ (hlen.trans_le h) hlen.symm, if_pos (checkWord_bytes _),
    commandOfCode_code]
  rfl

/-- Settles O10: a frame's length, check word and code are read in that order, each only if those before let it pass. -/
theorem commandFramesRoundTrip : Obligations.CommandFramesRoundTrip := by
  refine ⟨fun l phase attempts c args hargs =>
      ⟨rfl, ?_, decodeFrame_encodeFrame l phase attempts c hargs⟩,
    fun l phase attempts noise frame hnoise => decodeFrame_noise l phase attempts frame hnoise,
    fun l phase attempts code len hi lo args =>
      ⟨fun hlong => ?_, fun hlen hargs => ?_, fun hlen hargs hcheck => ?_,
        fun hlen hargs hcheck hcode => ?_⟩⟩
  · simp [encodeFrame_eq, checkedBytes]
  · exact (decodeFrame_lead ..).trans (decodeBody_tooLong l phase attempts code hlong _)
  · refine (decodeFrame_lead ..).trans (decodeBody_unfinished l phase attempts code hlen ?_)
    simp
    omega
  · refine (decodeFrame_lead ..).trans ((decodeBody_whole l phase attempts code hlen hargs hi lo).trans ?_)
    rw [if_neg hcheck]
  · refine (decodeFrame_lead ..).trans ((decodeBody_whole l phase attempts code hlen hargs hi lo).trans ?_)
    rw [if_pos hcheck, hcode]
    rfl

end Sys2Proof.Machine
end

section
/-! The access classes, the rows of the screen, and frames that are refused or not taken (R163, R167, R170), and O12
and O14. -/

namespace Sys2Proof.Machine

/-! ### The rows of the screen (R167) -/

section Rows

variable {s : State} {c : Command} {l : Link} {args : List Byte}

theorem State.screen_starting (hpower : s.supply.power = .starting) (hc : c ≠ .linkStatus) :
    s.screen c l args = some 0x01 := if_pos ⟨hpower, hc⟩

variable (hpower : s.supply.power = .starting → c = .linkStatus)
include hpower

theorem State.screen_notPermitted (hclass : permitted c l s.supply.mode = false) :
    s.screen c l args = some 0x04 := by
  rw [State.screen, if_neg (fun h => h.2 (hpower h.1)), if_pos hclass]
  rfl

variable (hclass : permitted c l s.supply.mode = true)
include hclass

theorem State.screen_busy (hc : c ≠ .linkStatus) (hop : (s.port l).op.isSome = true) :
    s.screen c l args = some 0x02 := by
  rw [State.screen, if_neg (fun h => h.2 (hpower h.1)), if_neg (by simp [hclass]), if_pos ⟨hop, hc⟩]
  rfl

/-- LINK STATUS, and any command at a link with no operation in flight, is left to its argument length. -/
theorem State.screen_free (hfree : c = .linkStatus ∨ (s.port l).op = none) :
    s.screen c l args = if args.length ≠ argumentLength c then some 0x20 else none := by
  have hbusy : ¬ ((s.port l).op.isSome = true ∧ c ≠ .linkStatus) := by
    rintro ⟨hop, hc⟩
    rw [hfree.resolve_left hc] at hop
    contradiction
  rw [State.screen, if_neg (fun h => h.2 (hpower h.1)), if_neg (by simp [hclass]), if_neg hbusy]
  rfl

end Rows

/-! ### The access classes (R170) -/

theorem permitted_plant_iff (c : Command) (m : Mode) : permitted c .plant m = true ↔
    c ∈ [Command.linkStatus, .readTime, .readLive, .readEvents, .acknowledgeEvents, .setEventMask,
      .submitValue, .setStackSignals] := by
  cases c <;> simp [permitted]

/-- APPROVE is the one command whose class depends on the mode. -/
theorem permitted_operator_iff (c : Command) (m : Mode) : permitted c .operator m = true ↔
    c ∈ [Command.linkStatus, .readTime, .readLive, .readEvents, .acknowledgeEvents, .setEventMask,
      .readConfig, .readTally, .openReadout, .stop, .setTime, .stageChannel, .stageStack,
      .stageDevice, .withdrawStage, .markStart, .markEnd, .applyAnnotation, .commitCollection,
      .commitReport] ∨ (c = .approve ∧ m = .commissioning) := by
  cases c <;> simp [permitted]

theorem permitted_inspection_iff (c : Command) (m : Mode) : permitted c .inspection m = true ↔
    c ∈ [Command.linkStatus, .readTime, .readLive, .readEvents, .acknowledgeEvents, .setEventMask,
      .readConfig, .readTally, .openReadout, .stop, .setTime, .commitReport, .approve, .rejectStage,
      .closeDays, .inService, .withdraw, .eraseArchive, .restart] := by
  cases c <;> simp [permitted]

/-- Settles O12: the three columns of the access table, and the rows of the screen in their order. -/
theorem framesAreScreenedInOrder : Obligations.FramesAreScreenedInOrder := by
  refine ⟨⟨permitted_plant_iff, permitted_operator_iff, permitted_inspection_iff⟩,
    fun s c l args => ⟨State.screen_starting, fun hpower =>
      ⟨State.screen_notPermitted hpower, fun hclass =>
        ⟨State.screen_busy hpower hclass, fun hfree => ⟨fun hlen => ?_, fun hlen => ?_⟩⟩⟩,
      fun _ => rfl⟩⟩
  · rw [State.screen_free hpower hclass hfree, if_pos hlen]
  · rw [State.screen_free hpower hclass hfree, if_neg (not_not_intro hlen)]

/-! ### Requests that are not executed -/

section Requests

variable {s : State} {c : Command} {l : Link} {args : List Byte}

/-- A request that does not reach its own rule is only served, but for a STOP that its streaming port takes: RESTART
then starts no snapshot. -/
theorem exec_request_served (phase : Nat) (attempts : List Attempt)
    (hreach : s.reaches c l args = false)
    (hstop : c = .stop → ¬ (s.linksRespond = true ∧ (s.port l).recv = .streaming)) :
    ∃ rule, exec (instrOf l args phase attempts c) s = .next (s.serve c l args rule) := by
  cases c with
  | stop => exact ⟨fun _ => .sequence, congrArg Host.Outcome.next (if_neg (hstop rfl))⟩
  | restart =>
    exact ⟨fun t => .answered t none false,
      congrArg Host.Outcome.next (if_neg (Bool.eq_false_iff.1 hreach))⟩
  | _ => exact ⟨_, rfl⟩

theorem exec_request_refused (hlistens : s.listens l) {bits : Byte}
    (hscreen : s.screen c l args = some bits) (phase : Nat) (attempts : List Attempt) :
    exec (instrOf l args phase attempts c) s = .next (s.refusedWith l (s.replyBits bits)) := by
  obtain ⟨hrespond, hreplying, hstreaming⟩ := hlistens
  have hreach : s.reaches c l args = false := by simp [State.reaches, hscreen]
  obtain ⟨rule, hexec⟩ := exec_request_served phase attempts hreach fun _ h => hstreaming h.2
  rw [hexec, State.serve_of_screen hrespond hreplying hstreaming hscreen]
  rfl

theorem exec_request_untaken (h : s.linksRespond = false ∨ (s.port l).recv = .replying ∨
      ((s.port l).recv = .streaming ∧ c ≠ .stop)) (phase : Nat) (attempts : List Attempt) :
    exec (instrOf l args phase attempts c) s = .next s := by
  have hignored : s.linksRespond = false ∨ (s.port l).recv = .replying ∨
      (s.port l).recv = .streaming := h.imp_right (Or.imp_right And.left)
  have hreach : s.reaches c l args = false := by
    rcases hignored with h | h | h <;> simp [State.reaches, h]
  obtain ⟨rule, hexec⟩ := exec_request_served phase attempts hreach (by
    rintro rfl ⟨hrespond, hstreaming⟩
    simp [hrespond, hstreaming] at h)
  rw [hexec, State.serve_of_ignored hignored]

end Requests

/-! ### Frames that fail -/

section Failures

variable {s : State} {l : Link}

/-- What a failed frame is answered with; UNKNOWN gives way to STARTING (R167). -/
def State.failureBits (s : State) : FrameFailure → Byte
  | .check => bitFrameCheck
  | .unknownCode _ => if s.supply.power = .starting then bitStarting else bitUnknown

theorem exec_failedFrame_refused (h : s.listens l) (failure : FrameFailure) :
    exec (.failedFrame l failure) s =
      .next (s.refusedWith l (s.replyBits (s.failureBits failure))) := by
  obtain ⟨hrespond, hreplying, hstreaming⟩ := h
  have hfails : s.failFrame l failure = s.refuse l (s.failureBits failure) := by
    unfold State.failFrame
    rw [if_pos hrespond]
    cases hrecv : (s.port l).recv with
    | replying => exact absurd hrecv hreplying
    | streaming => exact absurd hrecv hstreaming
    | _ =>
      cases failure with
      | check => rfl
      | unknownCode code => exact (apply_ite (fun b => s.refuse l b) _ _ _).symm
  exact congrArg Host.Outcome.next hfails

theorem exec_failedFrame_untaken (h : s.linksRespond = false ∨ (s.port l).recv = .replying ∨
      (s.port l).recv = .streaming) (failure : FrameFailure) :
    exec (.failedFrame l failure) s = .next s := by
  refine congrArg Host.Outcome.next ?_
  rcases h with h | h | h <;> simp [State.failFrame, h]

/-- The STARTING bit is the whole reply to an unknown code while the part is STARTING. -/
theorem State.replyBits_unknown (s : State) (code : Byte) :
    s.replyBits (s.failureBits (.unknownCode code)) =
      if s.supply.power = .starting then 0x01 else 0x08 := by
  rw [State.replyBits, State.failureBits]
  split <;> rfl

end Failures

/-- Settles O14: a request that an early row refuses, or that its port does not take, is only served; a failed frame
is refused or not taken in the same way. -/
theorem refusedFramesChangeOnlyTheirReply : Obligations.RefusedFramesChangeOnlyTheirReply := by
  refine ⟨fun s c l args phase attempts bits hlistens hscreen =>
      exec_request_refused hlistens hscreen phase attempts,
    fun s l hlistens => ⟨exec_failedFrame_refused hlistens .check, fun code => ?_⟩,
    fun s c l args phase attempts h => exec_request_untaken h phase attempts,
    fun s l failure h => exec_failedFrame_untaken h failure⟩
  rw [exec_failedFrame_refused hlistens, State.replyBits_unknown]

end Sys2Proof.Machine
end

section
/-! Selection, the end of a reply or token, and the end of a busy operation, each at its own port (R163 to R169,
R173, R176), and O15. -/

namespace Sys2Proof.Machine

/-! ### A port put back -/

theorem State.modPort_eq_withPort (s : State) (l : Link) (f : LinkPort → LinkPort) :
    s.modPort l f = s.withPort l (f (s.port l)) := rfl

/-- Putting a port back as it is changes nothing. -/
theorem State.withPort_port (s : State) (l : Link) : s.withPort l (s.port l) = s := by
  cases l <;> rfl

/-! ### The read granted to a readout that closes (R146) -/

section Abandoning

variable {s : State} {l : Link} {g : Grant}

theorem State.abandonReadoutGrant_of_claim (hgrant : s.arbiter.grant = some g)
    (hclaim : g.claim = .readout l) : s.abandonReadoutGrant l =
      { s with arbiter := { s.arbiter with grant := some { g with stale := true } } } := by
  unfold State.abandonReadoutGrant
  simp only [hgrant, if_pos hclaim]

theorem State.abandonReadoutGrant_of_other
    (h : ∀ g, s.arbiter.grant = some g → g.claim ≠ .readout l) : s.abandonReadoutGrant l = s := by
  unfold State.abandonReadoutGrant
  cases hgrant : s.arbiter.grant with
  | none => rfl
  | some g => exact if_neg (h g hgrant)

end Abandoning

/-! ### Selection (R165) -/

section Selection

variable {s : State} {l : Link}

/-- A port that a deselection has cleared of all but its operation and its last result. -/
def LinkPort.deselected (p : LinkPort) : LinkPort :=
  { p with selected := false, recv := .idle, frame := none, readout := none, tx := [], leaving := [] }

theorem exec_selectDeasserted_responding (h : s.linksRespond = true) :
    exec (.selectDeasserted l) s =
      .next ((s.withPort l (s.port l).deselected).abandonReadoutGrant l) :=
  congrArg Host.Outcome.next (if_pos h)

theorem exec_selectDeasserted_silent (h : s.linksRespond = false) :
    exec (.selectDeasserted l) s = .next (s.withPort l { (s.port l) with selected := false }) :=
  congrArg Host.Outcome.next (if_neg (Bool.eq_false_iff.1 h))

theorem exec_selectAsserted_again (h : (s.port l).selected = true) :
    exec (.selectAsserted l) s = .next s := congrArg Host.Outcome.next (if_pos h)

theorem exec_selectAsserted_responding (hresponds : s.linksRespond = true)
    (h : (s.port l).selected = false) :
    exec (.selectAsserted l) s = .next (s.withPort l { (s.port l) with
      selected := true, recv := if (s.port l).op.isSome then .busy else .idle }) :=
  congrArg Host.Outcome.next ((if_neg (Bool.eq_false_iff.1 h)).trans (if_pos hresponds))

/-- A port that does not respond keeps the level of its select signal, also one held already. -/
theorem exec_selectAsserted_silent (hsilent : s.linksRespond = false) :
    exec (.selectAsserted l) s = .next (s.withPort l { (s.port l) with selected := true }) := by
  cases hselected : (s.port l).selected with
  | false =>
    exact congrArg Host.Outcome.next ((if_neg (Bool.eq_false_iff.1 hselected)).trans
      (if_neg (Bool.eq_false_iff.1 hsilent)))
  | true =>
    have hsame : { (s.port l) with selected := true } = s.port l := by rw [← hselected]
    rw [exec_selectAsserted_again hselected, hsame, State.withPort_port]

end Selection

/-! ### The end of a reply or token (R166, R168, R173, R176) -/

theorem exec_replySent_silent {s : State} {l : Link} (h : s.linksRespond = false) :
    exec (.replySent l) s = .next s := congrArg Host.Outcome.next (if_neg (Bool.eq_false_iff.1 h))

theorem exec_replySent_responding {s : State} {l : Link} (h : s.linksRespond = true) {p : LinkPort}
    (hsent : (s.port l).sent = p) : exec (.replySent l) s = .next (s.withPort l p) := by
  subst hsent
  exact congrArg Host.Outcome.next (if_pos h)

section Sending

variable {p : LinkPort}

theorem LinkPort.sent_of_left {x : TxItem} {rest : List TxItem} (h : p.leaving = x :: rest) :
    p.sent = { p with leaving := afterLeft (x :: rest) } := by
  unfold LinkPort.sent
  simp only [h]

theorem LinkPort.sent_of_own (h : p.leaving = []) : p.sent = p.ownSent := by
  unfold LinkPort.sent
  simp only [h]

theorem LinkPort.ownSent_of_quiet (h : p.recv = .idle ∨ p.recv = .busy ∨ p.recv = .receiving) :
    p.ownSent = p := by
  unfold LinkPort.ownSent
  rcases h with h | h | h <;> simp only [h]

theorem LinkPort.ownSent_of_replying (h : p.recv = .replying) : p.ownSent = { p with
    recv := if p.readout.isSome then .streaming else if p.op.isSome then .busy else .idle
    tx := afterReply p.tx } := by
  unfold LinkPort.ownSent
  simp only [h]
  rfl

/-- After the token that closes a stream its readout is closed (R176). -/
theorem LinkPort.ownSent_of_token (hstreaming : p.recv = .streaming) {x : TxItem}
    {rest : List TxItem} (htx : p.tx = x :: rest) (hx : x = .endOfStream ∨ ∃ r, x = .dataFault r) :
    p.ownSent = { p with recv := .idle, tx := [], readout := none } := by
  unfold LinkPort.ownSent
  rcases hx with rfl | ⟨r, rfl⟩ <;> simp only [hstreaming, htx]

theorem LinkPort.ownSent_of_noToken (hstreaming : p.recv = .streaming)
    (h : ∀ x rest, p.tx = x :: rest → x ≠ .endOfStream ∧ ∀ r, x ≠ .dataFault r) :
    p.ownSent = p := by
  unfold LinkPort.ownSent
  simp only [hstreaming]
  split
  · next htx => exact absurd rfl ((h _ _ htx).2 _)
  · next htx => exact absurd rfl (h _ _ htx).1
  · rfl

end Sending

/-! ### What stays to be sent -/

theorem afterReply_reply (b : Byte) {rest : List TxItem} (h : ∀ d r, rest ≠ .replyBlock d :: r) :
    afterReply (.reply b :: rest) = rest := by
  cases rest with
  | nil => rfl
  | cons x rest =>
    cases x with
    | replyBlock d => exact absurd rfl (h d rest)
    | _ => rfl

/-- What stands before the reply byte goes out before it. -/
theorem afterReply_other {x : TxItem} (h : ∀ c, x ≠ .reply c) (rest : List TxItem) :
    afterReply (x :: rest) = afterReply rest := by
  cases x with
  | reply c => exact absurd rfl (h c)
  | _ => rfl

/-! ### The end of an operation (R169, R172) -/

theorem State.endOp_eq {s : State} {l : Link} {o : LinkOp} (h : (s.port l).op = some o)
    (out : OpOutcome) (r : Option Reason) (i : Option Nat) (n : List Nat) :
    s.endOp l out r i n = (s.withPort l { (s.port l) with
      op := none
      last := some { command := some o.cmd.name, outcome := out, reason := r, index := i,
                     counts := n }
      recv := if (s.port l).recv = .busy then .idle else (s.port l).recv }).withFlags l
        ((s.attention.get l).raise flagOperationDone) := by
  unfold State.endOp
  simp only [h]
  rfl

/-- A silenced port keeps the level of its select signal, and its last result where no operation was in flight. -/
theorem LinkPort.silenced_eq (p : LinkPort) : p.silenced = { p with
    recv := .idle, frame := none, readout := none, tx := [], leaving := [], op := none
    last := lastAfter p.opSnapshot p.last } := by
  have hop : (p.cutShort p.opSnapshot).op = none := p.silenced_op
  have hselected : (p.cutShort p.opSnapshot).selected = p.selected := by
    cases p.opSnapshot <;> rfl
  rw [LinkPort.silenced, hop, hselected, p.cutShort_last]

/-- Settles O15: each event at a port by what the receiver is in and what stays to be sent. -/
theorem portsFollowSelectionAndReplies : Obligations.PortsFollowSelectionAndReplies := by
  refine ⟨fun s l => ⟨fun hresponds => ⟨fun g hgrant hclaim => ?_, fun hother => ?_,
        exec_selectAsserted_responding hresponds⟩,
      fun hsilent => ⟨exec_selectDeasserted_silent hsilent, exec_selectAsserted_silent hsilent⟩,
      exec_selectAsserted_again⟩,
    fun s l => ⟨exec_replySent_silent, fun hresponds => ⟨fun x rest hleft => ?_, fun hown => ?_⟩⟩,
    fun b x rest => ⟨fun _ => rfl, afterReply_reply b, fun h => afterReply_other h rest⟩,
    fun s l o out r i n hop _ => State.endOp_eq hop out r i n, fun s l => ⟨?_, s.silence_get l⟩⟩
  · rw [exec_selectDeasserted_responding hresponds,
      State.abandonReadoutGrant_of_claim (s := s.withPort l _) hgrant hclaim]
    rfl
  · rw [exec_selectDeasserted_responding hresponds,
      State.abandonReadoutGrant_of_other (s := s.withPort l _) hother]
    rfl
  · rw [exec_replySent_responding hresponds (LinkPort.sent_of_left hleft)]
    cases x with
    | reply b =>
      cases rest with
      | nil => rfl
      | cons y rest => cases y <;> rfl
    | _ => rfl
  · have hsent {p : LinkPort} (h : (s.port l).ownSent = p) :=
      exec_replySent_responding hresponds ((LinkPort.sent_of_own hown).trans h)
    refine ⟨fun hquiet => ?_, fun hreplying => hsent (LinkPort.ownSent_of_replying hreplying),
      fun hstreaming => ⟨fun x rest htx hx => hsent (LinkPort.ownSent_of_token hstreaming htx hx),
        fun hnone => ?_⟩⟩
    · rw [hsent (LinkPort.ownSent_of_quiet hquiet), State.withPort_port]
    · rw [hsent (LinkPort.ownSent_of_noToken hstreaming hnone), State.withPort_port]
  · rw [State.silence_port, LinkPort.silenced_eq, LinkPort.opSnapshot]
    cases (s.port l).op <;> rfl

end Sys2Proof.Machine
end

section
/-! STOP, and the end of a stream's block (R173 to R176), and O26. -/

namespace Sys2Proof.Machine

/-! ### STOP at a port that does not stream -/

section Stopping

variable {s : State} {l : Link} {args : List Byte}

/-- A STOP that reaches its own rule finds no stream to end. -/
theorem exec_stop_elsewhere (h : s.reaches .stop l args = true) :
    exec (.stop l args) s = .next (s.refusedWith l 0x40) := by
  obtain ⟨_, _, hstreaming, _⟩ := (s.reaches_iff _ l args).1 h
  refine congrArg Host.Outcome.next ((if_neg fun hstream => hstreaming hstream.2).trans ?_)
  exact State.serve_sequence (by decide) h rfl

/-! ### STOP at a streaming port -/

variable (hresponds : s.linksRespond = true) (hstreaming : (s.port l).recv = .streaming)
include hresponds hstreaming

theorem exec_stop_streaming : exec (.stop l args) s = .next (s.stopFrame l args) :=
  congrArg Host.Outcome.next (if_pos ⟨hresponds, hstreaming⟩)

/-- With arguments it is no STOP, and is discarded like any other frame. -/
theorem exec_stop_misfit (h : args.length ≠ 0) : exec (.stop l args) s = .next s := by
  rw [exec_stop_streaming hresponds hstreaming]
  exact congrArg Host.Outcome.next (if_pos h)

theorem exec_stop_starting (h : s.supply.power = .starting) :
    exec (.stop l []) s = .next (s.refusedWith l 0x01) := by
  have hbits : s.replyBits bitStarting = 0x01 := if_pos h
  have hframe : s.stopFrame l [] = s.refuse l bitStarting :=
    (if_neg (not_not_intro rfl)).trans (if_pos h)
  rw [exec_stop_streaming hresponds hstreaming, hframe, State.refuse, hbits]
  rfl

theorem exec_stop_taken (h : s.supply.power ≠ .starting) {p : LinkPort}
    (hstop : (s.port l).stop = p) :
    exec (.stop l []) s = .next ((s.withPort l p).abandonReadoutGrant l).settle := by
  subst hstop
  have hframe : s.stopFrame l [] = s.stopStream l :=
    (if_neg (not_not_intro rfl)).trans (if_neg h)
  rw [exec_stop_streaming hresponds hstreaming, hframe]
  rfl

end Stopping

/-- The arbiter after a readout of a link has closed: a read granted to it is stale, any other grant goes on (R146). -/
theorem State.abandonReadoutGrant_eq {s : State} {l : Link} {arb : Arbiter}
    (h : ((∀ g, s.arbiter.grant = some g → g.claim ≠ .readout l) ∧ arb = s.arbiter) ∨
      ∃ g, s.arbiter.grant = some g ∧ g.claim = .readout l ∧
        arb = { s.arbiter with grant := some { g with stale := true } }) :
    s.abandonReadoutGrant l = { s with arbiter := arb } := by
  rcases h with ⟨hother, rfl⟩ | ⟨g, hgrant, hclaim, rfl⟩
  · exact State.abandonReadoutGrant_of_other hother
  · exact State.abandonReadoutGrant_of_claim hgrant hclaim

/-! ### A readout that STOP finds (R173) -/

section Ports

variable {p : LinkPort} {r : Readout} (hr : p.readout = some r)

section Stop

include hr

/-- A block that is being sent is finished first. -/
theorem LinkPort.stop_of_block {d : List Byte} {rest : List TxItem}
    (htx : p.tx = .streamBlock d :: rest) : p.stop = { p with
      readout := some { r with forming := [], waiting := false, stopping := true } } := by
  unfold LinkPort.stop
  simp only [hr, htx]

theorem LinkPort.stop_of_noBlock (h : ∀ d rest, p.tx ≠ .streamBlock d :: rest) :
    p.stop = p.stopped := by
  unfold LinkPort.stop
  rw [hr]
  dsimp only
  split
  · next htx => exact absurd htx (h _ _)
  · rfl

end Stop

/-! ### After a block (R175, R176) -/

variable {rest : List TxItem} {ptr : Pointers}

theorem LinkPort.blockSent_of_stopping (h : r.stopping = true) :
    p.blockSent r rest ptr = p.stopped := if_pos h

variable (hgo : r.stopping = false)
include hgo

theorem LinkPort.blockSent_of_ended (h : r.ended = true) :
    p.blockSent r rest ptr = { p with tx := rest } :=
  (if_neg (Bool.eq_false_iff.1 hgo)).trans (if_pos h)

theorem LinkPort.blockSent_of_walking (h : r.ended = false) :
    p.blockSent r rest ptr = { p with tx := rest }.step r ptr :=
  (if_neg (Bool.eq_false_iff.1 hgo)).trans (if_neg (Bool.eq_false_iff.1 h))

end Ports

/-- A ring that does not hold the position, or holds nothing, ends the walk with OVERTAKEN. -/
theorem LinkPort.step_of_notHeld (p : LinkPort) {r : Readout} {ptr : Pointers}
    (hgo : r.walked ≠ r.count) (hnewest : r.next ≤ ptr.newest)
    (h : r.next < ptr.oldest ∨ ptr.newest = 0) : p.step r ptr = p.endWalk r overtakenToken := by
  rw [LinkPort.step, Readout.decide, if_neg (not_or.2 ⟨hgo, Nat.not_lt.2 hnewest⟩), if_pos h]

theorem LinkPort.step_of_held (p : LinkPort) {r : Readout} {ptr : Pointers}
    (hgo : r.walked ≠ r.count) (hnewest : r.next ≤ ptr.newest) (holdest : ptr.oldest ≤ r.next)
    (hsome : ptr.newest ≠ 0) :
    p.step r ptr = { p with readout := some { r with waiting := true } } := by
  rw [LinkPort.step, Readout.decide, if_neg (not_or.2 ⟨hgo, Nat.not_lt.2 hnewest⟩),
    if_neg (not_or.2 ⟨Nat.not_lt.2 holdest, hsome⟩)]

section Blocks

variable {s : State} {l : Link} {d : List Byte} {rest : List TxItem}
  (hresponds : s.linksRespond = true)
include hresponds

/-- A block that an erase left goes out before anything of the port's own stream. -/
theorem exec_readoutBlockSent_left (hleft : (s.port l).leaving = .streamBlock d :: rest) :
    exec (.readoutBlockSent l) s =
      .next (s.withPort l { (s.port l) with leaving := rest }).settle := by
  refine congrArg Host.Outcome.next ((if_pos hresponds).trans ?_)
  unfold State.sendBlock
  simp only [hleft]
  rfl

theorem exec_readoutBlockSent_own (hown : (s.port l).leaving = [])
    (htx : (s.port l).tx = .streamBlock d :: rest) (hstreaming : (s.port l).recv = .streaming)
    {r : Readout} (hr : (s.port l).readout = some r) {p : LinkPort}
    (hsent : (s.port l).blockSent r rest (s.store.pointers r.ring) = p) :
    exec (.readoutBlockSent l) s = .next (s.withPort l p).settle := by
  refine congrArg Host.Outcome.next ((if_pos hresponds).trans ?_)
  unfold State.sendBlock
  simp only [hown, htx, hstreaming, hr]
  rw [State.modPort_eq_withPort, hsent]

end Blocks

/-- Settles O26: STOP by the receiver that it finds, and the end of a block by where its readout then stands. -/
theorem readoutsEnd : Obligations.ReadoutsEnd := by
  refine ⟨fun s t l args r arb => ⟨exec_stop_elsewhere, exec_stop_misfit,
      fun hstarting hstreaming => ?_, fun hrun hstreaming hr harb => ?_⟩,
    fun s t l r d rest p hresponds => ⟨fun hleft ht => ?_,
      fun hown htx hstreaming hr hp => ⟨fun hstopping ht => ?_, fun hgo hended ht => ?_,
        fun hgo hwalking hcount hnewest => ⟨fun holdest hsome ht => ?_, fun hlost ht => ?_⟩,
        fun hgo hwalking hends ht => ?_⟩⟩⟩
  · have hresponds : s.linksRespond = true := by simp [State.linksRespond, hstarting]
    exact exec_stop_starting hresponds hstreaming hstarting
  · have hpower : s.supply.power = .running := State.power_of_running hrun
    have hresponds : s.linksRespond = true := by simp [State.linksRespond, hpower]
    have htaken {q : LinkPort} (hq : (s.port l).stop = q) :
        exec (.stop l []) s = .next { s.withPort l q with arbiter := arb }.settle := by
      rw [exec_stop_taken hresponds hstreaming (by simp [hpower]) hq,
        State.abandonReadoutGrant_eq (s := s.withPort l q) harb]
    exact ⟨fun hnone ht => ht ▸ htaken (LinkPort.stop_of_noBlock hr hnone),
      fun d rest htx ht => ht ▸ htaken (LinkPort.stop_of_block hr htx)⟩
  · exact ht ▸ exec_readoutBlockSent_left hresponds hleft
  all_goals
    subst hp ht
    refine exec_readoutBlockSent_own hresponds hown htx hstreaming hr ?_
  · exact LinkPort.blockSent_of_stopping hstopping
  · exact LinkPort.blockSent_of_ended hgo hended
  · exact (LinkPort.blockSent_of_walking hgo hwalking).trans
      (LinkPort.step_of_held _ hcount hnewest holdest hsome)
  · exact (LinkPort.blockSent_of_walking hgo hwalking).trans
      (LinkPort.step_of_notHeld _ hcount hnewest hlost)
  · exact (LinkPort.blockSent_of_walking hgo hwalking).trans (LinkPort.step_of_ends _ hends)

end Sys2Proof.Machine
end

section
/-! The flag sets of the attention unit (R179 to R181), and O7. -/

namespace Sys2Proof.Machine

/-! ### Sets of flags -/

section Inside
/-! One set lies inside another, `x &&& ~~~z = 0`: each of its bits is one of the other's. -/

variable {n : Nat} {x y z : BitVec n}

theorem inside_or (hx : x &&& ~~~z = 0) (hy : y &&& ~~~z = 0) : (x ||| y) &&& ~~~z = 0 := by
  rw [BitVec.and_or_distrib_right, hx, hy]
  exact BitVec.or_zero

theorem inside_and (hx : x &&& ~~~z = 0) : (x &&& y) &&& ~~~z = 0 := by
  rw [BitVec.and_assoc, BitVec.and_comm y, ← BitVec.and_assoc, hx]
  exact BitVec.zero_and

theorem inside_or_of_inside (hx : x &&& ~~~y = 0) : x &&& ~~~(y ||| z) = 0 := by
  rw [BitVec.not_or, ← BitVec.and_assoc, hx]
  exact BitVec.zero_and

/-- What is taken from both sets leaves the one inside the other. -/
theorem inside_and_not (hx : x &&& ~~~y = 0) : (x &&& ~~~z) &&& ~~~(y &&& ~~~z) = 0 := by
  rw [BitVec.not_and, BitVec.not_not, BitVec.and_or_distrib_left, inside_and hx, BitVec.and_assoc,
    BitVec.and_comm (~~~z), BitVec.and_not_self]
  simp

theorem or_eq_of_inside (hx : x &&& ~~~y = 0) : x ||| y = y := by
  refine BitVec.eq_of_getLsbD_eq fun i hi => ?_
  have hbit : (x &&& ~~~y).getLsbD i = false := by rw [hx]; exact BitVec.getLsbD_zero
  rw [BitVec.getLsbD_and, BitVec.getLsbD_not, decide_eq_true hi, Bool.true_and] at hbit
  rw [BitVec.getLsbD_or]
  cases hy : y.getLsbD i
  · simpa [hy] using hbit
  · exact Bool.or_true _

end Inside

/-- One link's sets stand as they should: a seen flag is pending, and no unused bit is set (R179 to R181). -/
def Attention.Consistent (a : Attention) : Prop :=
  a.seen &&& ~~~a.pending = 0 ∧ Known a.pending ∧ Known a.seen ∧ Known a.mask

/-- The sets of all three links, and those held while the part is STARTING. -/
def AttentionUnit.Consistent (u : AttentionUnit) : Prop :=
  (∀ l, (u.get l).Consistent) ∧ Known u.held

theorem State.consistent_iff (s : State) :
    s.view.att.Consistent ↔ s.SeenArePending ∧ s.FlagsKnown :=
  ⟨fun ⟨hlinks, hheld⟩ => ⟨fun l => (hlinks l).1, fun l => (hlinks l).2, hheld⟩,
    fun ⟨hseen, hlinks, hheld⟩ => ⟨fun l => ⟨hseen l, hlinks l⟩, hheld⟩⟩

/-! ### What is done to the sets of one link -/

section OneLink

variable {a : Attention} {f : FlagSet}

theorem Attention.Consistent.raise (h : a.Consistent) (hf : Known f) : (a.raise f).Consistent := by
  obtain ⟨hsub, hpending, hseen, hmask⟩ := h
  exact ⟨inside_or_of_inside (inside_and hsub), inside_or hpending hf, inside_and hseen, hmask⟩

theorem Attention.Consistent.markSeen (h : a.Consistent) : a.markSeen.Consistent := by
  obtain ⟨hsub, hpending, hseen, hmask⟩ := h
  exact ⟨inside_or hsub (BitVec.and_not_self _), hpending, inside_or hseen hpending, hmask⟩

/-- What an acknowledgement removes leaves both sets at once. -/
theorem Attention.Consistent.acknowledge (h : a.Consistent) : (a.acknowledge f).Consistent := by
  obtain ⟨hsub, hpending, hseen, hmask⟩ := h
  exact ⟨inside_and_not hsub, inside_and hpending, inside_and hseen, hmask⟩

theorem Attention.Consistent.enable (h : a.Consistent) (hf : Known f) :
    ({ a with mask := f } : Attention).Consistent := by
  obtain ⟨hsub, hpending, hseen, _⟩ := h
  exact ⟨hsub, hpending, hseen, hf⟩

theorem Attention.Consistent.emptied (h : a.Consistent) : a.emptied.Consistent := by
  obtain ⟨_, _, _, hmask⟩ := h
  exact ⟨BitVec.zero_and, BitVec.zero_and, BitVec.zero_and, hmask⟩

/-- Pending flags at the end of a recovery, none of them seen yet and all enabled (R162). -/
theorem Attention.consistent_fresh (hf : Known f) :
    ({ pending := f, seen := 0, mask := allFlags } : Attention).Consistent :=
  ⟨BitVec.zero_and, hf, BitVec.zero_and, BitVec.and_not_self _⟩

end OneLink

/-! ### What is done to the unit -/

section Unit

variable {u : AttentionUnit}

theorem AttentionUnit.get_set (u : AttentionUnit) (l k : Link) (a : Attention) :
    (u.set l a).get k = if k = l then a else u.get k := by
  cases l <;> cases k <;> rfl

theorem AttentionUnit.Consistent.set (h : u.Consistent) {l : Link} {a : Attention}
    (ha : a.Consistent) : (u.set l a).Consistent := by
  refine ⟨fun k => ?_, by cases l <;> exact h.2⟩
  rw [AttentionUnit.get_set]
  split
  · exact ha
  · exact h.1 k

theorem AttentionUnit.get_raiseAll (u : AttentionUnit) (f : FlagSet) (l : Link) :
    (u.raiseAll f).get l = (u.get l).raise f := by
  cases l <;> rfl

theorem AttentionUnit.Consistent.raiseAll (h : u.Consistent) {f : FlagSet} (hf : Known f) :
    (u.raiseAll f).Consistent := by
  refine ⟨fun l => ?_, h.2⟩
  rw [AttentionUnit.get_raiseAll]
  exact (h.1 l).raise hf

end Unit

/-- Each move leaves every flag set as one of the operations on flag sets does. -/
theorem InnerMove.flagsConsistent {v w : View} (h : InnerMove v w) (hv : v.att.Consistent) :
    w.att.Consistent := by
  obtain ⟨hlinks, hheld⟩ := hv
  cases h with
  | raiseAll f hf => exact AttentionUnit.Consistent.raiseAll ⟨hlinks, hheld⟩ (hf hheld)
  | raiseOn l f hf => exact AttentionUnit.Consistent.set ⟨hlinks, hheld⟩ ((hlinks l).raise hf)
  | hold f hf => exact ⟨hlinks, inside_or hheld hf⟩
  | release => exact ⟨hlinks, BitVec.zero_and⟩
  | see l => exact AttentionUnit.Consistent.set ⟨hlinks, hheld⟩ (hlinks l).markSeen
  | acknowledge l f => exact AttentionUnit.Consistent.set ⟨hlinks, hheld⟩ (hlinks l).acknowledge
  | mask l f hf => exact AttentionUnit.Consistent.set ⟨hlinks, hheld⟩ ((hlinks l).enable hf)
  | calm =>
    refine ⟨fun l => ?_, hheld⟩
    cases l with
    | plant => exact (hlinks .plant).emptied
    | operator => exact (hlinks .operator).emptied
    | inspection => exact (hlinks .inspection).emptied
  | begins f hf =>
    exact ⟨fun l => by cases l <;> exact Attention.consistent_fresh (hf hheld), BitVec.zero_and⟩
  | _ => exact ⟨hlinks, hheld⟩

/-- Between power phases the flag sets stand. -/
theorem Move.flagsConsistent {v w : View} (h : Move v w) (hv : v.att.Consistent) :
    w.att.Consistent := by
  cases h with
  | quiet h =>
    cases h with
    | inner h => exact h.flagsConsistent hv
    | _ => exact hv
  | _ => exact hv

/-- Settles O7: every move that a command can make of a state's view keeps the flag sets consistent. -/
theorem flagSetsStayConsistent : Obligations.FlagSetsStayConsistent := by
  intro s t hseen hknown h
  obtain ⟨rest, hmoves⟩ := step_outer h
  exact t.consistent_iff.1 (hmoves.keeps (P := fun v => v.att.Consistent)
    (fun _ _ => Move.flagsConsistent) (s.consistent_iff.2 ⟨hseen, hknown⟩))

end Sys2Proof.Machine
end

section
/-! The queue of waiting commands (log entry 1), and O1 and O2. -/

namespace Sys2Proof.Machine

/-- No move of a state's view touches the waiting commands. -/
theorem Move.pending {v w : View} (h : Move v w) : w.pending = v.pending := by
  cases h with
  | quiet h =>
    cases h with
    | inner h => cases h <;> rfl
    | _ => rfl
  | _ => rfl

/-- Settles O2: no move that a command can make of a state's view touches the waiting commands. -/
theorem commandsLeaveTheWaitingQueue : Obligations.CommandsLeaveTheWaitingQueue := by
  intro i s t h
  exact (exec_outer h).keeps (P := fun v => v.pending = s.pending)
    (fun _ _ hmove hv => hmove.pending.trans hv) rfl

/-- Settles O1: the step's two cases, by the queue. -/
theorem stepRunsTheFrontCommand : Obligations.StepRunsTheFrontCommand := by
  refine ⟨fun c rest s hwaiting => ?_, fun s hidle => ?_⟩
  · rw [step, hwaiting]
  · rw [step, hidle]

end Sys2Proof.Machine
end

section
/-! The attention requests (R180), and O17 and O18. -/

namespace Sys2Proof.Machine

/-! ### The requests on the sender's sets -/

section Requests

variable {s : State} {l : Link} {args : List Byte}

theorem readFlagSet_of_lt (h : u16 args 0 < 16384) :
    readFlagSet args = some (BitVec.ofNat 16 (u16 args 0)) := if_pos h

theorem readFlagSet_of_le (h : 16384 ≤ u16 args 0) : readFlagSet args = none :=
  if_neg (Nat.not_lt.2 h)

theorem exec_readEvents (h : s.reaches .readEvents l args = true) :
    exec (.readEvents l args) s = .next ((s.withFlags l (s.attention.get l).markSeen).withReply l
      ((s.port l).replying (noticeByte l s.links.marks)
        (some (bytes2 (s.attention.get l).pending.toNat)))) :=
  congrArg _ (State.serve_accepted (by decide) h rfl)

theorem exec_acknowledgeEvents (h : s.reaches .acknowledgeEvents l args = true) {f : FlagSet}
    (hf : readFlagSet args = some f) :
    exec (.acknowledgeEvents l args) s =
      .next ((s.withFlags l ((s.attention.get l).acknowledge f)).withReply l
        ((s.port l).replying (noticeByte l s.links.marks)
          (some (bytes2 ((s.attention.get l).removable f).toNat)))) :=
  congrArg _ (State.serve_accepted (by decide) h (by rw [hf]; rfl))

theorem exec_setEventMask (h : s.reaches .setEventMask l args = true) {f : FlagSet}
    (hf : readFlagSet args = some f) :
    exec (.setEventMask l args) s =
      .next ((s.withFlags l { (s.attention.get l) with mask := f }).answered l) :=
  congrArg _ (State.serve_accepted (by decide) h (by rw [hf]; rfl))

end Requests

/-- Settles O17: each request by its rule, and the unused bits refused with ARGUMENT. -/
theorem attentionRequestsActOnTheirOwnLink : Obligations.AttentionRequestsActOnTheirOwnLink := by
  rintro s l args a rfl
  refine ⟨exec_readEvents, fun removed h hflags hremoved => ?_, fun h hflags => ?_,
    fun h hunused => ?_, fun h hunused => ?_⟩
  · rw [hremoved]
    exact exec_acknowledgeEvents h (readFlagSet_of_lt hflags)
  · exact exec_setEventMask h (readFlagSet_of_lt hflags)
  · exact congrArg _ (State.serve_argument (by decide) h (by rw [readFlagSet_of_le hunused]))
  · exact congrArg _ (State.serve_argument (by decide) h (by rw [readFlagSet_of_le hunused]))

/-! ### Pending, seen and enabled flags -/

/-- A link's output is asserted while one of its pending flags is enabled. -/
theorem Attention.asserted_iff (a : Attention) : a.asserted = true ↔
    ∃ k, k < 16 ∧ a.pending.getLsbD k = true ∧ a.mask.getLsbD k = true := by
  have hclear : a.asserted = false ↔ ∀ k, k < 16 → (a.pending &&& a.mask).getLsbD k = false := by
    simp only [Attention.asserted, bne_eq_false_iff_eq]
    exact ⟨fun h k _ => by rw [h]; exact BitVec.getLsbD_zero,
      fun h => BitVec.eq_of_getLsbD_eq fun k hk => (h k hk).trans BitVec.getLsbD_zero.symm⟩
  rw [← Bool.not_eq_false, hclear]
  simp

/-- After a READ EVENTS the flags that an acknowledgement removes are those it names, but not those raised since. -/
theorem Attention.removable_of_read (a : Attention) (raised named : FlagSet)
    (h : a.seen &&& ~~~a.pending = 0) :
    (a.markSeen.raise raised).removable named = named &&& a.pending &&& ~~~raised := by
  show named &&& (a.pending ||| raised) &&& ((a.seen ||| a.pending) &&& ~~~raised) = _
  rw [or_eq_of_inside h]
  ext k hk
  cases hraised : raised[k] <;> cases hpending : a.pending[k] <;> simp [hraised, hpending]

/-- Settles O18: a raise on each link, the output by the bits of both sets, and an acknowledgement by what it removes. -/
theorem flagsArePendingUntilReadAndAcknowledged :
    Obligations.FlagsArePendingUntilReadAndAcknowledged := by
  refine ⟨⟨fun s f hpower => ?_, fun s f hpower => ?_, fun s l hpower => ?_⟩,
    fun a raised named k hk hseen => ?_⟩
  · refine ⟨s.raiseAll_time f, s.raiseAll_recorder f, s.raiseAll_links f, fun l => ?_⟩
    rw [State.raiseAll_running hpower, AttentionUnit.get_raiseAll]
    exact ⟨rfl, rfl, rfl⟩
  · rw [State.raiseAll, if_pos hpower]
  · rw [State.atn, hpower]
    exact Attention.asserted_iff _
  · have hpending : ((a.markSeen.raise raised).acknowledge named).pending =
        (a.pending ||| raised) &&& ~~~(named &&& a.pending &&& ~~~raised) := by
      rw [← a.removable_of_read raised named hseen]
      rfl
    rw [hpending]
    simp only [BitVec.getLsbD_and, BitVec.getLsbD_or, BitVec.getLsbD_not, hk, decide_true,
      Bool.true_and]
    cases raised.getLsbD k <;> cases a.pending.getLsbD k <;> simp

end Sys2Proof.Machine
end

section
/-! The data blocks of READ LIVE, READ TALLY, LINK STATUS, READ TIME and READ CONFIG (R177, R178, R181, R185,
R186), and O16. -/

namespace Sys2Proof.Machine

/-! ### Codes and bits fit their byte -/

theorem verdictCode_mod (v : Verdict) : verdictCode v % 256 = verdictCode v := by cases v <;> rfl

theorem stackStateCode_mod (s : StackState) : stackStateCode s % 256 = stackStateCode s := by
  cases s <;> rfl

theorem tallyStateCode_mod (s : TallyState) : tallyStateCode s % 256 = tallyStateCode s := by
  cases s <;> rfl

theorem modeCode_mod (m : Mode) : modeCode m % 256 = modeCode m := by cases m <;> rfl

theorem refStateCode_mod (r : RefState) : refStateCode r % 256 = refStateCode r := by
  cases r <;> rfl

theorem synthCode_mod (s : Synth) : synthCode s % 256 = synthCode s := by cases s <;> rfl

theorem stageCode_mod (s : StageState) : stageCode s % 256 = stageCode s := by cases s <;> rfl

theorem outcomeCode_mod (o : OpOutcome) : outcomeCode o % 256 = outcomeCode o := by cases o <;> rfl

theorem reasonCode_mod (r : Reason) : reasonCode r % 256 = reasonCode r := by cases r <;> rfl

theorem busyCode_mod (c : BusyName) : busyCode c % 256 = busyCode c := by cases c <;> rfl

theorem classCode_mod (l : Link) : classCode l % 256 = classCode l := by cases l <;> rfl

theorem bit_mod (p : Prop) [Decidable p] : (if p then 1 else 0) % 256 = if p then 1 else 0 := by
  split <;> rfl

theorem byteBool_beq {α : Type} [DecidableEq α] (x y : α) :
    byteBool (x == y) = byte1 (if x = y then 1 else 0) := by
  simp [byteBool]

/-- What is sent for the receiver: BUSY or not (R181). -/
theorem receiverCode_eq (r : Receiver) : receiverCode r = if r = .busy then 1 else 0 := by
  cases r <;> rfl

/-- An absent value field is sent as it stands (R181). -/
theorem absent_mod : 0xFFFFFFFF % 4294967296 = 0xFFFFFFFF := Nat.mod_eq_of_lt (by decide)

/-! ### Fields of a block -/

/-- Of an entry that holds nothing only the index byte is sent (R177). -/
theorem u8_empty_entry (i n : Nat) {k : Nat} (hk : 1 ≤ k) :
    u8 (byte1 i ++ List.replicate n 0#8) k = 0 := by
  obtain ⟨k, rfl⟩ := Nat.exists_eq_add_of_le' hk
  show u8 (List.replicate n 0#8) k = 0
  simp [u8]

theorem forall_lt_four {P : Nat → Prop} (h0 : P 0) (h1 : P 1) (h2 : P 2) (h3 : P 3) :
    ∀ n, n < 4 → P n
  | 0, _ => h0
  | 1, _ => h1
  | 2, _ => h2
  | 3, _ => h3

/-! ### READ LIVE -/

theorem flatMap_ite {α β : Type} (p : α → Bool) (f : α → List β) (l : List α) :
    (l.flatMap fun x => if p x then f x else []) = (l.filter p).flatMap f := by
  induction l with
  | nil => rfl
  | cons x l ih => cases hp : p x <;> simp [hp, ih]

theorem flatMap_range_four {β : Type} (f : Nat → List β) :
    (List.range 4).flatMap f = f 0 ++ f 1 ++ f 2 ++ f 3 := by
  simp [List.range_succ]

/-- The entry of a channel in READ LIVE, field by field (R185). -/
def liveEntry (index : Nat) (flags : List Bool)
    (verdict second yRef running stack kind conversions y yDry : Nat) : List Byte :=
  byte1 index ++ (byte1 (flagsByte flags) ++ (byte1 verdict ++ (bytes4 second ++ (bytes4 yRef
    ++ (bytes4 running ++ (byte1 stack ++ (byte1 kind ++ (byte1 conversions ++ (bytes4 y
    ++ bytes4 yDry)))))))))

theorem encodeLiveChannel_absent (i : Nat) {x : NormChannel} (run : Option Nat)
    (h : x.value = none) : encodeLiveChannel i (some x) run =
      liveEntry i [true, false, false, false, false, run.isSome] 0 x.second 0xFFFFFFFF
        (run.getD 0xFFFFFFFF) 0xFF 0xFF 0xFF 0xFFFFFFFF 0xFFFFFFFF := by
  simp only [encodeLiveChannel, liveEntry, h, List.append_assoc, bytesOpt4_eq, byteOpt_eq,
    Option.getD_none]

theorem encodeLiveChannel_value (i : Nat) {x : NormChannel} {v : NormValue} (run : Option Nat)
    (h : x.value = some v) : encodeLiveChannel i (some x) run =
      liveEntry i [true, true, v.outOfCal, v.saturated, v.yRef.isSome, run.isSome, v.y.isSome,
          v.yDry.isSome] (verdictCode v.verdict) x.second (v.yRef.getD 0xFFFFFFFF)
        (run.getD 0xFFFFFFFF) v.stack (kindCode v.kind) (v.conversions.getD 0xFF)
        (v.y.getD 0xFFFFFFFF) (v.yDry.getD 0xFFFFFFFF) := by
  simp only [encodeLiveChannel, liveEntry, h, List.append_assoc, bytesOpt4_eq, byteOpt_eq]

theorem liveEntry_fields {i w n r e k c m y d : Nat} {flags : List Bool} {b : List Byte}
    (hb : b = liveEntry i flags w n r e k c m y d) :
    b.length = 26 ∧ u8 b 0 = i % 256 ∧
      (List.range 8).map (b.getD 1 0).getLsbD = (List.range 8).map (fun j => flags.getD j false) ∧
      u8 b 2 = w % 256 ∧ u32 b 3 = n % 4294967296 ∧ u32 b 7 = r % 4294967296 ∧
      u32 b 11 = e % 4294967296 ∧
      u8 b 15 = k % 256 ∧ u8 b 16 = c % 256 ∧ u8 b 17 = m % 256 ∧ u32 b 18 = y % 4294967296 ∧
      u32 b 22 = d % 4294967296 := by
  subst hb
  exact ⟨rfl, rfl, flagBits_flagsByte flags, rfl, u32_bytes4 _, u32_bytes4 _, u32_bytes4 _, rfl,
    rfl, rfl, u32_bytes4 _, u32_bytes4 _⟩

/-! ### READ TALLY -/

theorem tallyChannelBlock_eq {t : TallySlot} {i : Nat} {c : ChannelTally}
    (h : t.channels[i]? = some c) : tallyChannelBlock t i =
      bytes2 (t.year.getD 0) ++ (byte1 (tallyStateCode t.state) ++ (byte1 i
        ++ (byte1 ((c.label.map Prod.fst).getD 0xFF)
        ++ (byte1 ((c.label.map fun l => kindCode l.2).getD 0xFF)
        ++ (bytes2 c.ivValid ++ (bytes2 c.ivInvalid ++ (bytes2 c.ivAbnormal
        ++ (bytes2 c.ivNotOp ++ (bytes2 c.ivUnrecorded ++ (bytes2 c.ivExceedances
        ++ (bytes2 c.dayValid ++ (bytes2 c.dayInvalid ++ (bytes2 c.dayNoOperation
        ++ (bytes2 c.dayUnrecorded ++ (bytes2 c.dayExceedances ++ (bytes2 c.annotated
        ++ (bytes2 c.annulled ++ (bytes2 c.loadGaps
        ++ (bytes4 ((c.maxInterval.map Prod.fst).getD 0xFFFFFFFF)
        ++ (bytes4 ((c.maxInterval.map Prod.snd).getD 0xFFFFFFFF)
        ++ (bytes4 ((c.maxDay.map Prod.fst).getD 0xFFFFFFFF)
        ++ (bytes4 ((c.maxDay.map Prod.snd).getD 0xFFFFFFFF)
        ++ (bytes4 c.secsOutcal ++ (bytes4 c.secsSat
        ++ bytes8 c.load)))))))))))))))))))))))) := by
  have hchannel : t.channels.getD i .zero = c := by
    rw [List.getD_eq_getElem?_getD, h, Option.getD_some]
  unfold tallyChannelBlock tallyHead
  simp only [hchannel, List.append_assoc, bytesOpt4_eq, byteOpt_eq]

theorem tallyDeviceBlock_eq (t : TallySlot) : tallyDeviceBlock t =
    bytes2 (t.year.getD 0) ++ (byte1 (tallyStateCode t.state) ++ (byte1 0xFF
      ++ (bytes4 (t.stackAbn.getD 0 0) ++ (bytes4 (t.stackAbn.getD 1 0)
      ++ (bytes4 (t.stackAbn.getD 2 0) ++ (bytes4 (t.stackAbn.getD 3 0)
      ++ (bytes4 t.overwritten ++ (bytes4 t.notStored ++ (bytes4 t.steps
      ++ (bytes4 t.restarts ++ bytes4 t.lostReports)))))))))) := by
  simp only [tallyDeviceBlock, tallyHead, flatMap_range_four, List.append_assoc]

/-! ### LINK STATUS -/

/-- The fields of a last-operation result, those of none being empty (R169, R186). -/
theorem encodeResult_eq (r : Option OpResult) : encodeResult r =
    byte1 (((r.bind OpResult.command).map busyCode).getD 0)
      ++ (byte1 ((r.map fun x => outcomeCode x.outcome).getD 0)
      ++ (byte1 (((r.bind OpResult.reason).map reasonCode).getD 0)
      ++ (byte1 ((r.bind OpResult.index).getD 0xFF)
      ++ countFields ((r.map OpResult.counts).getD [])))) := by
  cases r with
  | none => rfl
  | some r =>
    simp only [encodeResult, byteOpt_eq, List.append_assoc]
    rfl

theorem linkStatusBlock_eq (s : State) (l : Link) : linkStatusBlock s l =
    byte1 (modeCode s.supply.mode) ++ (byte1 (if s.supply.power = .starting then 1 else 0)
      ++ (byteBool s.time.clockValid ++ (byte1 (refStateCode s.time.reference)
      ++ (byte1 (synthCode s.scan.synth) ++ (byteBool s.scan.faultyA
      ++ (byteBool s.scan.faultyB ++ (byteBool s.store.fault
      ++ (byte1 (stageCode s.config.stage.state)
      ++ (byte1 (if (s.port l).recv = .busy then 1 else 0) ++ (byteBool (s.port l).op.isSome
      ++ (encodeResult (s.port l).last
      ++ bytes2 (s.attention.get l).pending.toNat))))))))))) := by
  simp only [linkStatusBlock, byteBool_beq, receiverCode_eq, List.append_assoc]

/-! ### READ CONFIG -/

theorem drop_skip {α : Type} {l rest : List α} {n : Nat} (h : l.length = n) (i : Nat) :
    (l ++ rest).drop (n + i) = rest.drop i := by
  rw [← h, List.drop_length_add_append]

section Indexed

variable {β : Type} {enc : Nat → β → List Byte} {m : Nat} (henc : ∀ i e, (enc i e).length = m)
include henc

theorem encodeIndexed_length (i : Nat) (l : List β) :
    (encodeIndexed enc i l).length = m * l.length := by
  induction l generalizing i with
  | nil => rfl
  | cons e l ih =>
    rw [encodeIndexed, List.length_append, henc, ih, List.length_cons, Nat.mul_succ, Nat.add_comm]

/-- Entries of one length stand one behind another, each with its index. -/
theorem encodeIndexed_slice (rest : List Byte) (d : β) (l : List β) (i j : Nat)
    (hj : j < l.length) :
    ((encodeIndexed enc i l ++ rest).drop (m * j)).take m = enc (i + j) (l.getD j d) := by
  induction l generalizing i j with
  | nil => exact absurd hj (Nat.not_lt_zero _)
  | cons e l ih =>
    rw [encodeIndexed, List.append_assoc]
    cases j with
    | zero => exact List.take_left' (henc i e)
    | succ j =>
      rw [Nat.mul_succ, Nat.add_comm, drop_skip (henc i e),
        ih (i + 1) j (Nat.lt_of_succ_lt_succ hj), List.getD_cons_succ, Nat.add_right_comm, Nat.add_assoc]

end Indexed

section Active

theorem activeBlock_eq (t : Tables) : activeBlock t =
    byte1 0 ++ (encodeIndexed encodeChannelEntry 0 t.channels
      ++ (encodeIndexed encodeStackEntry 0 t.stackTab ++ encodeDevice t.device)) := by
  simp only [activeBlock, List.append_assoc]

variable {t : Tables}

/-- Past the section byte stand the channel entries. -/
theorem drop_activeBlock (n : Nat) : (activeBlock t).drop (1 + n) =
    (encodeIndexed encodeChannelEntry 0 t.channels
      ++ (encodeIndexed encodeStackEntry 0 t.stackTab ++ encodeDevice t.device)).drop n := by
  rw [activeBlock_eq, drop_skip (show (byte1 0).length = 1 from rfl)]

theorem stackEntries_length (h : t.stackTab.length = 4) :
    (encodeIndexed encodeStackEntry 0 t.stackTab).length = 19 * 4 := by
  rw [encodeIndexed_length encodeStackEntry_length, h]

variable (hchannels : t.channels.length = 32) (hstacks : t.stackTab.length = 4)
include hchannels

theorem channelEntries_length :
    (encodeIndexed encodeChannelEntry 0 t.channels).length = 37 * 32 := by
  rw [encodeIndexed_length encodeChannelEntry_length, hchannels]

theorem activeBlock_channel {c : Nat} (hc : c < 32) :
    ((activeBlock t).drop (1 + 37 * c)).take 37 = encodeChannelEntry c (t.channel c) := by
  rw [drop_activeBlock, encodeIndexed_slice encodeChannelEntry_length _ .factory _ _ _
    (hchannels ▸ hc), Nat.zero_add]
  rfl

include hstacks

theorem activeBlock_length : (activeBlock t).length = 1265 := by
  rw [activeBlock_eq, List.length_append, List.length_append, List.length_append,
    channelEntries_length hchannels, stackEntries_length hstacks]
  rfl

theorem activeBlock_stack {k : Nat} (hk : k < 4) :
    ((activeBlock t).drop (1185 + 19 * k)).take 19 = encodeStackEntry k (t.stack k) := by
  have hplace : 1185 + 19 * k = 1 + (37 * 32 + 19 * k) := by omega
  rw [hplace, drop_activeBlock, drop_skip (channelEntries_length hchannels),
    encodeIndexed_slice encodeStackEntry_length _ .factory _ _ _ (hstacks ▸ hk), Nat.zero_add]
  rfl

theorem activeBlock_device : (activeBlock t).drop 1261 = encodeDevice t.device := by
  have hplace : 1261 = 1 + (37 * 32 + (19 * 4 + 0)) := rfl
  rw [hplace, drop_activeBlock, drop_skip (channelEntries_length hchannels),
    drop_skip (stackEntries_length hstacks), List.drop_zero]

end Active

theorem stageBlock_eq (g : StageSet) (now : Nat) : stageBlock g now =
    byte1 1 ++ (byte1 (stageCode g.state)
      ++ (byte1 (if g.state = .approved then (g.approver.map classCode).getD 0 else 0)
      ++ (bytes4 (if g.state = .approved then namedBoundary now else 0xFFFFFFFF)
      ++ (byte1 g.channels.length ++ ((g.channels.flatMap fun e => encodeChannelEntry e.1 e.2)
      ++ (byte1 g.stackTab.length ++ ((g.stackTab.flatMap fun e => encodeStackEntry e.1 e.2)
      ++ g.device.elim [0] fun d => 1 :: encodeDevice d))))))) := by
  unfold stageBlock
  simp only [List.append_assoc]
  by_cases happroved : g.state = .approved
  · rw [if_pos happroved, if_pos happroved, if_pos happroved]
    cases g.device <;> rfl
  · rw [if_neg happroved, if_neg happroved, if_neg happroved]
    cases g.device <;> rfl

/-- The due transfer time that the counter reaches (R186). -/
theorem namedBoundary_of_le {t : Nat} (h : (t / 1800 + 1) * 1800 ≤ 4294967295) :
    namedBoundary t = (t / 1800 + 1) * 1800 := if_pos h

/-- Where the counter reaches none it is the free value (log entry 23). -/
theorem namedBoundary_of_lt {t : Nat} (h : 4294967295 < (t / 1800 + 1) * 1800) :
    namedBoundary t = (Config.boundaryBeyond t).toNat := if_neg (Nat.not_le.2 h)

/-! ### The blocks -/

/-- Settles O16: each block's fields from its layout, first field first, and each code as listed. -/
theorem blocksAreLaidOut : Obligations.BlocksAreLaidOut := by
  refine ⟨⟨fun s set => ?_, fun i e run b hb => ?_, fun k e b hb => ?_⟩,
    fun t i b c hb hc => ?_, fun t b hb => ?_, fun s l b hb => ?_, fun t b hb => ?_,
    fun t b hb hchannels hstacks => ?_, fun g now b hb => ?_,
    rfl, rfl, rfl, rfl, rfl, rfl, rfl, rfl, rfl, rfl⟩
  · rw [liveBlock, flatMap_ite, flatMap_range_four]
  · cases e with
    | none =>
      subst hb
      exact ⟨rfl, rfl, fun _ k hk => u8_empty_entry i 25 hk,
        fun x hx => absurd hx.symm (Option.some_ne_none x)⟩
    | some x =>
      cases hx : x.value with
      | none =>
        rw [encodeLiveChannel_absent i run hx] at hb
        obtain ⟨hlength, hindex, hflags, hverdict, hsecond, hyRef, hrun, hstack, hkind, hconv, hy,
          hyDry⟩ := liveEntry_fields hb
        refine ⟨hlength, hindex, fun h => absurd h (Option.some_ne_none x), fun x' hx' => ?_⟩
        obtain rfl := Option.some.inj hx'
        exact ⟨hsecond, hrun, fun _ => ⟨hflags, hverdict, hyRef.trans absent_mod, hstack, hkind,
          hconv, hy.trans absent_mod, hyDry.trans absent_mod⟩,
          fun v hv => absurd (hv.symm.trans hx) (Option.some_ne_none v)⟩
      | some v =>
        rw [encodeLiveChannel_value i run hx] at hb
        obtain ⟨hlength, hindex, hflags, hverdict, hsecond, hyRef, hrun, hstack, hkind, hconv, hy,
          hyDry⟩ := liveEntry_fields hb
        refine ⟨hlength, hindex, fun h => absurd h (Option.some_ne_none x), fun x' hx' => ?_⟩
        obtain rfl := Option.some.inj hx'
        refine ⟨hsecond, hrun, fun h => absurd (hx.symm.trans h) (Option.some_ne_none v),
          fun v' hv' => ?_⟩
        obtain rfl := Option.some.inj (hx.symm.trans hv')
        exact ⟨hflags, hverdict.trans (verdictCode_mod _), hyRef, hstack,
          hkind.trans (kindCode_mod _), hconv, hy, hyDry⟩
  · cases e with
    | none =>
      subst hb
      exact ⟨rfl, rfl, fun _ n hn => u8_empty_entry k 6 hn,
        fun x hx => absurd hx.symm (Option.some_ne_none x)⟩
    | some x =>
      subst hb
      refine ⟨rfl, rfl, fun h => absurd h (Option.some_ne_none x), fun x' hx' => ?_⟩
      obtain rfl := Option.some.inj hx'
      exact ⟨flagBits_flagsByte _, stackStateCode_mod _, u32_bytes4 _⟩
  · rw [tallyChannelBlock_eq hc] at hb
    subst hb
    refine ⟨rfl, u16_bytes2 _, tallyStateCode_mod _, rfl, fun hnone => ?_, fun k n hlabel => ?_,
      ?_, ?_, u32_bytes4 _, u32_bytes4 _, u32_bytes8 _⟩
    · rw [hnone]
      exact ⟨rfl, rfl⟩
    · rw [hlabel]
      exact ⟨rfl, kindCode_mod n⟩
    · exact fields_eq <| .cons (u16_bytes2 _) <| .cons (u16_bytes2 _) <|
        .cons (u16_bytes2 _) <| .cons (u16_bytes2 _) <| .cons (u16_bytes2 _) <|
        .cons (u16_bytes2 _) <| .cons (u16_bytes2 _) <| .cons (u16_bytes2 _) <|
        .cons (u16_bytes2 _) <| .cons (u16_bytes2 _) <| .cons (u16_bytes2 _) <|
        .cons (u16_bytes2 _) <| .cons (u16_bytes2 _) <| .cons (u16_bytes2 _) .nil
    · exact fields_eq <| .cons (u32_bytes4 _) <| .cons (u32_bytes4 _) <|
        .cons (u32_bytes4 _) <| .cons (u32_bytes4 _) .nil
  · rw [tallyDeviceBlock_eq] at hb
    subst hb
    refine ⟨rfl, u16_bytes2 _, tallyStateCode_mod _, rfl,
      forall_lt_four (u32_bytes4 _) (u32_bytes4 _) (u32_bytes4 _) (u32_bytes4 _), ?_⟩
    exact fields_eq <| .cons (u32_bytes4 _) <| .cons (u32_bytes4 _) <| .cons (u32_bytes4 _) <|
      .cons (u32_bytes4 _) <| .cons (u32_bytes4 _) .nil
  · rw [linkStatusBlock_eq, encodeResult_eq] at hb
    subst hb
    refine ⟨rfl, modeCode_mod _, bit_mod (s.supply.power = .starting),
      bit_mod (s.time.clockValid = true), refStateCode_mod _, synthCode_mod _,
      bit_mod (s.scan.faultyA = true), bit_mod (s.scan.faultyB = true),
      bit_mod (s.store.fault = true), stageCode_mod _, bit_mod ((s.port l).recv = .busy),
      bit_mod ((s.port l).op.isSome = true), fun hnone => ?_,
      fun r hr => ?_, (u16_bytes2 _).trans (Nat.mod_eq_of_lt (BitVec.isLt _))⟩
    · rw [hnone]
      exact ⟨rfl, rfl, rfl, rfl,
        forall_lt_four (u32_bytes4 0) (u32_bytes4 0) (u32_bytes4 0) (u32_bytes4 0)⟩
    · rw [hr]
      refine ⟨?_, outcomeCode_mod _, ?_, rfl,
        forall_lt_four (u32_bytes4 _) (u32_bytes4 _) (u32_bytes4 _) (u32_bytes4 _)⟩
      · show (r.command.map busyCode).getD 0 % 256 = _
        cases r.command with
        | none => rfl
        | some c => exact busyCode_mod c
      · show (r.reason.map reasonCode).getD 0 % 256 = _
        cases r.reason with
        | none => rfl
        | some c => exact reasonCode_mod c
  · subst hb
    exact ⟨rfl, u32_bytes4 _, u16_bytes2 _, bit_mod (t.clockValid = true), refStateCode_mod _,
      (u16_bytes2 _).trans (Nat.mod_eq_of_lt (BitVec.isLt _)), u16_bytes2 _⟩
  · subst hb
    exact ⟨activeBlock_length hchannels hstacks, rfl, fun c hc => activeBlock_channel hchannels hc,
      fun k hk => activeBlock_stack hchannels hstacks hk, activeBlock_device hchannels hstacks⟩
  · rw [stageBlock_eq] at hb
    subst hb
    refine ⟨rfl, stageCode_mod _, fun hother => ?_, fun l happroved hl => ?_, rfl, ?_⟩
    · rw [if_neg hother, if_neg hother]
      exact ⟨rfl, (u32_bytes4 _).trans absent_mod⟩
    · rw [if_pos happroved, if_pos happroved, hl]
      refine ⟨classCode_mod l, fun hreached => ?_, fun hbeyond => ?_⟩
      · rw [namedBoundary_of_le hreached]
        exact (u32_bytes4 _).trans (Nat.mod_eq_of_lt (Nat.lt_succ_of_le hreached))
      · rw [namedBoundary_of_lt hbeyond]
        exact (u32_bytes4 _).trans (Nat.mod_eq_of_lt (BitVec.isLt _))
    · cases g.device with
      | none => rfl
      | some d => rfl

end Sys2Proof.Machine
end
